-- ==== Sys2Proof/Word.lean ====
section
/-! DEFINITION. The word types of the BX-40 as the spec uses them: bytes and multi-byte fields of host
memory (little-endian, 00_scope.md "Byte order"), host addresses, backplane words, and the 64-byte
records the part reads. -/

namespace Sys2Proof

/-- One byte of host memory. -/
abbrev Byte := BitVec 8

/-- A 64-bit host memory address. -/
abbrev HostAddr := BitVec 64

/-- One word of the 32 AD lines: a backplane address or a data beat (03, "Transactions on the
Backplane"). -/
abbrev BusWord := BitVec 32

/-- A 64-byte record as read from host memory: a transaction record or an admin command record
(10_host_memory_formats.md). Entry `k` is the byte at offset `k`. -/
abbrev Block := Vector Byte 64

/-- The data of one write-data read: up to 32 bytes, the first at the lowest address (R169's source
table: "write-data reads and read-data writes of up to 32 bytes"). -/
abbrev BurstData := Vector Byte 32

end Sys2Proof
end

