-- ==== Sys2Proof/Syntax.lean ====
section
/-! DEFINITION. The commands of the BX-40: one constructor of `Instr` for each row of
spec/opcode_table.json, in the table's order, with the operands its rule gives it. A host access
carries the fields of its register write, a report of the Host Port carries its outcome and data, a
backplane event carries what its driver presents. -/

namespace Sys2Proof

/-- A target's answer on RS (R47, R49). -/
inductive Answer
  | ack | hold | retry | fault
  deriving DecidableEq, Repr

/-- A phase code other than "no phase" on PH (R46's table; both directions of a data beat are the
one code DATA). -/
inductive PhaseCode
  | addrRead | addrWrite | addrLock | data | openPage | closePage | notice | endLock | abort
  deriving DecidableEq, Repr

/-- What an interrupt configuration event of R171 names: one vector's mask, or the enable of
message-signalled interrupts as a whole. -/
inductive VectorScope
  | vector (v : Fin 16)
  | messages
  deriving DecidableEq, Repr

/-- The commands of the block, one per row of spec/opcode_table.json. -/
inductive Instr
  /-- POWER_ON_RESET (R175). -/
  | powerOnReset
  /-- FUNCTION_LEVEL_RESET (R175). -/
  | functionLevelReset
  /-- RESET written to CONTROL (R175). -/
  | reset
  /-- ENABLE written to CONTROL (R172). -/
  | enable
  /-- QUIESCE written to CONTROL (R173). -/
  | quiesce
  /-- QUIESCED_REACHED: the end of quiescing (R173). -/
  | quiescedReached
  /-- STATE_WRITE: an aligned 32-bit write to STATE (R165). -/
  | stateWrite (value : BitVec 32)
  /-- REGISTER_WRITE: a write of `bytes` bytes at `offset` of the register space (R164). -/
  | registerWrite (offset : BitVec 12) (bytes : Nat) (value : BitVec 32)
  /-- SUBMIT: a NOTIFY write of kind 0 (R3, R167). -/
  | submit (ring : BitVec 4) (index : BitVec 12) (arm : Bool)
  /-- COMPLETE: a NOTIFY write of kind 1 (R117, R167). -/
  | complete (ring : BitVec 4) (index : BitVec 12) (arm : Bool)
  /-- NOTICE: a NOTIFY write of kind 2 (R144, R167). -/
  | notice (ring : BitVec 4) (index : BitVec 12) (arm : Bool)
  /-- ADMIN_SUBMIT: a NOTIFY write of kind 3 (R147, R167). -/
  | adminSubmit (ring : BitVec 4) (index : BitVec 12) (arm : Bool)
  /-- ADMIN_COMPLETE: a NOTIFY write of kind 4 (R127, R167). -/
  | adminComplete (ring : BitVec 4) (index : BitVec 12) (arm : Bool)
  /-- NOTIFY_INVALID_KIND: a NOTIFY write whose kind code is 5 to 7 (R179). -/
  | notifyInvalidKind (word : BitVec 32)
  /-- HOST_ACCESS_ISSUE: the access arbiter issues the next waiting request (R169). -/
  | hostAccessIssue
  /-- HOST_READ_TIMEOUT: 16 ms pass without the data of the outstanding read (R169). -/
  | hostReadTimeout
  /-- RING_CHOICE (R7). -/
  | ringChoice
  /-- SUBMISSION_READ_DONE: the report of a record fetch, with the record or failed (R8). -/
  | submissionReadDone (result : Option Block)
  /-- SELECTION (R32). -/
  | selection
  /-- SETTLE_ONLY_SETTLEMENT (R29). -/
  | settleOnlySettlement
  /-- POSTING_HANDOVER (R41). -/
  | postingHandover
  /-- WRITE_DATA_READ_DONE: the report of a write-data read, with the data or failed (R56). -/
  | writeDataReadDone (result : Option BurstData)
  /-- TARGET_ANSWER: an answer on RS, what AD carries with it, and whether PAR is right (R47, R49). -/
  | targetAnswer (answer : Answer) (ad : BusWord) (parityRight : Bool)
  /-- RESPONSE_LIMIT_EXPIRY (R64). -/
  | responseLimitExpiry
  /-- READ_DATA_WRITE_DONE: the report of a delivery write, done or failed (R55). -/
  | readDataWriteDone (done : Bool)
  /-- OPEN_TIMER_EXPIRY of one bank of one window (R88). -/
  | openTimerExpiry (window : Fin 16) (bank : Fin 4)
  /-- CLOSE_OPERATION (R89, R90). -/
  | closeOperation
  /-- RELEASE_COMPLETE (R104). -/
  | releaseComplete
  /-- GNT_RISE (R99, R100). -/
  | gntRise
  /-- GNT_DROP (R104, R105). -/
  | gntDrop
  /-- WITHDRAW: WDR is asserted (R102). -/
  | withdraw
  /-- LINK_LOSS: 5 µs without a CLK edge (R94). -/
  | linkLoss
  /-- BACKPLANE_RESET: RST is asserted (R109). -/
  | backplaneReset
  /-- PHASE_ACTIVITY: a phase code presented on PH by some master (R96, R132). -/
  | phaseActivity (code : PhaseCode)
  /-- JOIN_TIMER_EXPIRY (R96). -/
  | joinTimerExpiry
  /-- INBOUND_NOTICE_PHASE: a NOTICE phase of another master: AD, the beat count on PH, and whether
  PAR is right (R131). -/
  | inboundNoticePhase (ad : BusWord) (beats : Nat) (parityRight : Bool)
  /-- INBOUND_NOTICE_BEAT: beat 0, 1 or 2 of an inbound notice (R132). -/
  | inboundNoticeBeat (ad : BusWord) (parityRight : Bool)
  /-- INBOUND_CHECK_WORD: beat 3 of an inbound notice (R133). -/
  | inboundCheckWord (ad : BusWord) (parityRight : Bool)
  /-- NOTICE_RECEIVE_TIMEOUT: 1024 µs after the address phase (R132). -/
  | noticeReceiveTimeout
  /-- NOTICE_ENTRY_WRITE_DONE: the report of a notice entry write (R140, R141). -/
  | noticeEntryWriteDone (done : Bool)
  /-- COMPLETION_ENTRY_WRITE_DONE: the report of a completion entry write (R119, R122). -/
  | completionEntryWriteDone (done : Bool)
  /-- ADMIN_COMPLETION_WRITE_DONE: the report of an admin completion write (R128, R122). -/
  | adminCompletionWriteDone (done : Bool)
  /-- ADMIN_COMMAND_READ_FAILED (R149). -/
  | adminCommandReadFailed
  /-- UNKNOWN_COMMAND: an admin command record with an unlisted code arrives (R150). -/
  | unknownCommand (record : Block)
  /-- CREATE_CRING arrives, code 01h (R153). -/
  | createCring (record : Block)
  /-- DELETE_CRING arrives, code 02h (R153). -/
  | deleteCring (record : Block)
  /-- CREATE_SRING arrives, code 03h (R154). -/
  | createSring (record : Block)
  /-- DELETE_SRING arrives, code 04h (R21, R154). -/
  | deleteSring (record : Block)
  /-- SRING_DELETION_END (R21). -/
  | sringDeletionEnd
  /-- HALT_SRING arrives, code 05h (R18). -/
  | haltSring (record : Block)
  /-- RESUME_SRING arrives, code 06h (R19). -/
  | resumeSring (record : Block)
  /-- FLUSH_SRING arrives, code 07h (R20). -/
  | flushSring (record : Block)
  /-- FLUSH_WALK: the flush takes its next position (R20). -/
  | flushWalk
  /-- SET_WINDOW arrives, code 08h (R79). -/
  | setWindow (record : Block)
  /-- CLEAR_WINDOW arrives, code 09h (R80). -/
  | clearWindow (record : Block)
  /-- END_OF_DRAINING (R81). -/
  | endOfDraining
  /-- REOPEN_WINDOW arrives, code 0Ah (R78). -/
  | reopenWindow (record : Block)
  /-- SET_NODE arrives, code 0Dh (R130). -/
  | setNode (record : Block)
  /-- SET_NOTICE_RING arrives, code 0Ch (R138). -/
  | setNoticeRing (record : Block)
  /-- SET_FILTER arrives, code 0Bh (R159). -/
  | setFilter (record : Block)
  /-- ATTACH arrives, code 0Eh (R95). -/
  | attach (record : Block)
  /-- DETACH arrives, code 0Fh (R106). -/
  | detach (record : Block)
  /-- QUERY arrives, code 10h (R162). -/
  | query (record : Block)
  /-- QUERY_REPORT_WRITE_DONE: the report of a QUERY report write (R162). -/
  | queryReportWriteDone (done : Bool)
  /-- VECTOR_UNMASK (R171). -/
  | vectorUnmask (scope : VectorScope)
  /-- CLOCK_RETURN: a CLK edge while clock present is no (R94). -/
  | clockReturn
  /-- RST_RELEASED (R109). -/
  | rstReleased
  /-- WDR_DEASSERTED (R102). -/
  | wdrDeasserted
  /-- VECTOR_MASKED (R171). -/
  | vectorMasked (scope : VectorScope)
  deriving DecidableEq, Repr

end Sys2Proof
end

