-- ==== Sys2Proof/Config.lean ====
section
/-! DEFINITION. What the spec leaves open and an implementation fixes: the codes that the PH and RS
lines carry. Each is an uninterpreted constant: no proof can see a value of it. -/

namespace Sys2Proof.Config

/-- How many of the PH lines are 1 when a phase code and its beat count are presented. R46 names the
codes and R49 counts their ones, but spec/ gives PH no width and its codes no bits (free value,
notes/assumptions/4.md). -/
opaque phOnes : PhaseCode → Nat → Nat

/-- The code of an answer on the two RS lines: R47 names the four answers, spec/ gives them no bits
(free value, notes/assumptions/4.md). -/
opaque rsCode : Answer → BitVec 2

end Sys2Proof.Config
end

