-- ==== Sys2Proof/Decode.lean ====
section
/-! DEFINITION. Reading bits: the little-endian fields of a 64-byte record, the fields of NOTIFY and
CONTROL (R179), the command that a register write or an admin command record stands for (R164, R178),
and the host's question `decodeTableWord`. -/

namespace Sys2Proof

/-! ### Fields of a 64-byte record (00_scope.md, "Byte order") -/

/-- The byte at offset `o`. -/
def byteAt (b : Block) (o : Nat) : Byte := b.toList.getD o 0#8

/-- The little-endian 16-bit field at offset `o`. -/
def halfAt (b : Block) (o : Nat) : BitVec 16 := byteAt b (o + 1) ++ byteAt b o

/-- The little-endian 32-bit field at offset `o`. -/
def wordAt (b : Block) (o : Nat) : BitVec 32 := halfAt b (o + 2) ++ halfAt b o

/-- The little-endian 64-bit field at offset `o`. -/
def longAt (b : Block) (o : Nat) : BitVec 64 := wordAt b (o + 4) ++ wordAt b o

/-! ### Register writes -/

/-- The command of a 32-bit write to NOTIFY (R179): index in bits 11:0, ring id in 15:12, kind in
18:16, ARM in 31. -/
def notifyCommand (value : BitVec 32) : Instr :=
  let index := value.extractLsb' 0 12
  let ring := value.extractLsb' 12 4
  let arm := value.getLsbD 31
  match (value.extractLsb' 16 3).toNat with
  | 0 => .submit ring index arm
  | 1 => .complete ring index arm
  | 2 => .notice ring index arm
  | 3 => .adminSubmit ring index arm
  | 4 => .adminComplete ring index arm
  | _ => .notifyInvalidKind value

/-- The command of a write of `bytes` bytes at `offset` (R164, R179), where the write is one with a row
of its own; none for every other write. -/
def registerCommand (offset : BitVec 12) (bytes : Nat) (value : BitVec 32) : Option Instr :=
  if bytes ≠ 4 then none
  else if offset = 0x004#12 then
    if value = 0x00000001#32 then some .enable
    else if value = 0x00000002#32 then some .quiesce
    else if value = 0x000000A5#32 then some .reset
    else none
  else if offset = 0x008#12 then some (.stateWrite value)
  else if offset = 0x020#12 then some (notifyCommand value)
  else none

/-- The command of any write to the register space. -/
def hostWriteCommand (offset : BitVec 12) (bytes : Nat) (value : BitVec 32) : Instr :=
  (registerCommand offset bytes value).getD (.registerWrite offset bytes value)

/-! ### Admin command records -/

/-- The command an arriving admin command record stands for, by its code byte (R178 and the command
table of 10_host_memory_formats.md). -/
def adminCommand (record : Block) : Instr :=
  match (byteAt record 0).toNat with
  | 0x01 => .createCring record
  | 0x02 => .deleteCring record
  | 0x03 => .createSring record
  | 0x04 => .deleteSring record
  | 0x05 => .haltSring record
  | 0x06 => .resumeSring record
  | 0x07 => .flushSring record
  | 0x08 => .setWindow record
  | 0x09 => .clearWindow record
  | 0x0A => .reopenWindow record
  | 0x0B => .setFilter record
  | 0x0C => .setNoticeRing record
  | 0x0D => .setNode record
  | 0x0E => .attach record
  | 0x0F => .detach record
  | 0x10 => .query record
  | _ => .unknownCommand record

/-! ### The table's words -/

/-- The command that a word spells by the bits of spec/opcode_table.json. No row of the table gives
bits (98_reader.md: "n_rows_with_fixed": 0), so no word spells one. -/
def decodeTableWord (_nbits _w : Nat) : Option Instr := none

end Sys2Proof
end

