-- ==== Sys2Proof/Machine/State.lean ====
section
/-! DEFINITION. The state of the BX-40 as plain data: every register, table, buffer, counter, mode and
line that spec/ gives the part, each with the value it has after reset, and the queue of waiting
commands. INVENTORY.md lists every field with the rule that names it. -/

namespace Sys2Proof.Machine

/-! ### Names -/

/-- Engine states (R165). -/
inductive EngineState
  | off | running | quiescing | quiesced | failed
  deriving DecidableEq, Repr

/-- Fatal causes (R165). -/
inductive FatalCause
  | none | badAdmin | submissionRead | adminRead | completionWrite | adminCompletionWrite
  | noticeWrite
  deriving DecidableEq, Repr

/-- The six sources of host-memory accesses, in the order of R169's source table. -/
inductive Source
  | ringFetch | administration | master | posting | adminPosting | notices
  deriving DecidableEq, Repr

/-- Submission ring states (01, "Ring states"). -/
inductive RingState
  | absent | active | halted | deleting
  deriving DecidableEq, Repr

/-- Order modes of a submission ring (01, "Ring context"). -/
inductive OrderMode
  | ordered | relaxed
  deriving DecidableEq, Repr

/-- Error policies of a submission ring (01, "Ring context"). -/
inductive ErrorPolicy
  | continue | halt
  deriving DecidableEq, Repr

/-- The state of one position of a span table (R4). -/
inductive SpanMark
  | notAdmitted | held | done
  deriving DecidableEq, Repr

/-- A link mark (R25). -/
inductive LinkMark
  | none | ok | broken
  deriving DecidableEq, Repr

/-- Slot states (02, "Slot states"). -/
inductive SlotState
  | free | held | started | inBurst | posting
  deriving DecidableEq, Repr

/-- Chain predecessor outcomes (02, "Slot content"; R26). -/
inductive ChainOutcome
  | notMember | waiting | success | failed
  deriving DecidableEq, Repr

/-- Completion and admin completion statuses (10, the status code table). -/
inductive Status
  | success | mismatch | targetFault | timeout | targetBusy | noWindow | accessDenied | badRecord
  | badAlignment | windowFenced | hostReadError | hostWriteError | busError | linkLost | skipped
  | flushed | unknownCommand | invalidField | alreadyExists | notFound | inUse | wrongState
  | overlap | portActive | notReady
  deriving DecidableEq, Repr

/-- Opcodes of a transaction record (R176). -/
inductive Opcode
  | read | write | compareSwap | noticeSend | marker
  deriving DecidableEq, Repr

/-- Window states (04, "Window states"). -/
inductive WindowState
  | unused | opened | fenced | draining
  deriving DecidableEq, Repr

/-- Drain outcomes (04, "The window table"). -/
inductive DrainOutcome
  | run | fenced
  deriving DecidableEq, Repr

/-- Window kinds (04, "The window table"). -/
inductive WindowKind
  | direct | paged
  deriving DecidableEq, Repr

/-- Access rights of a window (04, "The window table"). -/
inductive AccessRight
  | readWrite | readOnly | writeOnly
  deriving DecidableEq, Repr

/-- Page policies (04, "The window table"). -/
inductive PagePolicy
  | keep | close
  deriving DecidableEq, Repr

/-- Bank record states (04, "The page table"). -/
inductive BankState
  | closed | opened | unknown
  deriving DecidableEq, Repr

/-- Backplane Master states (03, "The Backplane Master"). -/
inductive MasterState
  | idle | fetching | driving | delivering | closing
  deriving DecidableEq, Repr

/-- The phase of an operation that waits for its answer (R46); read and write beats are told apart. -/
inductive Phase
  | addrRead | addrWrite | addrLock | readBeat | writeBeat | openPage | closePage | notice | endLock
  deriving DecidableEq, Repr

/-- How the backplane part of an operation ended (R67's table). -/
inductive OperationEnd
  | clean | retry | fault | timeout | protocolFault
  /-- an abrupt end of ownership by link loss or RST (R66) -/
  | linkLost
  /-- an abrupt end by an unexpected loss of grant (R66) -/
  | grantLost
  | hostReadError
  deriving DecidableEq, Repr

/-- Port states (05, "Port state"). -/
inductive PortState
  | detached | joining | idle | requesting | owner | yielding | releasing
  deriving DecidableEq, Repr

/-- Detach marks (05, "Port state"). -/
inductive DetachMark
  | none | command | errorLimit
  deriving DecidableEq, Repr

/-- Causes of a DETACHED local event (R136). -/
inductive DetachCause
  | command | errorLimit | linkLost | backplaneReset
  deriving DecidableEq, Repr

/-- Notice buffer entry states (07, "State of the Notice Unit"). -/
inductive EntryState
  | free | receiving | accepted | writing
  deriving DecidableEq, Repr

/-- Filter actions (R134). -/
inductive FilterAction
  | accept | urgent | reject
  deriving DecidableEq, Repr

/-! ### Host Port and Engine Control -/

/-- Engine Control and the registers (R164 to R166). -/
structure Engine where
  state : EngineState
  cause : FatalCause
  /-- fatal ring id (R165) -/
  ringId : Nat
  notifyDropped : Bool
  adminBaseLo : BitVec 32
  adminBaseHi : BitVec 32
  adminSize : BitVec 32
  /-- the admin area base taken at the ENABLE that left OFF (R166) -/
  areaBase : HostAddr
  /-- n, taken at the ENABLE that left OFF (R166) -/
  areaSize : Nat
  deriving DecidableEq, Repr

/-- One host-memory access (R169). -/
inductive Access
  | read (addr : HostAddr) (bytes : Nat)
  | write (addr : HostAddr) (data : List Byte)
  deriving DecidableEq, Repr

/-- The access the Host Port has issued and not yet reported (R169). -/
structure Outstanding where
  source : Source
  access : Access
  /-- a write-data read whose burst was abandoned (R56) -/
  stale : Bool
  /-- µs since issue (the 16 ms limit of R169) -/
  elapsed : Nat
  deriving DecidableEq, Repr

/-- The Host Port: the access channel and the interrupt message flags (R169, R171). -/
structure HostPort where
  /-- the request waiting of each source, in the order of R169's table -/
  waiting : Vector (Option Access) 6
  /-- write-data reads that waited when their bursts were abandoned, oldest first (R56): they wait on,
  ahead of the Backplane Master's request, and are stale -/
  abandoned : List Access
  outstanding : Option Outstanding
  lastServed : Source
  /-- the pending flag of each vector (R171) -/
  vectorPending : Vector Bool 16
  /-- the mask of each vector in the function's configuration (R171) -/
  vectorMasked : Vector Bool 16
  /-- message-signalled interrupts are enabled in the function's configuration (R171) -/
  messagesEnabled : Bool
  deriving DecidableEq, Repr

/-! ### The Administration Unit -/

/-- A FLUSH_SRING in progress (R20). -/
structure Flush where
  ring : Fin 8
  /-- the end of the walk, once the held count has been found 0 -/
  stop : Option Nat
  /-- positions given FLUSHED so far -/
  made : Nat
  /-- FLUSHED completions of this flush not yet written -/
  unwritten : Nat
  /-- F and C have reached the end and the ring has gone ACTIVE -/
  walked : Bool
  /-- the reservation it waited for at F has been granted and not yet used (R115) -/
  granted : Bool
  deriving DecidableEq, Repr

/-- What a command in WAITING waits for (R152). -/
inductive Waiting
  | deleteRing (ring : Fin 8)
  | flushRing (flush : Flush)
  | clearWindow (window : Fin 16)
  /-- a SET_NOTICE_RING held until a local event entry write is reported (R138) -/
  | noticeRing (base : HostAddr) (size : Nat) (normal urgent : Fin 16)
  | detach
  deriving DecidableEq, Repr

/-- Unit states of the Administration Unit (08, "Administration Unit state"). -/
inductive AdminState
  | idle | fetching
  | waiting (what : Waiting)
  | writing | completing
  deriving DecidableEq, Repr

/-- The Administration Unit (08, "Administration Unit state"). -/
structure AdminUnit where
  producer : Nat
  consumer : Nat
  state : AdminState
  /-- the command in progress and its position -/
  command : Option (Block × Nat)
  /-- the completion in preparation -/
  status : Status
  result : BitVec 32
  deriving DecidableEq, Repr

/-! ### The Ring Fetch Unit -/

/-- A submission ring context (01, "Ring context"), with the Scheduler's link marks (R25). -/
structure SubmissionRing where
  state : RingState
  base : HostAddr
  size : Nat
  cls : Fin 4
  quota : Nat
  order : OrderMode
  retryLimit : Nat
  policy : ErrorPolicy
  /-- bound completion ring -/
  bound : Fin 8
  /-- P, the host producer index -/
  producer : Nat
  /-- F, the fetch index -/
  fetchIndex : Nat
  /-- C, the consumer index -/
  consumer : Nat
  heldCount : Nat
  haltedAt : Option Nat
  evictionBar : Bool
  /-- entry `k` describes position C + k -/
  span : List SpanMark
  /-- entry `k` is the link mark of position C + k -/
  links : List LinkMark
  /-- the link mark of position C − 1 -/
  linkBefore : LinkMark
  deriving DecidableEq, Repr

/-- A fetched record waiting in the admission register (01, "Ring context"). -/
structure Admission where
  ring : Fin 8
  index : Nat
  record : Block
  /-- the completion ring its reservation was taken in -/
  reservation : Fin 8
  deriving DecidableEq, Repr

/-- A fetch in flight (R8). -/
structure Flight where
  ring : Fin 8
  index : Nat
  reservation : Fin 8
  /-- marked for discard because its ring left ACTIVE (R17, R18, R21) -/
  discard : Bool
  deriving DecidableEq, Repr

/-- The Ring Fetch Unit. -/
structure FetchUnit where
  rings : Vector SubmissionRing 8
  /-- the round-robin pointer: the ring last chosen -/
  lastChosen : Fin 8
  admission : Option Admission
  flight : Option Flight
  deriving DecidableEq, Repr

/-! ### The Dispatch Queue -/

/-- A settled completion on its way to its entry (R41, R118). -/
structure Completion where
  tag : BitVec 16
  ring : Fin 8
  index : Nat
  status : Status
  bytesDone : Nat
  retries : Nat
  result : BitVec 32
  /-- the completion ring its reservation stands in -/
  reservation : Fin 8
  deriving DecidableEq, Repr

/-- A Dispatch Queue slot (02, "Slot content"). -/
structure Slot where
  state : SlotState
  ring : Fin 8
  index : Nat
  sequence : BitVec 32
  /-- effective class -/
  cls : Fin 4
  record : Block
  window : Option (Fin 16)
  preSettled : Option Status
  /-- progress offset -/
  progress : Nat
  retries : Nat
  passes : Nat
  deferred : Bool
  reservation : Option (Fin 8)
  chain : ChainOutcome
  finalStatus : Option Status
  result : BitVec 32
  deriving DecidableEq, Repr

/-- What waits to enter the posting FIFO: a slot in POSTING (R41) or a FLUSHED completion held by the
Administration Unit (R118). -/
inductive Waiter
  | slot (k : Fin 8)
  | flushed (c : Completion)
  deriving DecidableEq, Repr

/-- The Dispatch Queue and the Scheduler. -/
structure Scheduler where
  slots : Vector Slot 8
  /-- the admission sequence counter -/
  sequence : BitVec 32
  /-- the slots in use, oldest admission first -/
  age : List (Fin 8)
  /-- what waits to enter the posting FIFO, first made first (R41, R118) -/
  waiters : List Waiter
  deriving DecidableEq, Repr

/-! ### The Window Unit -/

/-- A bank record (04, "The page table"). -/
structure Bank where
  state : BankState
  page : Nat
  /-- remaining µs of the open timer -/
  timer : Nat
  dueToClose : Bool
  closeRequest : Bool
  deriving DecidableEq, Repr

/-- A window entry (04, "The window table"). -/
structure Window where
  state : WindowState
  drain : DrainOutcome
  base : BusWord
  size : Nat
  kind : WindowKind
  portWidth : Nat
  maxBurst : Nat
  access : AccessRight
  lockPermitted : Bool
  limitClass : Fin 4
  fenceLimit : Nat
  pageSize : Nat
  bankCount : Nat
  policy : PagePolicy
  openLimit : Nat
  inFlight : Nat
  timeouts : Nat
  banks : List Bank
  deriving DecidableEq, Repr

/-! ### The Backplane Master -/

/-- The record of the Master's operation (03, "The Backplane Master"). `slot` is none for a close
operation, and `opcode` is then not used. -/
structure Operation where
  slot : Option (Fin 8)
  opcode : Opcode
  window : Option (Fin 16)
  /-- the bank and page the operation uses, meaningful for a PAGED window -/
  bank : Nat
  page : Nat
  /-- backplane address of the first byte -/
  addr : BusWord
  /-- starting progress offset -/
  start : Nat
  bytes : Nat
  /-- bytes carried by one beat -/
  width : Nat
  beats : Nat
  /-- beats acknowledged so far -/
  acked : Nat
  phase : Option Phase
  /-- µs since the waiting phase was driven (R48) -/
  elapsed : Nat
  /-- response limit in µs, read when the first phase is driven (R48) -/
  limit : Nat
  lockHeld : Bool
  oldValue : Option (BitVec 32)
  /-- how the backplane part ended, held while the data is delivered (R55) -/
  ending : OperationEnd
  deriving DecidableEq, Repr

/-- The Backplane Master. -/
structure Master where
  state : MasterState
  operation : Option Operation
  /-- the staging buffer: the burst's bytes, lowest address first -/
  staging : List Byte
  deriving DecidableEq, Repr

/-! ### The Ownership Controller -/

/-- The Ownership Controller and the ownership and supervision lines (05, "Port state" and "Signal
groups"). -/
structure Port where
  state : PortState
  errorCount : Nat
  mark : DetachMark
  /-- µs left of the join interval; 0 while stopped -/
  joinTimer : Nat
  clockPresent : Bool
  /-- tenure flag -/
  tenure : Bool
  /-- the ring and index of the successor a chain hold waits for (R45) -/
  chainHold : Option (Fin 8 × Nat)
  /-- REQ, out -/
  req : Bool
  /-- LVL, out -/
  lvl : Fin 4
  /-- GNT, in -/
  gnt : Bool
  /-- WDR, in -/
  wdr : Bool
  /-- RST asserted, in -/
  rst : Bool
  deriving DecidableEq, Repr

/-! ### The Notice Unit -/

/-- A notice buffer entry (07, "State of the Notice Unit"). -/
structure BufferEntry where
  state : EntryState
  source : BitVec 16
  code : BitVec 16
  /-- payload bytes 0 to 3, as beat 1 carries them -/
  payloadLow : BusWord
  /-- payload bytes 4 to 7, as beat 2 carries them -/
  payloadHigh : BusWord
  filter : Option (Fin 16)
  urgent : Bool
  arrival : BitVec 32
  bad : Bool
  /-- beats taken so far, 0 to 3 -/
  beats : Nat
  /-- µs since the address phase (R132) -/
  elapsed : Nat
  deriving DecidableEq, Repr

/-- A filter entry (R134). -/
structure FilterEntry where
  enabled : Bool
  sourceValue : BitVec 16
  sourceMask : BitVec 16
  codeValue : BitVec 16
  codeMask : BitVec 16
  action : FilterAction
  deriving DecidableEq, Repr

/-- The notice ring context (07, "Notice ring"). -/
structure NoticeRing where
  present : Bool
  base : HostAddr
  size : Nat
  normalVector : Fin 16
  urgentVector : Fin 16
  producer : Nat
  consumer : Nat
  phase : Bool
  normalArmed : Bool
  urgentArmed : Bool
  armPending : Bool
  lastUrgent : Option Nat
  deriving DecidableEq, Repr

/-- The notice entry write asked for and not yet reported (R140): the buffer entry it writes, or none
for a local event, and whether the entry is urgent. -/
structure NoticeWrite where
  buffer : Option (Fin 4)
  urgent : Bool
  deriving DecidableEq, Repr

/-- The Notice Unit. -/
structure NoticeUnit where
  nodeId : Option (BitVec 5)
  buffer : Vector BufferEntry 4
  arrival : BitVec 32
  filters : Vector FilterEntry 16
  /-- the default action is ACCEPT (else REJECT) -/
  defaultAccept : Bool
  ring : NoticeRing
  attached : Bool
  detached : Option DetachCause
  /-- the pending WINDOW_FENCED event: its window set, bit w for window w -/
  fenced : Option (BitVec 16)
  write : Option NoticeWrite
  deriving DecidableEq, Repr

/-! ### The Completion Unit -/

/-- A completion ring context (06, "Completion ring context"). -/
structure CompletionRing where
  present : Bool
  base : HostAddr
  size : Nat
  vector : Fin 16
  producer : Nat
  consumer : Nat
  phase : Bool
  reserved : Nat
  armed : Bool
  armPending : Bool
  deriving DecidableEq, Repr

/-- The admin completion ring context (R127). -/
structure AdminRing where
  producer : Nat
  consumer : Nat
  phase : Bool
  armed : Bool
  armPending : Bool
  deriving DecidableEq, Repr

/-- An admin completion handed over and not yet reported written (R128, R151). -/
structure AdminCompletion where
  tag : BitVec 16
  index : Nat
  status : Status
  result : BitVec 32
  deriving DecidableEq, Repr

/-- The Completion Unit. -/
structure CompletionUnit where
  rings : Vector CompletionRing 8
  /-- the posting FIFO, head first -/
  fifo : List Completion
  adminRing : AdminRing
  adminHeld : Option AdminCompletion
  deriving DecidableEq, Repr

/-! ### Statistics and outputs -/

/-- The fifteen statistics counters, in the order of R163's table. -/
structure Stats where
  admitted : BitVec 32
  evictions : BitVec 32
  returns : BitVec 32
  bursts : BitVec 32
  pageHits : BitVec 32
  pageMisses : BitVec 32
  retries : BitVec 32
  timeouts : BitVec 32
  targetFaults : BitVec 32
  busErrors : BitVec 32
  accepted : BitVec 32
  urgent : BitVec 32
  rejected : BitVec 32
  refused : BitVec 32
  merged : BitVec 32
  deriving DecidableEq, Repr

/-- What the part puts on its two boundaries: phases and answers on the backplane, accesses issued on
the link, interrupt messages. -/
inductive Output
  /-- a phase driven as owner: its code on PH, AD, and the beat count on PH (0 for none) -/
  | phase (code : PhaseCode) (ad : BusWord) (beats : Nat)
  /-- an answer driven on RS as a notice target -/
  | answer (a : Answer)
  | hostRead (addr : HostAddr) (bytes : Nat)
  | hostWrite (addr : HostAddr) (data : List Byte)
  | message (vector : Fin 16)
  deriving DecidableEq, Repr

/-! ### The whole state -/

/-- Everything the spec gives the part. `out` is the model's own field: the outputs so far, oldest
first. -/
structure Part where
  engine : Engine
  host : HostPort
  admin : AdminUnit
  fetch : FetchUnit
  sched : Scheduler
  windows : Vector Window 16
  master : Master
  port : Port
  notices : NoticeUnit
  compl : CompletionUnit
  stats : Stats
  out : List Output
  deriving DecidableEq, Repr

/-- The machine: the commands that wait, first in first out, and the part. `pending` is the model's
own field. -/
structure State where
  pending : List Instr
  part : Part
  deriving DecidableEq, Repr

/-- Reasons to stop with a fault. There are none: every rule of spec/ that turns something away says
what happens then (a dropped NOTIFY, a refused admin command, an ignored event), and the part's own
failures are the engine state FAILED, which is a next state. -/
inductive Fault : Type
  deriving DecidableEq, Repr

/-- Reasons to refuse a command. -/
inductive Refusal
  /-- `exec` raises it for a command that has no meaning yet (safe: the model stops where the part goes
  on); no arm of `exec` does. -/
  | notModelled (mnemonic : String)
  deriving DecidableEq, Repr

/-! ### Reset values -/

/-- R165, R166. -/
def Engine.reset : Engine where
  state := .off
  cause := .none
  ringId := 0
  notifyDropped := false
  adminBaseLo := 0#32
  adminBaseHi := 0#32
  adminSize := 0#32
  areaBase := 0#64
  areaSize := 0

/-- R169, R171, R175. The vector masks and the message enable belong to the function's configuration;
DESIGN CHOICE (notes/assumptions/3.md). -/
def HostPort.reset : HostPort where
  waiting := Vector.replicate 6 none
  abandoned := []
  outstanding := none
  lastServed := .notices
  vectorPending := Vector.replicate 16 false
  vectorMasked := Vector.replicate 16 false
  messagesEnabled := true

/-- R146. -/
def AdminUnit.reset : AdminUnit where
  producer := 0
  consumer := 0
  state := .idle
  command := none
  status := .success
  result := 0#32

/-- An ABSENT submission ring context with the values of R2, and R25's marks. -/
def SubmissionRing.absent : SubmissionRing where
  state := .absent
  base := 0#64
  size := 0
  cls := 0
  quota := 0
  order := .ordered
  retryLimit := 0
  policy := .continue
  bound := 0
  producer := 0
  fetchIndex := 0
  consumer := 0
  heldCount := 0
  haltedAt := none
  evictionBar := false
  span := List.replicate 64 .notAdmitted
  links := List.replicate 64 .none
  linkBefore := .none

/-- R2. -/
def FetchUnit.reset : FetchUnit where
  rings := Vector.replicate 8 .absent
  lastChosen := 7
  admission := none
  flight := none

/-- A FREE slot; its fields other than the state hold nothing (R23). -/
def Slot.empty : Slot where
  state := .free
  ring := 0
  index := 0
  sequence := 0#32
  cls := 0
  record := Vector.replicate 64 0#8
  window := none
  preSettled := none
  progress := 0
  retries := 0
  passes := 0
  deferred := false
  reservation := none
  chain := .notMember
  finalStatus := none
  result := 0#32

/-- R23. -/
def Scheduler.reset : Scheduler where
  slots := Vector.replicate 8 .empty
  sequence := 0#32
  age := []
  waiters := []

/-- An UNUSED window entry with the values of R71. -/
def Window.unused : Window where
  state := .unused
  drain := .run
  base := 0#32
  size := 0
  kind := .direct
  portWidth := 0
  maxBurst := 0
  access := .readWrite
  lockPermitted := false
  limitClass := 0
  fenceLimit := 0
  pageSize := 0
  bankCount := 0
  policy := .keep
  openLimit := 0
  inFlight := 0
  timeouts := 0
  banks := []

/-- R51. -/
def Master.reset : Master where
  state := .idle
  operation := none
  staging := []

/-- R92. The levels of GNT, WDR and RST are the backplane's; DESIGN CHOICE (notes/assumptions/2.md). -/
def Port.reset : Port where
  state := .detached
  errorCount := 0
  mark := .none
  joinTimer := 0
  clockPresent := false
  tenure := false
  chainHold := none
  req := false
  lvl := 3
  gnt := false
  wdr := false
  rst := false

/-- A FREE notice buffer entry with the values of R129. -/
def BufferEntry.empty : BufferEntry where
  state := .free
  source := 0#16
  code := 0#16
  payloadLow := 0#32
  payloadHigh := 0#32
  filter := none
  urgent := false
  arrival := 0#32
  bad := false
  beats := 0
  elapsed := 0

/-- A disabled filter entry with the values of R129. -/
def FilterEntry.reset : FilterEntry where
  enabled := false
  sourceValue := 0#16
  sourceMask := 0#16
  codeValue := 0#16
  codeMask := 0#16
  action := .accept

/-- R137. -/
def NoticeRing.absent : NoticeRing where
  present := false
  base := 0#64
  size := 0
  normalVector := 0
  urgentVector := 0
  producer := 0
  consumer := 0
  phase := true
  normalArmed := false
  urgentArmed := false
  armPending := false
  lastUrgent := none

/-- R129. -/
def NoticeUnit.reset : NoticeUnit where
  nodeId := none
  buffer := Vector.replicate 4 .empty
  arrival := 0#32
  filters := Vector.replicate 16 .reset
  defaultAccept := false
  ring := .absent
  attached := false
  detached := none
  fenced := none
  write := none

/-- An ABSENT completion ring context with the values of R112. -/
def CompletionRing.absent : CompletionRing where
  present := false
  base := 0#64
  size := 0
  vector := 0
  producer := 0
  consumer := 0
  phase := true
  reserved := 0
  armed := false
  armPending := false

/-- R127. -/
def AdminRing.reset : AdminRing where
  producer := 0
  consumer := 0
  phase := true
  armed := false
  armPending := false

/-- R112, R127. -/
def CompletionUnit.reset : CompletionUnit where
  rings := Vector.replicate 8 .absent
  fifo := []
  adminRing := .reset
  adminHeld := none

/-- R163. -/
def Stats.zero : Stats where
  admitted := 0#32
  evictions := 0#32
  returns := 0#32
  bursts := 0#32
  pageHits := 0#32
  pageMisses := 0#32
  retries := 0#32
  timeouts := 0#32
  targetFaults := 0#32
  busErrors := 0#32
  accepted := 0#32
  urgent := 0#32
  rejected := 0#32
  refused := 0#32
  merged := 0#32

/-- The part right after power-on reset (R175). -/
def Part.reset : Part where
  engine := .reset
  host := .reset
  admin := .reset
  fetch := .reset
  sched := .reset
  windows := Vector.replicate 16 .unused
  master := .reset
  port := .reset
  notices := .reset
  compl := .reset
  stats := .zero
  out := []

/-- The machine right after power-on reset, with no command waiting. -/
def State.reset : State where
  pending := []
  part := .reset

end Sys2Proof.Machine
end

