-- ==== Sys2Proof/Machine/Operands.lean ====
section
/-! DEFINITION. The fields of a transaction record and the codes of enumerated fields (R176, R178), the
constants of the spec's time limits and registers, and the byte layouts of every entry and report the
part writes (10_host_memory_formats.md). -/

namespace Sys2Proof.Machine

/-! ### Transaction record fields (R176) -/

/-- The opcode, none for a byte that is no known opcode. -/
def recOpcode (r : Block) : Option Opcode :=
  match (byteAt r 0x00).toNat with
  | 0x01 => some .read
  | 0x02 => some .write
  | 0x03 => some .compareSwap
  | 0x04 => some .noticeSend
  | 0x05 => some .marker
  | _ => none

/-- FENCE, flag bit 0. -/
def recFence (r : Block) : Bool := (byteAt r 0x01).getLsbD 0
/-- CHAIN, flag bit 1. -/
def recChain (r : Block) : Bool := (byteAt r 0x01).getLsbD 1
/-- QUIET, flag bit 2. -/
def recQuiet (r : Block) : Bool := (byteAt r 0x01).getLsbD 2
/-- CLASS_OVERRIDE, flag bit 3. -/
def recOverride (r : Block) : Bool := (byteAt r 0x01).getLsbD 3
/-- The class value, flag bits 5:4. -/
def recClass (r : Block) : Fin 4 := ((byteAt r 0x01).extractLsb' 4 2).toFin
def recTag (r : Block) : BitVec 16 := halfAt r 0x02
/-- The backplane address. -/
def recAddr (r : Block) : BusWord := wordAt r 0x04
/-- The length in bytes, a 32-bit number. -/
def recLength (r : Block) : Nat := (wordAt r 0x08).toNat
/-- The host buffer address. -/
def recBuffer (r : Block) : HostAddr := longAt r 0x10
def recCompare (r : Block) : BitVec 32 := wordAt r 0x18
def recSwap (r : Block) : BitVec 32 := wordAt r 0x1C
/-- The destination node, an 8-bit number. -/
def recDestination (r : Block) : Nat := (byteAt r 0x20).toNat
def recNoticeCode (r : Block) : BitVec 16 := halfAt r 0x22
/-- Payload bytes 0 to 3, byte 0 lowest. -/
def recPayloadLow (r : Block) : BusWord := wordAt r 0x28
/-- Payload bytes 4 to 7, byte 4 lowest. -/
def recPayloadHigh (r : Block) : BusWord := wordAt r 0x2C

/-! ### Admin command record fields (R178) -/

def cmdTag (r : Block) : BitVec 16 := halfAt r 0x02
/-- The target byte: ring id, window index, filter index or node id. -/
def cmdTarget (r : Block) : Nat := (byteAt r 0x04).toNat
/-- A numeric field of one byte. -/
def cmdByte (r : Block) (o : Nat) : Nat := (byteAt r o).toNat
/-- A numeric field of two bytes. -/
def cmdHalf (r : Block) (o : Nat) : Nat := (halfAt r o).toNat

/-- `n` is a power of two from `lo` to `hi`. -/
def isPowerOfTwo (lo hi n : Nat) : Bool :=
  decide (lo ≤ n) && decide (n ≤ hi) && (List.range 32).any fun k => n == 2 ^ k

/-- A base that is a multiple of 4 KiB: its low 12 bits are 0. -/
def pageAligned (base : HostAddr) : Bool := base.extractLsb' 0 12 == 0#12

/-! ### Constants -/

/-- The response limit of a response limit class, in µs (R48). -/
def responseLimit (c : Fin 4) : Nat :=
  match c with
  | 0 => 2
  | 1 => 16
  | 2 => 128
  | 3 => 1024

/-- The response limit of the phases of a NOTICE_SEND, in µs (R48). -/
def noticeLimit : Nat := 16
/-- The join interval, in µs (R95). -/
def joinInterval : Nat := 32
/-- The receive limit of an inbound notice, in µs (R132). -/
def receiveLimit : Nat := 1024
/-- The limit of a host-memory read, in µs: 16 ms (R169). -/
def hostReadLimit : Nat := 16000
/-- The port error count at which the port leaves the backplane (R108). -/
def errorLimit : Nat := 16
/-- The posting FIFO's capacity (R118). -/
def fifoSize : Nat := 8
/-- The pass count at which the oldest slot is no longer passed over (R32). -/
def passLimit : Nat := 4

/-! ### Codes -/

/-- Status codes (10, the status code table). -/
def Status.code : Status → Byte
  | .success => 0x00#8
  | .mismatch => 0x01#8
  | .targetFault => 0x02#8
  | .timeout => 0x03#8
  | .targetBusy => 0x04#8
  | .noWindow => 0x05#8
  | .accessDenied => 0x06#8
  | .badRecord => 0x07#8
  | .badAlignment => 0x08#8
  | .windowFenced => 0x09#8
  | .hostReadError => 0x0A#8
  | .hostWriteError => 0x0B#8
  | .busError => 0x0C#8
  | .linkLost => 0x0D#8
  | .skipped => 0x0E#8
  | .flushed => 0x0F#8
  | .unknownCommand => 0x20#8
  | .invalidField => 0x21#8
  | .alreadyExists => 0x22#8
  | .notFound => 0x23#8
  | .inUse => 0x24#8
  | .wrongState => 0x25#8
  | .overlap => 0x26#8
  | .portActive => 0x27#8
  | .notReady => 0x28#8

/-- Port state codes (10, "Notice entry"). -/
def PortState.code : PortState → Nat
  | .detached => 0
  | .joining => 1
  | .idle => 2
  | .requesting => 3
  | .owner => 4
  | .yielding => 5
  | .releasing => 6

/-- Detach cause codes (10, "Notice entry"). -/
def DetachCause.code : DetachCause → Nat
  | .command => 1
  | .errorLimit => 2
  | .linkLost => 3
  | .backplaneReset => 4

/-- Engine state codes (10, "Registers"). -/
def EngineState.code : EngineState → BitVec 3
  | .off => 0#3
  | .running => 1#3
  | .quiescing => 2#3
  | .quiesced => 3#3
  | .failed => 4#3

/-- Fatal cause codes (10, "Registers"). -/
def FatalCause.code : FatalCause → BitVec 3
  | .none => 0#3
  | .badAdmin => 1#3
  | .submissionRead => 2#3
  | .adminRead => 3#3
  | .completionWrite => 4#3
  | .adminCompletionWrite => 5#3
  | .noticeWrite => 6#3

/-- Window state codes (10, the WINDOW report). -/
def WindowState.code : WindowState → Nat
  | .unused => 0
  | .opened => 1
  | .fenced => 2
  | .draining => 3

/-- Bank state codes (10, the WINDOW report). -/
def BankState.code : BankState → Nat
  | .closed => 0
  | .opened => 1
  | .unknown => 2

/-! ### Bytes of a little-endian field -/

/-- The `n` bytes of a value, least significant first. -/
def leBytes : Nat → Nat → List Byte
  | 0, _ => []
  | n + 1, v => BitVec.ofNat 8 v :: leBytes n (v / 256)

/-- The value of up to four bytes, least significant first, on the low AD lines (R50). -/
def leWord (bytes : List Byte) : BusWord :=
  BitVec.ofNat 32 (bytes.foldr (fun b v => b.toNat + 256 * v) 0)

/-! ### Entries (R177) -/

/-- A completion entry or admin completion entry (10, "Completion entry"). -/
def completionEntry (tag : BitVec 16) (ringId : Nat) (status : Status)
    (index consumer bytesDone retries : Nat) (result : BitVec 32) (phase : Bool) : List Byte :=
  leBytes 2 tag.toNat ++ leBytes 1 ringId ++ [status.code] ++ leBytes 2 index
    ++ leBytes 2 consumer ++ leBytes 2 bytesDone ++ leBytes 1 retries ++ [0#8]
    ++ leBytes 4 result.toNat ++ List.replicate 15 0#8 ++ leBytes 1 phase.toNat

/-- A notice entry (10, "Notice entry"). -/
def noticeEntry (source code : BitVec 16) (kind : Nat) (isLocal urgent : Bool)
    (filter : Option (Fin 16)) (payloadLow payloadHigh : BusWord) (detail : Nat) (phase : Bool) :
    List Byte :=
  leBytes 2 source.toNat ++ leBytes 2 code.toNat ++ leBytes 1 kind
    ++ leBytes 1 (isLocal.toNat + 2 * urgent.toNat)
    ++ leBytes 1 (match filter with | some f => f.val | none => 0xFF) ++ [0#8]
    ++ leBytes 4 payloadLow.toNat ++ leBytes 4 payloadHigh.toNat ++ leBytes 4 detail
    ++ List.replicate 11 0#8 ++ leBytes 1 phase.toNat

/-- The STATISTICS report record of QUERY (R162; 10, "Report records of QUERY"); bits 7:2 of byte 3Eh, which
the table leaves open, are 0 (DESIGN CHOICE, notes/assumptions/47.md). -/
def statisticsReport (p : Part) : List Byte :=
  let t := p.stats
  [t.admitted, t.evictions, t.returns, t.bursts, t.pageHits, t.pageMisses, t.retries, t.timeouts,
    t.targetFaults, t.busErrors, t.accepted, t.urgent, t.rejected, t.refused, t.merged].flatMap
      (fun c => leBytes 4 c.toNat)
    ++ leBytes 1 p.port.state.code ++ leBytes 1 p.port.errorCount
    ++ leBytes 1 (p.port.clockPresent.toNat + 2 * p.port.rst.toNat) ++ [0#8]

/-- One bank record of the WINDOW report; bits 7:1 of its byte 1, which the table leaves open, are 0 (DESIGN
CHOICE, notes/assumptions/47.md). -/
def bankReport (b : Bank) : List Byte :=
  leBytes 1 b.state.code ++ leBytes 1 b.dueToClose.toNat ++ [0#8, 0#8]
    ++ leBytes 4 (if b.state = .opened then b.page else 0)

/-- The WINDOW report record of QUERY (R162; 10, "Report records of QUERY"); byte 1 of a bank that does not
exist is 0 (DESIGN CHOICE, notes/assumptions/47.md). -/
def windowReport (w : Window) : List Byte :=
  leBytes 1 w.state.code ++ leBytes 1 (match w.drain with | .run => 0 | .fenced => 1)
    ++ leBytes 1 w.inFlight ++ leBytes 1 w.timeouts ++ List.replicate 4 0#8
    ++ leBytes 4 w.base.toNat ++ leBytes 4 w.size
    ++ leBytes 1 (match w.kind with | .direct => 0 | .paged => 1)
    ++ leBytes 1 w.portWidth ++ leBytes 1 w.maxBurst
    ++ leBytes 1 (match w.access with | .readWrite => 0 | .readOnly => 1 | .writeOnly => 2)
    ++ leBytes 1 w.lockPermitted.toNat ++ leBytes 1 w.limitClass.val ++ leBytes 1 w.fenceLimit
    ++ [0#8] ++ leBytes 2 w.pageSize ++ leBytes 1 w.bankCount
    ++ leBytes 1 (match w.policy with | .keep => 0 | .close => 1)
    ++ leBytes 1 w.openLimit ++ List.replicate 3 0#8
    ++ (List.range 4).flatMap fun k =>
      match w.banks[k]? with
      | some b => bankReport b
      | none => 0xFF#8 :: List.replicate 7 0#8

/-! ### Registers -/

/-- The value of IDENT (10, "Registers"). -/
def identValue : BitVec 32 := 0x01#8 ++ 0x40#8 ++ 0x1D6A#16

/-- The value of STATE (R165; 10, "Registers"). -/
def stateValue (e : Engine) : BitVec 32 :=
  BitVec.ofBool e.notifyDropped ++ 0#11 ++ BitVec.ofNat 4 e.ringId ++ 0#5 ++ e.cause.code ++ 0#5
    ++ e.state.code

/-- What a read of an aligned 32-bit register at `offset` returns (R164). A register read has no row in
spec/opcode_table.json and changes nothing. -/
def readRegister (p : Part) (offset : BitVec 12) : BitVec 32 :=
  if offset = 0x000#12 then identValue
  else if offset = 0x008#12 then stateValue p.engine
  else if offset = 0x010#12 then p.engine.adminBaseLo
  else if offset = 0x014#12 then p.engine.adminBaseHi
  else if offset = 0x018#12 then p.engine.adminSize
  else 0#32

/-! ### Parity (R49) -/

/-- The number of ones of a word. -/
def ones {n : Nat} (x : BitVec n) : Nat := ((List.range n).filter fun k => x.getLsbD k).length

/-- PAR as the owner drives it with a phase: the ones on AD, PH and PAR together are odd. -/
def phaseParity (code : PhaseCode) (ad : BusWord) (beats : Nat) : Bool :=
  (ones ad + Config.phOnes code beats) % 2 == 0

/-- PAR as a target drives it with an answer: the ones on RS, AD and PAR together are odd. -/
def answerParity (a : Answer) (ad : BusWord) : Bool :=
  (ones (Config.rsCode a) + ones ad) % 2 == 0

end Sys2Proof.Machine
end

