-- ==== Sys2Proof/Machine/Ops.lean ====
section
/-! DEFINITION. The named operations over the part's state that the meanings share: table and record
updates, ring index arithmetic, the span table, reservations, freeing a slot, counters, interrupt
messages, local events, windows and banks, and the end of an admin command. -/

namespace Sys2Proof.Machine

/-! ### Updates -/

/-- A table with entry `i` changed by `f`. -/
def tabUpdate {α : Type} {n : Nat} (v : Vector α n) (i : Fin n) (f : α → α) : Vector α n :=
  v.set i (f (v.get i))

/-- A table with every entry changed by `f`. Read entry by entry, so that Lean's kernel evaluates it. -/
def tabMap {α : Type} {n : Nat} (v : Vector α n) (f : α → α) : Vector α n :=
  Vector.ofFn fun i => f (v.get i)

def Part.onEngine (p : Part) (f : Engine → Engine) : Part := { p with engine := f p.engine }
def Part.onHost (p : Part) (f : HostPort → HostPort) : Part := { p with host := f p.host }
def Part.onAdmin (p : Part) (f : AdminUnit → AdminUnit) : Part := { p with admin := f p.admin }
def Part.onFetch (p : Part) (f : FetchUnit → FetchUnit) : Part := { p with fetch := f p.fetch }
def Part.onSched (p : Part) (f : Scheduler → Scheduler) : Part := { p with sched := f p.sched }
def Part.onWindows (p : Part) (f : Vector Window 16 → Vector Window 16) : Part :=
  { p with windows := f p.windows }
def Part.onMaster (p : Part) (f : Master → Master) : Part := { p with master := f p.master }
def Part.onPort (p : Part) (f : Port → Port) : Part := { p with port := f p.port }
def Part.onNotices (p : Part) (f : NoticeUnit → NoticeUnit) : Part :=
  { p with notices := f p.notices }
def Part.onCompl (p : Part) (f : CompletionUnit → CompletionUnit) : Part :=
  { p with compl := f p.compl }
def Part.onStats (p : Part) (f : Stats → Stats) : Part := { p with stats := f p.stats }
/-- The part with one more output. -/
def Part.emit (p : Part) (o : Output) : Part := { p with out := p.out ++ [o] }

def Part.ring (p : Part) (r : Fin 8) : SubmissionRing := p.fetch.rings.get r
def Part.slot (p : Part) (k : Fin 8) : Slot := p.sched.slots.get k
def Part.window (p : Part) (w : Fin 16) : Window := p.windows.get w
def Part.cring (p : Part) (c : Fin 8) : CompletionRing := p.compl.rings.get c
def Part.entry (p : Part) (b : Fin 4) : BufferEntry := p.notices.buffer.get b

def Part.modRing (p : Part) (r : Fin 8) (f : SubmissionRing → SubmissionRing) : Part :=
  p.onFetch fun u => { u with rings := tabUpdate u.rings r f }
def Part.modSlot (p : Part) (k : Fin 8) (f : Slot → Slot) : Part :=
  p.onSched fun u => { u with slots := tabUpdate u.slots k f }
def Part.modWindow (p : Part) (w : Fin 16) (f : Window → Window) : Part :=
  p.onWindows fun t => tabUpdate t w f
def Part.modCring (p : Part) (c : Fin 8) (f : CompletionRing → CompletionRing) : Part :=
  p.onCompl fun u => { u with rings := tabUpdate u.rings c f }
def Part.modEntry (p : Part) (b : Fin 4) (f : BufferEntry → BufferEntry) : Part :=
  p.onNotices fun u => { u with buffer := tabUpdate u.buffer b f }

/-! ### Engine state -/

/-- The engine is RUNNING, QUIESCING or QUIESCED: NOTIFY writes are taken (R168) and admin commands in
WAITING still end (R152). -/
def EngineState.alive : EngineState → Bool
  | .running | .quiescing | .quiesced => true
  | .off | .failed => false

/-- The engine is RUNNING or QUIESCING: the Host Port issues accesses (R170), entries are posted
(R121, R128) and signals are sent (R126). -/
def EngineState.working : EngineState → Bool
  | .running | .quiescing => true
  | .off | .quiesced | .failed => false

/-! ### Counters (R163) -/

/-- A 32-bit counter risen by 1, saturating at its maximum (R163). -/
def satSucc (x : BitVec 32) : BitVec 32 := if x = BitVec.allOnes 32 then x else x + 1#32

/-! ### Ring indices (00_scope.md, "Ring indices") -/

/-- The number of forward steps from `a` to `b` in a ring of `size` entries. -/
def distance (size a b : Nat) : Nat := (b + size - a) % size

/-- The index after `i`. -/
def succIndex (size i : Nat) : Nat := (i + 1) % size

/-- The index before `i`. -/
def predIndex (size i : Nat) : Nat := (i + size - 1) % size

/-- `x` lies in the span from `a` up to `b`, both ends included (R167). -/
def inSpan (size a b x : Nat) : Bool := decide (distance size a x ≤ distance size a b)

/-! ### The span table and link marks (R4, R5, R25) -/

/-- L, the span limit of a submission ring (R4). -/
def SubmissionRing.spanLimit (r : SubmissionRing) : Nat := if 128 ≤ r.size then 64 else r.size - 1

/-- The place of ring position `i` in the span table. -/
def SubmissionRing.spanOffset (r : SubmissionRing) (i : Nat) : Nat := distance r.size r.consumer i

/-- The span table's mark of ring position `i`. -/
def SubmissionRing.spanMark (r : SubmissionRing) (i : Nat) : SpanMark :=
  r.span.getD (r.spanOffset i) .notAdmitted

def SubmissionRing.setSpan (r : SubmissionRing) (i : Nat) (m : SpanMark) : SubmissionRing :=
  { r with span := r.span.set (r.spanOffset i) m }

def SubmissionRing.setLink (r : SubmissionRing) (i : Nat) (m : LinkMark) : SubmissionRing :=
  { r with links := r.links.set (r.spanOffset i) m }

/-- C moved forward over `n` positions: the table moves with it, the positions entering at its far end
are NOT_ADMITTED with link mark NONE, and the mark of the last position passed becomes the mark of
C − 1 (R4, R25). -/
def SubmissionRing.passConsumer (r : SubmissionRing) (n : Nat) : SubmissionRing :=
  { r with
    consumer := (r.consumer + n) % r.size
    span := r.span.drop n ++ List.replicate n .notAdmitted
    links := r.links.drop n ++ List.replicate n .none
    linkBefore := if n = 0 then r.linkBefore else r.links.getD (n - 1) .none }

/-- The number of DONE positions in a row from C on. -/
def SubmissionRing.doneRun (r : SubmissionRing) : Nat :=
  (r.span.takeWhile fun m => m == .done).length

/-- C advanced over every DONE position from C on, stopping at the first that is not DONE (R4). -/
def SubmissionRing.advanceConsumer (r : SubmissionRing) : SubmissionRing :=
  r.passConsumer r.doneRun

/-- The number of HELD or DONE positions in a row from F on, up to C + L (R5). -/
def SubmissionRing.skipRun (r : SubmissionRing) : Nat :=
  let f := r.spanOffset r.fetchIndex
  (((r.span.drop f).take (r.spanLimit - f)).takeWhile fun m => m != .notAdmitted).length

/-- F moved on over every position it finds HELD or DONE (R5). -/
def SubmissionRing.skipFetch (r : SubmissionRing) : SubmissionRing :=
  { r with fetchIndex := (r.fetchIndex + r.skipRun) % r.size }

/-! ### Reservations (R115, R116) -/

/-- The outstanding count of a completion ring: entries written and not yet consumed. -/
def CompletionRing.outstanding (c : CompletionRing) : Nat := distance c.size c.consumer c.producer

/-- The free entries of a completion ring; an ABSENT ring has none (R115). -/
def CompletionRing.freeEntries (c : CompletionRing) : Nat :=
  if c.present then c.size - 1 - c.outstanding - c.reserved else 0

/-- A completion ring grants one reservation (R115). -/
def Part.reserve (p : Part) (c : Fin 8) : Part :=
  p.modCring c fun x => { x with reserved := x.reserved + 1 }

/-- The command in progress waits (R152). -/
def Part.waitFor (p : Part) (what : Waiting) : Part :=
  p.onAdmin fun a => { a with state := .waiting what }

/-- A FLUSHED completion still waits to enter the FIFO (R118). -/
def Part.flushedWaits (p : Part) : Bool :=
  p.sched.waiters.any fun w => match w with
    | .flushed _ => true
    | .slot _ => false

/-- The flush whose request for a reservation in completion ring `c` is still to be granted: its end is
known, its F stands at a position that needs an entry, and none of its FLUSHED completions still waits
for the FIFO (R20, R115). -/
def Part.flushAsks (p : Part) (c : Fin 8) : Option Flush :=
  match p.admin.state with
  | .waiting (.flushRing f) =>
    let x := p.ring f.ring
    if p.engine.state.alive ∧ f.stop.isSome ∧ f.stop ≠ some x.fetchIndex ∧ f.walked = false
        ∧ f.granted = false ∧ x.bound = c ∧ x.spanMark x.fetchIndex ≠ .done ∧ p.flushedWaits = false
    then some f else none
  | _ => none

/-- A waiting flush's request is granted (R115). -/
def Part.grantFlush (p : Part) (c : Fin 8) : Part :=
  match p.flushAsks c with
  | some f => (p.reserve c).waitFor (.flushRing { f with granted := true })
  | none => p

/-- `c` has changed from what it is in `p` to what it is in `q`: where its free entries have risen from
0, a request that waited for one is granted at this event (R115). -/
def Part.freed (p q : Part) (c : Fin 8) : Part :=
  if (p.cring c).freeEntries = 0 ∧ 1 ≤ (q.cring c).freeEntries then q.grantFlush c else q

/-- A reservation is released (R116), and a request that waits for it is granted (R115). -/
def Part.unreserve (p : Part) (c : Fin 8) : Part :=
  p.freed (p.modCring c fun x => { x with reserved := x.reserved - 1 }) c

/-! ### Slots -/

/-- A slot is in use in every state but FREE. -/
def Slot.inUse (s : Slot) : Bool := s.state != .free

/-- HELD, STARTED and IN_BURST slots count in their ring's held count (02, "Slot states"). -/
def Slot.counted (s : Slot) : Bool :=
  s.state == .held || s.state == .started || s.state == .inBurst

/-- Every ring's eviction bar clears (R14, R41). -/
def Part.clearBars (p : Part) : Part :=
  p.onFetch fun u => { u with rings := tabMap u.rings fun r => { r with evictionBar := false } }

/-- A slot goes FREE: it leaves the age order and every eviction bar clears (R41). -/
def Part.freeSlot (p : Part) (k : Fin 8) : Part :=
  ((p.modSlot k fun _ => .empty).onSched fun u => { u with age := u.age.erase k }).clearBars

/-- Every DEFERRED flag clears (R30). -/
def Part.clearDeferred (p : Part) : Part :=
  p.onSched fun u => { u with slots := tabMap u.slots fun s => { s with deferred := false } }

/-- The in-flight count of a slot's window, if it has one, falls by 1 (R75). -/
def Part.leaveWindow (p : Part) (w : Option (Fin 16)) : Part :=
  match w with
  | some w => p.modWindow w fun x => { x with inFlight := x.inFlight - 1 }
  | none => p

/-! ### The chain hold (R45) -/

/-- A chain hold ends. -/
def Part.endHold (p : Part) : Part := p.onPort fun x => { x with chainHold := none }

/-- A chain hold that waits for the record at `index` of `ring` ends. -/
def Part.endHoldFor (p : Part) (ring : Fin 8) (index : Nat) : Part :=
  if p.port.chainHold = some (ring, index) then p.endHold else p

/-- A chain hold that waits for a record of `ring` in the admission register ends and the record is
discarded with its reservation released (R9, R17, R18, R21). -/
def Part.discardAdmission (p : Part) (ring : Fin 8) : Part :=
  match p.fetch.admission with
  | some a =>
    if a.ring = ring then
      ((p.onFetch fun u => { u with admission := none }).unreserve a.reservation).endHoldFor a.ring
        a.index
    else p
  | none => p

/-- A fetch in flight from `ring` is marked for discard (R17, R18, R21). A chain hold that waits for its
record stands until the fetch is reported and the record discarded (R8, R45; DEDUCED,
notes/assumptions/41.md). -/
def Part.markFlight (p : Part) (ring : Fin 8) : Part :=
  p.onFetch fun u =>
    { u with flight := u.flight.map fun f => if f.ring = ring then { f with discard := true } else f }

/-! ### The access channel (R169) -/

/-- The place of a source in R169's table. -/
def Source.place : Source → Fin 6
  | .ringFetch => 0
  | .administration => 1
  | .master => 2
  | .posting => 3
  | .adminPosting => 4
  | .notices => 5

/-- The request a source has waiting. -/
def Part.request (p : Part) (s : Source) : Option Access := p.host.waiting.get s.place

/-- A source asks for an access. -/
def Part.ask (p : Part) (s : Source) (a : Access) : Part :=
  p.onHost fun h => { h with waiting := tabUpdate h.waiting s.place fun _ => some a }

/-- A source's waiting request is withdrawn. -/
def Part.withdrawRequest (p : Part) (s : Source) : Part :=
  p.onHost fun h => { h with waiting := tabUpdate h.waiting s.place fun _ => none }

/-- The outstanding access belongs to the source. -/
def Part.outstandingFor (p : Part) (s : Source) : Bool :=
  match p.host.outstanding with
  | some o => o.source == s
  | none => false

/-- The outstanding access is a read of the source. -/
def Part.readOutstanding (p : Part) (s : Source) : Bool :=
  match p.host.outstanding with
  | some o => o.source == s && (match o.access with | .read _ _ => true | .write _ _ => false)
  | none => false

/-- The outstanding access is a write of the source. -/
def Part.writeOutstanding (p : Part) (s : Source) : Bool :=
  match p.host.outstanding with
  | some o => o.source == s && (match o.access with | .read _ _ => false | .write _ _ => true)
  | none => false

/-- The source has a request waiting or its access outstanding. -/
def Part.hasAccess (p : Part) (s : Source) : Bool := (p.request s).isSome || p.outstandingFor s

/-- The outstanding access is reported; the channel is free. -/
def Part.closeAccess (p : Part) : Part := p.onHost fun h => { h with outstanding := none }

/-! ### Interrupt messages (R171) -/

/-- A signal is handed to the Host Port: one message, or the vector's pending flag where the vector is
masked or messages are disabled. -/
def Part.signal (p : Part) (v : Fin 16) : Part :=
  if p.host.messagesEnabled && !p.host.vectorMasked.get v then p.emit (.message v)
  else p.onHost fun h => { h with vectorPending := tabUpdate h.vectorPending v fun _ => true }

/-! ### Local events (R136, R142) -/

/-- The local events merged counter rises by 1 where the event's kind was already pending. -/
def Part.countMerge (p : Part) (merged : Bool) : Part :=
  if merged then p.onStats fun t => { t with merged := satSucc t.merged } else p

/-- ATTACHED is made pending, in the engine states R142 names. -/
def Part.pendAttached (p : Part) : Part :=
  if p.engine.state.alive then
    (p.countMerge p.notices.attached).onNotices fun n => { n with attached := true }
  else p

/-- DETACHED is made pending with its cause, in the engine states R142 names. -/
def Part.pendDetached (p : Part) (cause : DetachCause) : Part :=
  if p.engine.state.alive then
    (p.countMerge p.notices.detached.isSome).onNotices fun n => { n with detached := some cause }
  else p

/-- A window is added to the pending WINDOW_FENCED event; FAILED does not prevent it (R77, R142). -/
def Part.pendFenced (p : Part) (w : Fin 16) : Part :=
  (p.countMerge p.notices.fenced.isSome).onNotices fun n =>
    { n with fenced := some (n.fenced.getD 0#16 ||| (1#16 <<< w.val)) }

/-! ### The notice buffer -/

/-- An entry that is RECEIVING becomes FREE (R132). -/
def Part.dropReceiving (p : Part) : Part :=
  p.onNotices fun n =>
    { n with buffer := tabMap n.buffer fun e => if e.state = .receiving then .empty else e }

/-! ### Windows and banks (R82, R83) -/

/-- The bank that a backplane address of a PAGED window falls in. -/
def Window.bankOf (w : Window) (a : BusWord) : Nat :=
  ((a.toNat - w.base.toNat) / w.pageSize) % w.bankCount

/-- The page that a backplane address of a PAGED window falls in. -/
def Window.pageOf (w : Window) (a : BusWord) : Nat :=
  (a.toNat - w.base.toNat) / (w.pageSize * w.bankCount)

/-- The AD content of an OPEN phase for bank `b` and page `p`. -/
def Window.openAddress (w : Window) (b p : Nat) : BusWord :=
  w.base + BitVec.ofNat 32 (p * w.pageSize * w.bankCount + b * w.pageSize)

/-- The AD content of a CLOSE phase for bank `b`. -/
def Window.closeAddress (w : Window) (b : Nat) : BusWord :=
  w.base + BitVec.ofNat 32 (b * w.pageSize)

/-- A bank record as SET_WINDOW creates it (R79). -/
def Bank.unknown : Bank where
  state := .unknown
  page := 0
  timer := 0
  dueToClose := false
  closeRequest := false

/-- A bank known to be closed; the timer stops, the mark clears, the request is dropped (R83). -/
def Bank.closed : Bank := { Bank.unknown with state := .closed }

/-- A bank opened with a page; the timer is loaded and the mark and the request are gone (R83). -/
def Bank.openedWith (page timer : Nat) : Bank where
  state := .opened
  page := page
  timer := timer
  dueToClose := false
  closeRequest := false

def Part.modBank (p : Part) (w : Fin 16) (b : Nat) (f : Bank → Bank) : Part :=
  p.modWindow w fun x => { x with banks := x.banks.modify b f }

/-- Ownership ended without a release: every bank record becomes UNKNOWN (R91). -/
def Part.loseBanks (p : Part) : Part :=
  p.onWindows fun t => tabMap t fun w => { w with banks := w.banks.map fun _ => .unknown }

/-- A bank OPEN at the target exists in some window. -/
def Part.anyBankOpen (p : Part) : Bool :=
  p.windows.toList.any fun w => w.banks.any fun b => b.state == .opened

/-! ### The end of an admin command (R151) -/

/-- The tag of the command in progress. -/
def AdminUnit.tag (a : AdminUnit) : BitVec 16 :=
  match a.command with
  | some (r, _) => cmdTag r
  | none => 0#16

/-- The command in progress ends with a status and a result: the admin consumer index advances, the
admin completion is handed to the Completion Unit and the unit goes COMPLETING. -/
def Part.endCommand (p : Part) (status : Status) (result : BitVec 32) : Part :=
  (p.onCompl fun c =>
      { c with
        adminHeld := some
          { tag := p.admin.tag, index := p.admin.consumer, status := status, result := result } }).onAdmin
    fun a =>
      { a with
        consumer := succIndex p.engine.areaSize a.consumer
        command := none
        state := .completing
        status := status
        result := result }

end Sys2Proof.Machine
end

