-- ==== Sys2Proof/Machine/Flags.lean ====
section
/-! DEFINITION. The conditions the rules derive from the state: eligibility, the bus-eligible set and
the request level, page hits and the split into bursts, evictable slots and candidate rings, and the
conditions under which a waiting step is due. -/

namespace Sys2Proof.Machine

/-! ### Eligibility (R27 to R30) -/

/-- The Dispatch Queue reads a window as fenced (04, "Window states"). -/
def Window.readsFenced (w : Window) : Bool :=
  w.state == .fenced || (w.state == .draining && w.drain == .fenced)

/-- The slot's window is read as fenced; a slot without a window is not tested (R28). -/
def Part.slotFenced (p : Part) (s : Slot) : Bool :=
  match s.window with
  | some w => (p.window w).readsFenced
  | none => false

/-- The first four conditions of R27. -/
def Part.orderMet (p : Part) (s : Slot) : Bool :=
  let r := p.ring s.ring
  (s.state == .held || s.state == .started)
    && (r.order == .relaxed || s.index == r.consumer)
    && ((!recFence s.record && recOpcode s.record != some .marker) || s.index == r.consumer)
    && s.chain != .waiting

/-- The Scheduler has considered the slot's window and found it fenced (R28): the order conditions hold,
whether or not DEFERRED is set. In FAILED the slots are frozen (R23). -/
def Part.foundFenced (p : Part) (s : Slot) : Bool :=
  p.engine.state != .failed && p.orderMet s && p.slotFenced s

/-- The slot once its window has been considered: DEFERRED clears where it is found fenced (R28). -/
def Part.considered (p : Part) (s : Slot) : Slot :=
  if p.foundFenced s then { s with deferred := false } else s

/-- Every slot's window is considered (R28; notes/assumptions/45.md). This follows each change that can make
one be found fenced: a fence, a settlement, and a slot that goes to STARTED with DEFERRED set. -/
def Part.considerSlots (p : Part) : Part :=
  p.onSched fun u => { u with slots := tabMap u.slots p.considered }

/-- The status with which a slot settles without the backplane, none where it is not settle-only
(R28, R29). -/
def Part.settleStatus (p : Part) (s : Slot) : Option Status :=
  if p.orderMet s && (!s.deferred || p.slotFenced s) then
    if s.chain = .failed then some .skipped
    else match s.preSettled with
      | some st => some st
      | none =>
        if p.slotFenced s then some .windowFenced
        else if recOpcode s.record = some .marker then some .success
        else none
  else none

/-- A slot is bus-eligible (R30). -/
def Part.busEligible (p : Part) (s : Slot) : Bool :=
  p.orderMet s && !s.deferred && (p.settleStatus s).isNone

/-- The bus-eligible slots, oldest first. -/
def Part.busSet (p : Part) : List (Fin 8) := p.sched.age.filter fun k => p.busEligible (p.slot k)

/-- The bus-eligible set as the Scheduler reports it to the Ownership Controller: empty unless the
engine is RUNNING (R30). -/
def Part.reportedSet (p : Part) : List (Fin 8) :=
  if p.engine.state = .running then p.busSet else []

/-- The most urgent class of a list of slots. -/
def Part.mostUrgent (p : Part) (l : List (Fin 8)) : Option (Fin 4) :=
  (l.map fun k => (p.slot k).cls).min?

/-- The request level (R34). -/
def Part.requestLevel (p : Part) : Option (Fin 4) := p.mostUrgent p.reportedSet

/-- The settle-only slot that settles next: the oldest (R41's order among slots of one event). -/
def Part.settleNext (p : Part) : Option (Fin 8) :=
  p.sched.age.find? fun k => (p.settleStatus (p.slot k)).isSome

/-! ### Bursts (R33, R53) -/

/-- The next burst of a slot (R33, R53). -/
structure Burst where
  addr : BusWord
  start : Nat
  bytes : Nat
  width : Nat
  beats : Nat
  bank : Nat
  page : Nat
  deriving DecidableEq, Repr

/-- The end of the burst that starts at backplane address `a`, of a transaction that ends at `stop`:
the nearest of the transaction's end, the end of the burst block and the page boundary (R53). -/
def Window.burstEnd (w : Window) (a stop : Nat) : Nat :=
  let block := w.portWidth * w.maxBurst
  let blockEnd := (a / block + 1) * block
  let pageEnd := w.base.toNat + ((a - w.base.toNat) / w.pageSize + 1) * w.pageSize
  match w.kind with
  | .direct => min stop blockEnd
  | .paged => min stop (min blockEnd pageEnd)

/-- The burst a slot's progress offset gives. -/
def Part.nextBurst (p : Part) (s : Slot) : Burst :=
  let w := match s.window with
    | some w => p.window w
    | none => .unused
  match recOpcode s.record with
  | some .noticeSend =>
    { addr := 0#32, start := 0, bytes := 16, width := 4, beats := 4, bank := 0, page := 0 }
  | some .compareSwap =>
    let a := recAddr s.record
    { addr := a, start := 0, bytes := 4, width := 4, beats := 1, bank := w.bankOf a,
      page := w.pageOf a }
  | _ =>
    let a := recAddr s.record + BitVec.ofNat 32 s.progress
    let bytes :=
      w.burstEnd a.toNat ((recAddr s.record).toNat + recLength s.record) - a.toNat
    { addr := a, start := s.progress, bytes := bytes, width := w.portWidth,
      beats := bytes / w.portWidth, bank := w.bankOf a, page := w.pageOf a }

/-- The bank holds the page and is not marked due-to-close (R33, R84). -/
def Window.holdsPage (w : Window) (b page : Nat) : Bool :=
  match w.banks[b]? with
  | some x => x.state == .opened && x.page == page && !x.dueToClose
  | none => false

/-- The slot's next burst is a page hit (R33). -/
def Part.pageHit (p : Part) (s : Slot) : Bool :=
  match s.window with
  | some w =>
    let b := p.nextBurst s
    (p.window w).kind == .paged && (p.window w).holdsPage b.bank b.page
  | none => false

/-- The slot's window is DIRECT. -/
def Part.directWindow (p : Part) (s : Slot) : Bool :=
  match s.window with
  | some w => (p.window w).kind == .direct
  | none => false

/-! ### Selection (R31, R32) -/

/-- The slot selection chooses, and the slot it passes over for it, if any (R32). -/
def Part.choice (p : Part) : Option (Fin 8 × Option (Fin 8)) :=
  match p.mostUrgent p.busSet with
  | none => none
  | some c =>
    let l := p.busSet.filter fun k => (p.slot k).cls == c
    match l.head? with
    | none => none
    | some o =>
      let s := p.slot o
      if p.pageHit s || p.directWindow s || recOpcode s.record == some .noticeSend
          || s.passes == passLimit then some (o, none)
      else
        match l.find? fun k =>
            (p.ring (p.slot k).ring).order == .relaxed && p.pageHit (p.slot k) with
        | some k => some (k, some o)
        | none => some (o, none)

/-- The four conditions of R31. -/
def Part.selectable (p : Part) : Bool :=
  p.engine.state == .running && p.port.state == .owner && p.master.state == .idle
    && !p.busSet.isEmpty

/-! ### Admission (R6, R7, R13, R44) -/

/-- A slot is evictable: HELD, and at its ring's F − 1 (R44). -/
def Part.evictable (p : Part) (s : Slot) : Bool :=
  let r := p.ring s.ring
  s.state == .held && s.index == predIndex r.size r.fetchIndex

/-- The victim for a record of `ring`: of the evictable slots of other rings, the one of least urgent
class and, within it, the youngest (R13, R44). -/
def Part.victim (p : Part) (ring : Fin 8) : Option (Fin 8) :=
  (p.sched.age.filter fun k => p.evictable (p.slot k) && (p.slot k).ring != ring).foldl
    (fun best k => match best with
      | none => some k
      | some b => if (p.slot b).cls ≤ (p.slot k).cls then some k else some b) none

/-- The FREE slot a record is placed in: the lowest-numbered one (R12 leaves the choice open;
notes/assumptions/7.md). -/
def Part.freeSlotIndex (p : Part) : Option (Fin 8) :=
  (List.finRange 8).find? fun k => (p.slot k).state == .free

/-- The conditions of R6 that hold whether or not a slot is FREE. -/
def Part.baseCandidate (p : Part) (r : Fin 8) : Bool :=
  let x := p.ring r
  x.state == .active && x.producer != x.fetchIndex && decide (x.heldCount < x.quota)
    && decide (x.spanOffset x.fetchIndex < x.spanLimit)
    && decide (1 ≤ (p.cring x.bound).freeEntries)

/-- A ring is a candidate for admission (R6). -/
def Part.candidate (p : Part) (r : Fin 8) : Bool :=
  p.baseCandidate r
    && (p.freeSlotIndex.isSome
      || (!(p.ring r).evictionBar
        && (match p.victim r with
          | some v => decide ((p.ring r).cls < (p.slot v).cls)
          | none => false)))

/-- The ring ids in the order the search visits them: upward from the one after the round-robin
pointer, wrapping from 7 to 0 (R7). -/
def searchOrder (last : Fin 8) : List (Fin 8) :=
  (List.finRange 8).map fun i => last + 1 + i

/-- The ring chosen for a fetch (R7). -/
def Part.ringChoice (p : Part) : Option (Fin 8) :=
  let l := (searchOrder p.fetch.lastChosen).filter fun r => p.candidate r
  match (l.map fun r => (p.ring r).cls).min? with
  | none => none
  | some k => l.find? fun r => (p.ring r).cls == k

/-- The conditions under which a ring is chosen at all (R7). -/
def Part.mayChoose (p : Part) : Bool :=
  p.engine.state == .running && p.fetch.admission.isNone && p.fetch.flight.isNone

/-! ### Mapping and validation (R10, R11, R72 to R74) -/

/-- The record gives BAD_RECORD (R10, R176). -/
def Part.badRecord (p : Part) (rec : Block) : Bool :=
  match recOpcode rec with
  | none => true
  | some .read | some .write => recLength rec == 0 || decide (4096 < recLength rec)
  | some .compareSwap => (recAddr rec).toNat % 4 != 0
  | some .noticeSend =>
    decide (31 < recDestination rec)
      || (match p.notices.nodeId with
        | some n => recDestination rec == n.toNat
        | none => false)
  | some .marker => false

/-- The effective class of a record of `ring` (R10). -/
def Part.effectiveClass (p : Part) (ring : Fin 8) (rec : Block) : Fin 4 :=
  if (p.ring ring).order = .relaxed ∧ recOverride rec = true then recClass rec
  else (p.ring ring).cls

/-- The number of bytes in a record's range (R72). -/
def rangeLength (rec : Block) : Nat :=
  if recOpcode rec = some .compareSwap then 4 else recLength rec

/-- The window matches at admission and its range contains `a` (R72). -/
def Window.matches (w : Window) (a : Nat) : Bool :=
  (w.state == .opened || w.state == .fenced) && decide (w.base.toNat ≤ a)
    && decide (a < w.base.toNat + w.size)

/-- The entry that contains the record's first address (R72). -/
def Part.windowAt (p : Part) (a : Nat) : Option (Fin 16) :=
  (List.finRange 16).find? fun w => (p.window w).matches a

/-- The record is refused by the window's alignment check (R73). -/
def Window.misaligned (w : Window) (rec : Block) : Bool :=
  recOpcode rec != some .compareSwap
    && ((recAddr rec).toNat % w.portWidth != 0 || recLength rec % w.portWidth != 0)

/-- The record is refused by the window's access fields (R74). -/
def Window.denies (w : Window) (rec : Block) : Bool :=
  match recOpcode rec with
  | some .read => w.access == .writeOnly
  | some .write => w.access == .readOnly
  | some .compareSwap => w.access != .readWrite || !w.lockPermitted || w.portWidth != 4
  | _ => false

/-- What a mapping gives: a window or a pre-settled status. -/
inductive Mapping
  | window (w : Fin 16)
  | status (st : Status)
  | none
  deriving DecidableEq, Repr

/-- The window or pre-settled status of a record at placement (R10, R11). -/
def Part.mapping (p : Part) (rec : Block) : Mapping :=
  if p.badRecord rec then .status .badRecord
  else match recOpcode rec with
    | some .noticeSend | some .marker | none => .none
    | some .read | some .write | some .compareSwap =>
      let a := (recAddr rec).toNat
      match p.windowAt a with
      | none => .status .noWindow
      | some w =>
        let x := p.window w
        if x.base.toNat + x.size < a + rangeLength rec then .status .noWindow
        else if x.misaligned rec then .status .badAlignment
        else if x.denies rec then .status .accessDenied
        else .window w

/-- The chain predecessor outcome at admission of the record at `index` of `ring` (R26). -/
def Part.chainAtAdmission (p : Part) (ring : Fin 8) (index : Nat) : ChainOutcome :=
  let r := p.ring ring
  let before := predIndex r.size index
  let ofMark (m : LinkMark) : ChainOutcome := match m with
    | .ok => .success
    | .broken => .failed
    | .none => .notMember
  if r.spanOffset index = 0 then ofMark r.linkBefore
  else match r.spanMark before with
    | .held =>
      if (List.finRange 8).any fun k =>
          let s := p.slot k
          s.counted && s.ring == ring && s.index == before && recChain s.record
      then .waiting else .notMember
    | .done => ofMark (r.links.getD (r.spanOffset before) .none)
    | .notAdmitted => .notMember

/-! ### Steps that are due -/

/-- Some completion of the ring awaits posting: in the FIFO, or in a POSTING slot or with the
Administration Unit (R21, R41). -/
def Part.awaitsPosting (p : Part) (ring : Fin 8) : Bool :=
  p.compl.fifo.any (fun c => c.ring == ring)
    || p.sched.waiters.any fun w => match w with
      | .slot k => (p.slot k).ring == ring
      | .flushed c => c.ring == ring

/-- A fetch of the ring is in flight. -/
def Part.fetching (p : Part) (ring : Fin 8) : Bool :=
  match p.fetch.flight with
  | some f => f.ring == ring
  | none => false

/-- A DELETING ring goes ABSENT (R21). -/
def Part.deletionEnds (p : Part) (ring : Fin 8) : Bool :=
  (p.ring ring).state == .deleting && (p.ring ring).heldCount == 0 && !p.awaitsPosting ring
    && !p.fetching ring

/-- The Master is CLOSING a bank of the window. -/
def Part.closingWindow (p : Part) (w : Fin 16) : Bool :=
  p.master.state == .closing
    && (match p.master.operation with
      | some o => o.window == some w
      | none => false)

/-- A DRAINING window has reached the end of draining (R81). -/
def Part.drainingEnds (p : Part) (w : Fin 16) : Bool :=
  (p.window w).state == .draining && (p.window w).inFlight == 0 && !p.closingWindow w

/-- The condition of R173 for QUIESCED. -/
def Part.quiescent (p : Part) : Bool :=
  p.host.outstanding.isNone && p.host.waiting.toList.all (fun a => a.isNone)
    && p.host.abandoned.isEmpty
    && (p.master.state == .idle || p.master.state == .closing)
    && p.compl.fifo.isEmpty
    && (List.finRange 8).all (fun k => (p.slot k).state != .posting)
    && p.admin.state != .fetching && p.admin.state != .writing
    && !(p.admin.state == .completing && p.compl.adminHeld.isSome)

/-- The windows with their indices' banks, lowest window first and, within a window, lowest bank
first (R89). -/
def bankOrder : List (Fin 16 × Nat) :=
  (List.finRange 16).flatMap fun w => (List.range 4).map fun b => (w, b)

/-- The bank record `b` of window `w`. -/
def Part.bank? (p : Part) (w : Fin 16) (b : Nat) : Option Bank := (p.window w).banks[b]?

/-- The bank the next close operation closes: in OWNER the first with a waiting request that is still
OPEN and marked (R89), in RELEASING the first that is OPEN (R90). -/
def Part.closeTarget (p : Part) : Option (Fin 16 × Nat) :=
  if p.master.state = .idle then
    match p.port.state with
    | .owner => bankOrder.find? fun x => match p.bank? x.1 x.2 with
      | some b => b.state == .opened && b.dueToClose && b.closeRequest
      | none => false
    | .releasing => bankOrder.find? fun x => match p.bank? x.1 x.2 with
      | some b => b.state == .opened
      | none => false
    | _ => none
  else none

/-- A source has a request waiting at the arbiter; the Backplane Master's may be a read whose burst was
abandoned (R56). -/
def Part.asks (p : Part) (s : Source) : Bool :=
  (p.request s).isSome || (s == .master && !p.host.abandoned.isEmpty)

/-- The source the access arbiter takes: the first waiting one in cyclic order after the source last
served (R169). -/
def Part.nextSource (p : Part) : Option Source :=
  let table : List Source := [.ringFetch, .administration, .master, .posting, .adminPosting, .notices]
  let n := p.host.lastServed.place.val + 1
  (table.drop n ++ table.take n).find? fun s => p.asks s

/-- The arbiter may take a request (R169, R170). -/
def Part.mayIssue (p : Part) : Bool := p.engine.state.working && p.host.outstanding.isNone

/-- The access the arbiter takes next, with its source, and whether its burst has been abandoned: such
reads of the Backplane Master go before its request (R56, R169). -/
def Part.nextAccess (p : Part) : Option (Source × Access × Bool) :=
  if p.mayIssue then
    match p.nextSource, p.host.abandoned with
    | some .master, a :: _ => some (.master, a, true)
    | some s, _ => (p.request s).map fun a => (s, a, false)
    | none, _ => none
  else none

/-- The access is a read. -/
def Access.isRead : Access → Bool
  | .read _ _ => true
  | .write _ _ => false

/-- The access the arbiter takes next is a read, or a write, of the source. -/
def Part.isNext (p : Part) (s : Source) (read : Bool) : Bool :=
  match p.nextAccess with
  | some (q, a, _) => q == s && a.isRead == read
  | none => false

/-- A failed read of the source has its access: the outstanding one, or the next one, which cannot be
issued (R169). -/
def Part.readFailable (p : Part) (s : Source) : Bool := p.readOutstanding s || p.isNext s true

/-- A failed write of the source has its access (R169). -/
def Part.writeFailable (p : Part) (s : Source) : Bool := p.writeOutstanding s || p.isNext s false

end Sys2Proof.Machine
end

