-- ==== Sys2Proof/Machine/Queue.lean ====
section
/-! DEFINITION. The shared operations on Dispatch Queue slots: return, eviction and placement (R12, R13,
R43), handing a completion over (R41), and settlement (R40) with the halt by error (R17) and the chain
hold (R45) it may bring. -/

namespace Sys2Proof.Machine

/-! ### Return and eviction (R16, R43, R44) -/

/-- What a return or an eviction does to its ring: the position becomes NOT_ADMITTED with link mark
NONE and the held count falls. -/
def SubmissionRing.giveBack (r : SubmissionRing) (index : Nat) : SubmissionRing :=
  let r' := (r.setSpan index .notAdmitted).setLink index .none
  { r' with heldCount := r'.heldCount - 1 }

/-- A HELD slot is freed without a completion: its reservation is released, its window's in-flight
count falls, its ring takes the position back. -/
def Part.vacate (p : Part) (k : Fin 8) : Part :=
  let s := p.slot k
  let p := match s.reservation with
    | some c => p.unreserve c
    | none => p
  ((p.leaveWindow s.window).modRing s.ring fun r => r.giveBack s.index).freeSlot k

/-- One return, counted (R43). -/
def Part.returnSlot (p : Part) (k : Fin 8) : Part :=
  (p.vacate k).onStats fun t => { t with returns := satSucc t.returns }

/-- The HELD slots of a ring. -/
def Part.heldSlots (p : Part) (ring : Fin 8) : List (Fin 8) :=
  (List.finRange 8).filter fun k => (p.slot k).state == .held && (p.slot k).ring == ring

/-- Every HELD slot of a ring is returned (R16). -/
def Part.returnAll (p : Part) (ring : Fin 8) : Part :=
  (p.heldSlots ring).foldl Part.returnSlot p

/-- The span table place of the returned position nearest to C, none where no slot is HELD (R16). -/
def Part.lowestHeld (p : Part) (ring : Fin 8) : Option Nat :=
  ((p.heldSlots ring).map fun k => (p.ring ring).spanOffset (p.slot k).index).min?

/-- F is set back to the position at span table place `o` and moves on as R5 lays down; unchanged where
no slot was returned. -/
def SubmissionRing.rewind (r : SubmissionRing) (o : Option Nat) : SubmissionRing :=
  match o with
  | some o => ({ r with fetchIndex := (r.consumer + o) % r.size }).skipFetch
  | none => r

/-- The steps a halt takes beside the ring's state: every HELD slot returned with F rewound, a record
of the ring in the admission register discarded, a fetch in flight marked for discard (R17, R18). -/
def Part.haltReturns (p : Part) (ring : Fin 8) : Part :=
  (((p.returnAll ring).modRing ring fun r => r.rewind (p.lowestHeld ring)).discardAdmission
    ring).markFlight ring

/-- An eviction (R13, R44): the victim is freed as a return frees it, counted as an eviction, and its
ring's F is set back to its index. -/
def Part.evict (p : Part) (k : Fin 8) : Part :=
  let s := p.slot k
  ((p.vacate k).modRing s.ring fun r => ({ r with fetchIndex := s.index }).skipFetch).onStats fun t =>
    { t with evictions := satSucc t.evictions }

/-! ### Placement (R10 to R14, R22) -/

/-- The record in the admission register enters slot `k`. -/
def Part.placeIn (p : Part) (a : Admission) (k : Fin 8) : Part :=
  let m := p.mapping a.record
  let slot : Slot :=
    { state := .held
      ring := a.ring
      index := a.index
      sequence := p.sched.sequence
      cls := p.effectiveClass a.ring a.record
      record := a.record
      window := match m with | .window w => some w | _ => none
      preSettled := match m with | .status st => some st | _ => none
      progress := 0
      retries := 0
      passes := 0
      deferred := false
      reservation := some a.reservation
      chain := p.chainAtAdmission a.ring a.index
      finalStatus := none
      result := 0#32 }
  let p := p.onSched fun u =>
    { u with
      slots := tabUpdate u.slots k fun _ => slot
      sequence := u.sequence + 1#32
      age := u.age ++ [k] }
  let p := p.modRing a.ring fun r =>
    let r' := r.setSpan a.index .held
    ({ r' with
      heldCount := r'.heldCount + 1
      fetchIndex := succIndex r'.size r'.fetchIndex }).skipFetch
  let p := match m with
    | .window w => p.modWindow w fun x => { x with inFlight := x.inFlight + 1 }
    | _ => p
  let p := p.onStats fun t => { t with admitted := satSucc t.admitted }
  (p.onFetch fun u => { u with admission := none }).endHoldFor a.ring a.index

/-- The eviction attempt of a record fails (R14). -/
def Part.attemptFails (p : Part) (a : Admission) : Part :=
  (((p.onFetch fun u => { u with admission := none }).unreserve a.reservation).modRing a.ring fun r =>
    { r with evictionBar := true }).endHoldFor a.ring a.index

/-- The record in the admission register is placed, evicts, or is discarded (R12 to R14). -/
def Part.place (p : Part) : Part :=
  match p.fetch.admission with
  | none => p
  | some a =>
    match p.freeSlotIndex with
    | some k => p.placeIn a k
    | none =>
      match p.victim a.ring with
      | none => p.attemptFails a
      | some v =>
        if p.effectiveClass a.ring a.record < (p.slot v).cls then (p.evict v).placeIn a v
        else p.attemptFails a

/-! ### Handing a completion over (R41, R118) -/

/-- The completion a settled slot carries (R41). -/
def Slot.completion (s : Slot) : Completion :=
  { tag := recTag s.record
    ring := s.ring
    index := s.index
    status := s.finalStatus.getD .success
    bytesDone :=
      if s.preSettled.isSome || s.finalStatus == some .skipped then 0 else s.progress
    retries := s.retries
    result := s.result
    reservation := s.reservation.getD 0 }

/-- A completion enters the posting FIFO. -/
def Part.enterFifo (p : Part) (c : Completion) : Part :=
  p.onCompl fun u => { u with fifo := u.fifo ++ [c] }

/-- A completion may enter the FIFO at once: it has room and nothing made earlier waits (R41, R118). -/
def Part.fifoOpen (p : Part) : Bool :=
  decide (p.compl.fifo.length < fifoSize) && p.sched.waiters.isEmpty

/-- A slot in POSTING hands its completion over, or waits behind what was made before it (R41). -/
def Part.handOver (p : Part) (k : Fin 8) : Part :=
  if p.fifoOpen then (p.enterFifo (p.slot k).completion).freeSlot k
  else p.onSched fun u => { u with waiters := u.waiters ++ [.slot k] }

/-- A FLUSHED completion is handed over, or waits in the Administration Unit (R118). -/
def Part.handOverFlushed (p : Part) (c : Completion) : Part :=
  if p.fifoOpen then p.enterFifo c
  else p.onSched fun u => { u with waiters := u.waiters ++ [.flushed c] }

/-! ### Settlement (R40) -/

/-- The statuses that count as errors (R17). -/
def Status.isError : Status → Bool
  | .targetFault | .timeout | .targetBusy | .noWindow | .accessDenied | .badRecord | .badAlignment
  | .windowFenced | .hostReadError | .hostWriteError | .busError | .linkLost => true
  | .success | .mismatch | .skipped | .flushed | .unknownCommand | .invalidField | .alreadyExists
  | .notFound | .inUse | .wrongState | .overlap | .portActive | .notReady => false

/-- The link mark a settlement leaves (R25). -/
def linkOf (rec : Block) (st : Status) : LinkMark :=
  if recChain rec then (if st = .success then .ok else .broken) else .none

/-- A settlement seen from its ring (R15, R25): the position becomes DONE with its link mark, the held
count falls and C advances. -/
def SubmissionRing.settleAt (r : SubmissionRing) (index : Nat) (link : LinkMark) : SubmissionRing :=
  let r' := (r.setSpan index .done).setLink index link
  ({ r' with heldCount := r'.heldCount - 1 }).advanceConsumer

/-- The slot of the record after `index` of `ring`, where it waits for its predecessor, takes its chain
outcome (R26). -/
def Part.resolveChain (p : Part) (ring : Fin 8) (index : Nat) (st : Status) : Part :=
  let after := succIndex (p.ring ring).size index
  p.onSched fun u =>
    { u with
      slots := tabMap u.slots fun s =>
        if s.counted && s.ring == ring && s.index == after && s.chain == .waiting then
          { s with chain := if st = .success then .success else .failed }
        else s }

/-- The halt by error that a settlement may bring, or the halted-at it may set (R17). -/
def Part.haltOnError (p : Part) (ring : Fin 8) (index : Nat) (st : Status) : Part :=
  let r := p.ring ring
  if st.isError then
    match r.state with
    | .active =>
      if r.policy = .halt then
        (p.modRing ring fun r => { r with state := .halted, haltedAt := some index }).haltReturns ring
      else p
    | .halted =>
      p.modRing ring fun r => { r with haltedAt := some (r.haltedAt.getD index) }
    | .absent | .deleting => p
  else p

/-- The chain hold that a settlement may begin (R45): during a tenure, with the engine RUNNING, a record
with CHAIN set settled SUCCESS while its successor is being fetched or stands in the admission
register. -/
def Part.beginHold (p : Part) (ring : Fin 8) (index : Nat) (rec : Block) (st : Status) : Part :=
  let after := succIndex (p.ring ring).size index
  let coming := p.fetch.flight.any (fun f => f.ring == ring && f.index == after)
    || p.fetch.admission.any fun a => a.ring == ring && a.index == after
  if recChain rec ∧ st = .success ∧ p.port.tenure ∧ p.engine.state = .running ∧ coming then
    p.onPort fun x => { x with chainHold := some (ring, after) }
  else p

/-- Settlement of slot `k` (R40). Slots whose order conditions come to hold by it have their windows
considered (R28). -/
def Part.settle (p : Part) (k : Fin 8) (st : Status) (result : BitVec 32) : Part :=
  let s := p.slot k
  let p := p.modSlot k fun s =>
    { s with
      state := .posting, finalStatus := some st, result := result, window := none,
      deferred := false }
  let p := p.leaveWindow s.window
  let p := p.modRing s.ring fun r => r.settleAt s.index (linkOf s.record st)
  let p := if recChain s.record then p.resolveChain s.ring s.index st else p
  let p :=
    if recQuiet s.record && st == .success then
      (match s.reservation with
        | some c => p.unreserve c
        | none => p).freeSlot k
    else p.handOver k
  ((p.beginHold s.ring s.index s.record st).haltOnError s.ring s.index st).considerSlots

end Sys2Proof.Machine
end

