-- ==== Sys2Proof/Machine/React.lean ====
section
/-! DEFINITION. What follows at the same event from any command that changed the part: the port's moves
that depend on the bus-eligible set and the Master (R93, R97, R98, R101, R103), the moment a flush
finds its ring's held count 0 (R20), and the accesses that become due (R119, R128, R139, R148). These
have no row of their own in spec/opcode_table.json; 95_what_each_step_holds.md lists them within other
steps. -/

namespace Sys2Proof.Machine

/-- LVL while REQ is raised follows the request level, keeps its value while the set is empty, and is 3
while REQ is low (R93). -/
def Part.driveLevel (p : Part) : Part :=
  p.onPort fun x =>
    { x with lvl := if x.req then p.requestLevel.getD x.lvl else 3 }

/-- REQ drops and LVL goes to 3. -/
def Port.dropRequest (x : Port) : Port := { x with req := false, lvl := 3 }

/-- What decides which slots are settle-only and bus-eligible, now and as settle-only slots settle (R27 to
R30): the engine state, the rings but for P, the slots, and which windows are read as fenced. -/
def Part.settleView (p : Part) : Part :=
  { Part.reset with
    engine := { Engine.reset with state := p.engine.state }
    fetch := { FetchUnit.reset with rings := Vector.ofFn fun r => { p.ring r with producer := 0 } }
    sched := p.sched
    windows := Vector.ofFn fun w =>
      { Window.unused with state := if (p.window w).readsFenced then .fenced else .unused } }

/-- What decides beside it whether a chain hold begins or ends (R45). -/
def Part.holdView (p : Part) : Part :=
  { p.settleView with
    fetch :=
      { p.settleView.fetch with admission := p.fetch.admission, flight := p.fetch.flight }
    port := { Port.reset with tenure := p.port.tenure, chainHold := p.port.chainHold } }

/-- `f` holds of the part, or comes to hold as up to `n` of the settle-only slots that are due settle,
oldest first (R29, R41). -/
def Part.settlesInto (f : Part → Bool) : Nat → Part → Bool
  | 0, p => f p
  | n + 1, p => f p ||
    (if p.engine.state = .running then
      match p.settleNext with
      | some k => match p.settleStatus (p.slot k) with
        | some st => Part.settlesInto f n (p.settle k st 0#32)
        | none => false
      | none => false
    else false)

/-- The reported set is empty, and no settle-only settlement that is due would fill it (R29, R45;
notes/assumptions/8.md). -/
def Part.setStaysEmpty (p : Part) : Bool :=
  !Part.settlesInto (fun q => !q.reportedSet.isEmpty) 8 p.settleView

/-- No chain hold stands, and no settle-only settlement that is due would begin one (R45;
notes/assumptions/8.md). -/
def Part.noHoldComes (p : Part) : Bool :=
  !Part.settlesInto (fun q => q.port.chainHold.isSome) 8 p.holdView

/-- The port's own moves at the end of an event (R97, R98, R101, R103, R110). -/
def Part.movePort (p : Part) : Part :=
  match p.port.state with
  | .idle =>
    if !p.reportedSet.isEmpty && !p.port.gnt then
      p.onPort fun x => { x with state := .requesting, req := true }
    else p
  | .requesting =>
    if p.setStaysEmpty then p.onPort fun x => { x.dropRequest with state := .idle } else p
  | .owner =>
    if p.master.state = .idle ∧ p.setStaysEmpty ∧ p.noHoldComes then
      p.onPort fun x => { x with state := .releasing }
    else p
  | .yielding =>
    if p.master.state = .idle then p.onPort fun x => { x with state := .releasing } else p
  | .detached | .joining | .releasing => p

/-- A flush that waited for its ring's held count takes P as its end at the event at which the count is
0 (R20). -/
def Part.captureFlush (p : Part) : Part :=
  match p.admin.state with
  | .waiting (.flushRing f) =>
    if f.stop = none ∧ (p.ring f.ring).heldCount = 0 ∧ p.engine.state.alive then
      p.waitFor (.flushRing { f with stop := some (p.ring f.ring).producer })
    else p
  | _ => p

/-- The completion entry of a completion, with the consumer index and phase of this moment (R119,
R120). -/
def Part.entryOf (p : Part) (c : Completion) : List Byte :=
  completionEntry c.tag c.ring.val c.status c.index (p.ring c.ring).consumer c.bytesDone c.retries
    c.result (p.cring c.reservation).phase

/-- The write of the completion at the head of the FIFO is asked for (R119, R121). -/
def Part.askPosting (p : Part) : Part :=
  if p.engine.state.working && !p.hasAccess .posting then
    match p.compl.fifo with
    | c :: _ =>
      let r := p.cring c.reservation
      p.ask .posting (.write (r.base + BitVec.ofNat 64 (32 * r.producer)) (p.entryOf c))
    | [] => p
  else p

/-- The write of the admin completion handed over is asked for (R128). -/
def Part.askAdminPosting (p : Part) : Part :=
  if p.engine.state.working && !p.hasAccess .adminPosting then
    match p.compl.adminHeld with
    | some c =>
      let n := p.engine.areaSize
      p.ask .adminPosting
        (.write (p.engine.areaBase + BitVec.ofNat 64 (64 * n + 32 * p.compl.adminRing.producer))
          (completionEntry c.tag 15 c.status c.index p.admin.consumer 0 0 c.result
            p.compl.adminRing.phase))
    | none => p
  else p

/-- The outstanding count of the notice ring (R137). -/
def NoticeRing.outstanding (n : NoticeRing) : Nat := distance n.size n.consumer n.producer

/-- The free entries of the notice ring (R137). -/
def NoticeRing.freeEntries (n : NoticeRing) : Nat := n.size - 1 - n.outstanding

/-- The ACCEPTED entry that became ACCEPTED earliest, by arrival numbers compared across a wrap of the
counter (R139): of at most four, the one the counter has moved furthest beyond. -/
def NoticeUnit.earliest (n : NoticeUnit) : Option (Fin 4) :=
  ((List.finRange 4).filter fun b => (n.buffer.get b).state == .accepted).foldl
    (fun best b => match best with
      | none => some b
      | some a =>
        if n.arrival - (n.buffer.get a).arrival < n.arrival - (n.buffer.get b).arrival
        then some b else some a) none

/-- The part's node id as an entry's source node field. -/
def NoticeUnit.sourceNode (n : NoticeUnit) : BitVec 16 := (n.nodeId.getD 0#5).setWidth 16

/-- The entry of a local event (R140): its kind and its event detail. -/
def Part.localEntry (p : Part) (kind detail : Nat) : List Byte :=
  noticeEntry p.notices.sourceNode (BitVec.ofNat 16 p.port.state.code) kind true false none 0#32 0#32
    detail p.notices.ring.phase

/-- The entry of a notice (R140). -/
def Part.noticeOf (p : Part) (e : BufferEntry) : List Byte :=
  noticeEntry e.source e.code 0 false e.urgent e.filter e.payloadLow e.payloadHigh 0
    p.notices.ring.phase

/-- The write of a notice entry is asked for at the producer index. -/
def Part.askNoticeEntry (p : Part) (data : List Byte) (w : NoticeWrite) : Part :=
  let r := p.notices.ring
  (p.ask .notices (.write (r.base + BitVec.ofNat 64 (32 * r.producer)) data)).onNotices fun n =>
    { n with write := some w }

/-- The next notice entry write is asked for: pending ATTACHED, DETACHED, WINDOW_FENCED, then the
earliest ACCEPTED notice (R139, R140). -/
def Part.askNotice (p : Part) : Part :=
  let n := p.notices
  if p.engine.state = .running ∧ n.ring.present = true ∧ 1 ≤ n.ring.freeEntries ∧ n.write = none then
    if n.attached then
      (p.askNoticeEntry (p.localEntry 1 0) { buffer := none, urgent := false }).onNotices fun n =>
        { n with attached := false }
    else match n.detached with
      | some c =>
        (p.askNoticeEntry (p.localEntry 2 c.code) { buffer := none, urgent := false }).onNotices
          fun n => { n with detached := none }
      | none => match n.fenced with
        | some s =>
          (p.askNoticeEntry (p.localEntry 3 s.toNat) { buffer := none, urgent := false }).onNotices
            fun n => { n with fenced := none }
        | none => match n.earliest with
          | some b =>
            let e := p.entry b
            (p.askNoticeEntry (p.noticeOf e) { buffer := some b, urgent := e.urgent }).modEntry b
              fun e => { e with state := .writing }
          | none => p
  else p

/-- The free entries of the admin completion ring (R127). -/
def Part.adminFree (p : Part) : Nat :=
  p.engine.areaSize - 1
    - distance p.engine.areaSize p.compl.adminRing.consumer p.compl.adminRing.producer

/-- The next admin command's fetch is asked for (R148). -/
def Part.askCommand (p : Part) : Part :=
  if p.engine.state = .running ∧ p.admin.state = .idle ∧ p.admin.producer ≠ p.admin.consumer
      ∧ 1 ≤ p.adminFree then
    (p.ask .administration
      (.read (p.engine.areaBase + BitVec.ofNat 64 (64 * p.admin.consumer)) 64)).onAdmin fun a =>
        { a with state := .fetching }
  else p

/-- All that follows at the same event. The port moves before entries are composed, so that a local
event's code field holds the port state as the event leaves it (notes/assumptions/9.md). -/
def Part.react (p : Part) : Part :=
  p.movePort.driveLevel.captureFlush.askPosting.askAdminPosting.askNotice.askCommand

end Sys2Proof.Machine
end

