-- ==== Sys2Proof/Machine/Tenure.lean ====
section
/-! DEFINITION. The shared operations of the Ownership Controller: going to DETACHED (R106, R108, R109,
R111), the rise of the port error count (R107, R108), the clearing that ends a tenure (R104, R105), and
the abandonment of a write burst that is still fetching (R35, R56). -/

namespace Sys2Proof.Machine

/-- The part owns the backplane (05, "Port state"). -/
def PortState.owns : PortState → Bool
  | .owner | .yielding | .releasing => true
  | .detached | .joining | .idle | .requesting => false

/-- A DETACH command that waits ends with the cause as its result (R106, R161); in FAILED it does not
(R111). -/
def Part.finishDetach (p : Part) (cause : DetachCause) : Part :=
  if p.engine.state.alive ∧ p.admin.state = .waiting .detach then
    p.endCommand .success (BitVec.ofNat 32 cause.code)
  else p

/-- The port goes to DETACHED with REQ low and LVL at 3, the join timer stopped, the mark, the tenure
flag and a chain hold cleared, and no notice RECEIVING. -/
def Part.portDetached (p : Part) : Part :=
  (p.onPort fun x =>
    { x.dropRequest with
      state := .detached, joinTimer := 0, mark := .none, tenure := false,
      chainHold := none }).dropReceiving

/-- The port goes to DETACHED with its cause: the local event is made pending, unless the engine is
FAILED, and a waiting DETACH ends. -/
def Part.detach (p : Part) (cause : DetachCause) : Part :=
  (p.portDetached.pendDetached cause).finishDetach cause

/-- The tenure flag and every DEFERRED flag clear and a chain hold ends (R104, R105, R109), in FAILED
too, where R23 has each slot keep its fields (DEDUCED, notes/assumptions/38.md). -/
def Part.endTenureFlags (p : Part) : Part :=
  (p.onPort fun x => { x with tenure := false, chainHold := none }).clearDeferred

/-- The port leaves the backplane at the error limit (R108); a chain hold ends (R45). -/
def Part.leaveAtLimit (p : Part) : Part :=
  match p.port.state with
  | .idle | .requesting => p.detach .errorLimit
  | .owner =>
    p.onPort fun x => { x with mark := .errorLimit, chainHold := none, state := .releasing }
  | .yielding | .releasing => p.onPort fun x => { x with mark := .errorLimit, chainHold := none }
  | .detached | .joining => p

/-- The port error count rises by 1, not above 16. -/
def Port.raise (x : Port) : Port := { x with errorCount := min errorLimit (x.errorCount + 1) }

/-- The port error count rises by 1, and a rise that brings it to 16 makes the port leave (R107, R108). -/
def Part.raiseError (p : Part) : Part :=
  let p' := p.onPort Port.raise
  if p.port.errorCount < errorLimit ∧ p'.port.errorCount = errorLimit then p'.leaveAtLimit else p'

/-- The port error count falls by 1, not below 0 (R107), at a clean close of the release that follows
the limit too (DEDUCED, notes/assumptions/39.md). -/
def Part.lowerError (p : Part) : Part :=
  p.onPort fun x => { x with errorCount := x.errorCount - 1 }

/-- The Master is IDLE with an empty operation record and an empty staging buffer. -/
def Part.masterIdle (p : Part) : Part := p.onMaster fun _ => .reset

/-- The Backplane Master's read is marked stale (R56): the one taken by the arbiter, or the one that
still waits there and keeps waiting (notes/assumptions/6.md). -/
def HostPort.abandonRead (h : HostPort) : HostPort :=
  { h with
    waiting := tabUpdate h.waiting Source.master.place fun _ => none
    abandoned := h.abandoned ++ (h.waiting.get Source.master.place).toList
    outstanding := h.outstanding.map fun o =>
      if o.source = .master then { o with stale := true } else o }

/-- A write burst whose data is still being fetched is abandoned (R35, R56): its read is marked stale,
the slot goes STARTED with its progress, and the Master is IDLE. Nothing happens where the Master is not
FETCHING. -/
def Part.abandonFetch (p : Part) : Part :=
  if p.master.state = .fetching then
    let p := match p.master.operation with
      | some o => match o.slot with
        | some k => p.modSlot k fun s => { s with state := .started }
        | none => p
      | none => p
    (p.onHost HostPort.abandonRead).masterIdle
  else p

/-- WDR is taken while the port is OWNER (R102). -/
def Part.takeWithdraw (p : Part) : Part :=
  match p.master.state with
  | .idle => p.onPort fun x => { x with state := .releasing }
  | .fetching => p.abandonFetch.onPort fun x => { x with state := .releasing }
  | .driving | .delivering | .closing => p.onPort fun x => { x with state := .yielding }

end Sys2Proof.Machine
end

