-- ==== Sys2Proof/Machine/Bursts.lean ====
section
/-! DEFINITION. The shared operations of the Backplane Master: presenting a phase (R46), beginning to
drive (R52, R84), what an ACK does (R54, R57, R58, R60, R68), ending a burst or a close operation (R55,
R63 to R68), and the report to the Scheduler with its verdict (R36 to R38, R67, R87). -/

namespace Sys2Proof.Machine

/-! ### Presenting a phase (R46, R50, R60) -/

/-- The code PH carries with a phase. -/
def Phase.code : Phase → PhaseCode
  | .addrRead => .addrRead
  | .addrWrite => .addrWrite
  | .addrLock => .addrLock
  | .readBeat | .writeBeat => .data
  | .openPage => .openPage
  | .closePage => .closePage
  | .notice => .notice
  | .endLock => .endLock

/-- The record of the slot an operation serves. -/
def Part.recordOf (p : Part) (o : Operation) : Block :=
  match o.slot with
  | some k => (p.slot k).record
  | none => Slot.empty.record

/-- Beat `k` of a NOTICE_SEND (R60). -/
def Part.noticeBeat (p : Part) (rec : Block) (k : Nat) : BusWord :=
  let b0 : BusWord := p.notices.sourceNode ++ recNoticeCode rec
  let b1 := recPayloadLow rec
  let b2 := recPayloadHigh rec
  match k with
  | 0 => b0
  | 1 => b1
  | 2 => b2
  | _ => ~~~(b0 ^^^ b1 ^^^ b2)

/-- The data of the next write beat: a beat of the staging buffer, a beat of a notice, or the swap
value. -/
def Part.writeBeatData (p : Part) (o : Operation) : BusWord :=
  match o.opcode with
  | .noticeSend => p.noticeBeat (p.recordOf o) o.acked
  | .compareSwap => recSwap (p.recordOf o)
  | .read | .write | .marker => leWord ((p.master.staging.drop (o.acked * o.width)).take o.width)

/-- What AD carries with a phase (R46, R82); 0 with a DATA read beat, for which the part has no content
(DESIGN CHOICE, notes/assumptions/40.md). -/
def Part.phaseAd (p : Part) (o : Operation) (ph : Phase) : BusWord :=
  let w := match o.window with
    | some w => p.window w
    | none => .unused
  match ph with
  | .addrRead | .addrWrite | .addrLock | .endLock => o.addr
  | .readBeat => 0#32
  | .writeBeat => p.writeBeatData o
  | .openPage => w.openAddress o.bank o.page
  | .closePage => w.closeAddress o.bank
  | .notice => BitVec.ofNat 32 (recDestination (p.recordOf o))

/-- The beat count PH carries with a phase, 0 for none (R46). -/
def Phase.beatCount (o : Operation) : Phase → Nat
  | .addrRead | .addrWrite => o.beats
  | .addrLock => 1
  | .notice => 4
  | .readBeat | .writeBeat | .openPage | .closePage | .endLock => 0

/-- The operation changed. -/
def Part.modOperation (p : Part) (f : Operation → Operation) : Part :=
  p.onMaster fun m => { m with operation := m.operation.map f }

/-- The Master drives a phase of its operation, which then waits for its answer. -/
def Part.present (p : Part) (o : Operation) (ph : Phase) : Part :=
  (p.modOperation fun x => { x with phase := some ph, elapsed := 0 }).emit
    (.phase ph.code (p.phaseAd o ph) (ph.beatCount o))

/-- The Master drives ABORT, with AD at 0 and no answer awaited. -/
def Part.driveAbort (p : Part) : Part := p.emit (.phase .abort 0#32 0)

/-! ### Beginning to drive (R48, R52, R84, R85) -/

/-- The address phase of an opcode. -/
def Opcode.addressPhase : Opcode → Phase
  | .read => .addrRead
  | .write => .addrWrite
  | .compareSwap => .addrLock
  | .noticeSend | .marker => .notice

/-- The first phase of a burst to a bank of a PAGED window (R84). -/
def Window.firstPhase (w : Window) (o : Operation) : Phase :=
  match w.banks[o.bank]? with
  | some b => match b.state with
    | .opened =>
      if b.page = o.page ∧ b.dueToClose = false then o.opcode.addressPhase else .closePage
    | .closed => .openPage
    | .unknown => .closePage
  | none => .closePage

/-- The first phase of a burst: a page phase may come first in a PAGED window only (R84). -/
def Part.openingPhase (p : Part) (o : Operation) : Phase :=
  match o.window with
  | some w =>
    match (p.window w).kind with
    | .direct => o.opcode.addressPhase
    | .paged => (p.window w).firstPhase o
  | none => o.opcode.addressPhase

/-- The response limit of a burst's phases: that of its window, and 16 µs for a NOTICE_SEND (R48). -/
def Part.burstLimit (p : Part) (o : Operation) : Nat :=
  match o.window with
  | some w => responseLimit (p.window w).limitClass
  | none => noticeLimit

/-- A burst to a PAGED window is counted as a page hit or a page miss by its first phase (R85). -/
def Part.countPage (p : Part) (o : Operation) : Part :=
  match o.window with
  | some w =>
    match (p.window w).kind with
    | .direct => p
    | .paged => p.onStats fun t =>
      if (p.window w).firstPhase o = o.opcode.addressPhase
        then { t with pageHits := satSucc t.pageHits }
        else { t with pageMisses := satSucc t.pageMisses }
  | none => p

/-- The burst handed over drives its first phase: the response limit is read, a burst to a PAGED window
is counted as a page hit or miss, and every DEFERRED flag clears (R30, R48, R84, R85). -/
def Part.startDriving (p : Part) (o : Operation) : Part :=
  let ph := p.openingPhase o
  let o := { o with limit := p.burstLimit o }
  (((p.onMaster fun m => { m with state := .driving, operation := some o }).clearDeferred).countPage
    o).present o ph

/-! ### The verdict (R67, R76, R77) -/

/-- A timeout verdict on a window (R76, R77): the count rises, at 15 it stays, and where it then equals
a fence limit other than 0 the window is fenced, and its slots are considered at that event (R28). -/
def Part.windowTimeout (p : Part) (w : Fin 16) : Part :=
  let before := p.window w
  let count := min 15 (before.timeouts + 1)
  let p := p.modWindow w fun x => { x with timeouts := count }
  if before.timeouts < 15 ∧ count = before.fenceLimit then
    match before.state, before.drain with
    | .opened, _ => ((p.modWindow w fun x => { x with state := .fenced }).pendFenced w).considerSlots
    | .draining, .run => ((p.modWindow w fun x => { x with drain := .fenced }).pendFenced w).considerSlots
    | _, _ => p
  else p

/-- A verdict without a timeout on a window (R76). -/
def Part.windowAnswered (p : Part) (w : Fin 16) : Part :=
  p.modWindow w fun x => { x with timeouts := 0 }

/-- The window's part of a verdict, for an operation that has a window. -/
def Part.onOperationWindow (p : Part) (o : Operation) (f : Part → Fin 16 → Part) : Part :=
  match o.window with
  | some w => f p w
  | none => p

/-- A failure in a burst to a PAGED window, or a failed close, leaves its bank UNKNOWN (R83). -/
def Part.bankFails (p : Part) (o : Operation) : Part :=
  p.onOperationWindow o fun p w => p.modBank w o.bank fun _ => .unknown

/-- The verdict of an operation's end on the bank, the port error count, the window's
consecutive-timeout count and the counters (R67, R83). -/
def Part.verdict (p : Part) (o : Operation) (e : OperationEnd) : Part :=
  match e with
  | .clean => (p.lowerError).onOperationWindow o Part.windowAnswered
  | .retry => p.onOperationWindow o Part.windowAnswered
  | .fault =>
    ((p.bankFails o).onOperationWindow o Part.windowAnswered).onStats fun t =>
      { t with targetFaults := satSucc t.targetFaults }
  | .timeout =>
    ((p.bankFails o).onOperationWindow o Part.windowTimeout).onStats fun t =>
      { t with timeouts := satSucc t.timeouts }
  | .protocolFault =>
    (((p.bankFails o).onOperationWindow o Part.windowAnswered).onStats fun t =>
      { t with busErrors := satSucc t.busErrors }).raiseError
  | .linkLost | .grantLost | .hostReadError => p

/-! ### The report (R36 to R38, R87) -/

/-- The status of a failed end (R63 to R66, R56). -/
def OperationEnd.failure : OperationEnd → Status
  | .fault => .targetFault
  | .timeout => .timeout
  | .protocolFault => .busError
  | .linkLost => .linkLost
  | .grantLost => .busError
  | .hostReadError => .hostReadError
  | .clean | .retry => .success

/-- How a report settles its slot, none where the slot goes to STARTED (R36 to R38). `s` is the slot
with the report's bytes and retry already taken. -/
def Part.reportSettles (p : Part) (s : Slot) (o : Operation) (e : OperationEnd)
    (delivered : Bool) : Option (Status × BitVec 32) :=
  let old := o.oldValue.getD 0#32
  if !delivered then some (.hostWriteError, old)
  else match e with
    | .clean =>
      match o.opcode with
      | .compareSwap =>
        some (if old = recCompare s.record then .success else .mismatch, old)
      | .noticeSend => some (.success, 0#32)
      | .read | .write | .marker =>
        if s.progress = recLength s.record then some (.success, 0#32) else none
    | .retry =>
      if (p.ring s.ring).retryLimit < s.retries then some (.targetBusy, 0#32) else none
    | .fault | .timeout | .protocolFault | .linkLost | .grantLost | .hostReadError =>
      some (e.failure, old)

/-- Under CLOSE policy the bank a burst used is marked due-to-close and a close request is made, where
the bank is OPEN and the report settles the slot, or the slot continues with bytes remaining and its
next burst falls in another bank or page (R87); a slot that draws RETRY has the same next burst. -/
def Part.markForClose (p : Part) (o : Operation) (s : Slot) (settles : Bool) : Part :=
  match o.window with
  | some w =>
    let x := p.window w
    let b := p.nextBurst s
    if x.kind = .paged ∧ x.policy = .close
        ∧ (settles ∨ (s.progress ≠ recLength s.record ∧ (b.bank ≠ o.bank ∨ b.page ≠ o.page))) then
      p.modBank w o.bank fun y =>
        if y.state = .opened then { y with dueToClose := true, closeRequest := true } else y
    else p
  | none => p

/-- The Master reports the burst of slot `k` (R36 to R38, R67, R70): the Master is IDLE, the verdict
takes effect, the slot takes the report's bytes, and it settles or goes to STARTED. While the engine is
FAILED the slot takes the report and goes to STARTED (R23). -/
def Part.reportBurst (p : Part) (o : Operation) (k : Fin 8) (e : OperationEnd) (bytes : Nat)
    (delivered : Bool) : Part :=
  let p := p.masterIdle.verdict o e
  let p := p.onStats fun t =>
    { t with
      bursts := satSucc t.bursts
      retries := if e = .retry then satSucc t.retries else t.retries }
  let s :=
    { p.slot k with
      progress := (p.slot k).progress + bytes
      retries := (p.slot k).retries + (if e = .retry then 1 else 0) }
  let ends := p.reportSettles s o e delivered
  let p := if e = .hostReadError then p else p.markForClose o s
    (ends.isSome && p.engine.state != .failed)
  if p.engine.state = .failed then p.modSlot k fun _ => { s with state := .started }
  else match ends with
    | some (st, result) => (p.modSlot k fun _ => s).settle k st result
    | none => (p.modSlot k fun _ => { s with state := .started, deferred := e == .retry }).considerSlots

/-- The end of a close operation (R68): the bank is CLOSED after an ACK and UNKNOWN otherwise, the
verdict takes effect and the Master is IDLE. -/
def Part.endClose (p : Part) (o : Operation) (e : OperationEnd) : Part :=
  let p := p.masterIdle
  let p := if e = .clean then
      p.onOperationWindow o fun p w => p.modBank w o.bank fun _ => .closed
    else p
  p.verdict o e

/-! ### The end of the backplane part (R54, R55, R63 to R66) -/

/-- The bytes of the beats acknowledged. -/
def Operation.ackedBytes (o : Operation) : Nat := o.acked * o.width

/-- The backplane part of the operation ends. A READ with acknowledged beats goes to DELIVERING and asks
for the write of the acknowledged bytes, unless the engine is FAILED (R54, R55); any other burst
reports at once; a close operation ends. -/
def Part.endOperation (p : Part) (o : Operation) (e : OperationEnd) : Part :=
  match o.slot with
  | none => p.endClose o e
  | some k =>
    if o.opcode = .read ∧ 0 < o.acked ∧ p.engine.state ≠ .failed then
      (p.onMaster fun m =>
        { m with
          state := .delivering
          operation := some { o with phase := none, ending := e } }).ask .master
            (.write (recBuffer (p.slot k).record + BitVec.ofNat 64 o.start)
              (p.master.staging.take o.ackedBytes))
    else p.reportBurst o k e o.ackedBytes true

/-- A failure that the Master answers with ABORT (R59, R64, R65). -/
def Part.abortOperation (p : Part) (o : Operation) (e : OperationEnd) : Part :=
  p.driveAbort.endOperation o e

/-- Ownership ends abruptly while the Master is DRIVING or CLOSING: the operation ends without a further
phase (R66). A delivery goes on, and an IDLE Master has nothing to end. -/
def Part.cutOperation (p : Part) (e : OperationEnd) : Part :=
  match p.master.operation with
  | some o =>
    if p.master.state = .driving ∨ p.master.state = .closing then p.endOperation o e else p
  | none => p

/-! ### Answers (R47, R54, R57, R58, R60, R68) -/

/-- The waiting phase is answered ACK, with `ad` on AD. -/
def Part.acknowledge (p : Part) (o : Operation) (ph : Phase) (ad : BusWord) : Part :=
  match ph with
  | .closePage =>
    match o.slot with
    | none => p.endOperation o .clean
    | some _ =>
      (p.onOperationWindow o fun p w => p.modBank w o.bank fun _ => .closed).present o .openPage
  | .openPage =>
    (p.onOperationWindow o fun p w =>
      p.modBank w o.bank fun _ => .openedWith o.page (p.window w).openLimit).present o
        o.opcode.addressPhase
  | .addrRead => p.present o .readBeat
  | .addrWrite | .notice => p.present o .writeBeat
  | .addrLock =>
    let o := { o with lockHeld := true }
    (p.modOperation fun _ => o).present o .readBeat
  | .readBeat =>
    match o.opcode with
    | .compareSwap =>
      let o := { o with acked := o.acked + 1, oldValue := some ad }
      (p.modOperation fun _ => o).present o
        (if ad = recCompare (p.recordOf o) then .writeBeat else .endLock)
    | .read | .write | .noticeSend | .marker =>
      let o := { o with acked := o.acked + 1 }
      let p := p.onMaster fun m =>
        { m with staging := m.staging ++ leBytes o.width ad.toNat, operation := some o }
      if o.beats ≤ o.acked then p.endOperation o .clean else p.present o .readBeat
  | .writeBeat =>
    let o := { o with acked := o.acked + 1 }
    let p := p.modOperation fun _ => o
    match o.opcode with
    | .compareSwap => p.present o .endLock
    | .read | .write | .noticeSend | .marker =>
      if o.beats ≤ o.acked then p.endOperation o .clean else p.present o .writeBeat
  | .endLock => p.endOperation { o with lockHeld := false } .clean

/-- RETRY is a lawful answer to the phase (R47). -/
def Phase.mayRetry : Phase → Bool
  | .addrRead | .addrWrite | .addrLock | .notice => true
  | .readBeat | .writeBeat | .openPage | .closePage | .endLock => false

/-- The answer to the waiting phase is taken (R47, R49, R59, R63, R65). -/
def Part.answered (p : Part) (o : Operation) (ph : Phase) (a : Answer) (ad : BusWord)
    (parityRight : Bool) : Part :=
  if !parityRight then p.abortOperation o .protocolFault
  else match a with
    | .hold => p
    | .ack => p.acknowledge o ph ad
    | .retry => if ph.mayRetry then p.endOperation o .retry else p.abortOperation o .protocolFault
    | .fault => if o.lockHeld then p.abortOperation o .fault else p.endOperation o .fault

end Sys2Proof.Machine
end

