-- ==== Sys2Proof/Machine/Failure.lean ====
section
/-! DEFINITION. The engine's entry into FAILED (R174) and what it does in each block (R55, R56, R111,
R170), the reports of failed reads that cause it, and the reports of accesses that cannot be issued
(R169). -/

namespace Sys2Proof.Machine

/-- The arbiter takes its next access, which is then outstanding (R169). -/
def Part.takeAccess (p : Part) (s : Source) (a : Access) (stale : Bool) : Part :=
  p.onHost fun h =>
    { h with
      waiting := if stale then h.waiting else tabUpdate h.waiting s.place fun _ => none
      abandoned := if stale then h.abandoned.tail else h.abandoned
      outstanding := some { source := s, access := a, stale := stale, elapsed := 0 }
      lastServed := s }

/-- A failure report comes for the source. Where its access is not outstanding but is the one the arbiter
takes next, the report says that it cannot be issued (R169): it is taken without appearing on the link
(notes/assumptions/37.md). -/
def Part.takeUnissued (p : Part) (s : Source) (read : Bool) : Part :=
  match p.nextAccess with
  | some (q, a, stale) => if q = s ∧ a.isRead = read then p.takeAccess q a stale else p
  | none => p

/-- The part as a report of a read of the source meets it: a report of failure may be of a read that
cannot be issued (R169). -/
def Part.forRead (p : Part) (s : Source) (done : Bool) : Part :=
  if done then p else p.takeUnissued s true

/-- The part as a report of a write of the source meets it (R169). -/
def Part.forWrite (p : Part) (s : Source) (done : Bool) : Part :=
  if done then p else p.takeUnissued s false

/-- Every request waiting at the arbiter is discarded without a report (R170). -/
def Part.dropRequests (p : Part) : Part :=
  p.onHost fun h => { h with waiting := Vector.replicate 6 none, abandoned := [] }

/-- A delivery whose write is not made: its report goes to the slot with the acknowledged bytes (R55,
R23). -/
def Part.dropDelivery (p : Part) : Part :=
  match p.master.state, p.master.operation with
  | .delivering, some o =>
    match o.slot with
    | some k => p.reportBurst o k o.ending o.ackedBytes true
    | none => p
  | _, _ => p

/-- The port leaves the backplane as the engine enters FAILED (R111). In OWNER with the Master busy it
yields; an IDLE Master's port goes to RELEASING. -/
def Part.failPort (p : Part) : Part :=
  match p.port.state with
  | .joining | .idle | .requesting => p.portDetached
  | .owner =>
    p.onPort fun x =>
      { x with
        chainHold := none
        state := if p.master.state = .idle then .releasing else .yielding }
  | .yielding | .releasing | .detached => p.endHold

/-- The engine enters FAILED with a cause and a ring id, from RUNNING or QUIESCING (R174). A command
abandoned by it (R152) leaves the Administration Unit's state and its copy of the record in place until
RESET (DESIGN CHOICE, notes/assumptions/46.md). -/
def Part.enterFailed (p : Part) (cause : FatalCause) (ringId : Nat) : Part :=
  if p.engine.state.working then
    let p := p.onEngine fun e => { e with state := .failed, cause := cause, ringId := ringId }
    p.dropRequests.abandonFetch.dropDelivery.failPort
  else p

/-- A submission record fetch is reported failed (R8). -/
def Part.submissionReadFails (p : Part) : Part :=
  match p.fetch.flight with
  | some f => p.enterFailed .submissionRead f.ring.val
  | none => p

/-- An admin command fetch is reported failed (R149). -/
def Part.commandReadFails (p : Part) : Part := p.enterFailed .adminRead 15

/-- A write-data read is reported failed: HOST_READ_ERROR with 0 bytes where its burst still waits for
it (R56). -/
def Part.dataReadFails (p : Part) : Part :=
  match p.master.state, p.master.operation with
  | .fetching, some o =>
    match o.slot with
    | some k => p.reportBurst o k .hostReadError 0 true
    | none => p
  | _, _ => p

end Sys2Proof.Machine
end

