-- ==== Sys2Proof/Machine/EngineControl.lean ====
section
/-! DEFINITION. Meanings of the resets (R175), ENABLE and QUIESCE (R172, R173) and the register writes
(R164 to R166); and the NOTIFY writes (R3, R117, R127, R144, R147, R167, R168), which REGISTER_WRITE
also reaches. -/

namespace Sys2Proof.Machine

/-- The outcome of a meaning that changes the part: a next state with the same queue. -/
def State.andThen (s : State) (f : Part → Part) : Host.Outcome State Fault Refusal :=
  .next { s with part := f s.part }

/-! ### Resets (R175) -/

/-- A function reset (R175): ABORT if the Master is DRIVING or CLOSING; then every value is that of
power-on reset, but for clock present (R92), the lines and the function's configuration, which are not
the part's (notes/assumptions/14.md), and the outputs already made. -/
def Part.functionReset (p : Part) : Part :=
  let p := if p.master.state = .driving ∨ p.master.state = .closing then p.driveAbort else p
  { Part.reset with
    host :=
      { HostPort.reset with
        vectorMasked := p.host.vectorMasked, messagesEnabled := p.host.messagesEnabled }
    port :=
      { Port.reset with
        clockPresent := p.port.clockPresent, gnt := p.port.gnt, wdr := p.port.wdr,
        rst := p.port.rst }
    out := p.out }

/-- POWER_ON_RESET: every block takes its power-on values (R175). -/
def execPowerOnReset (s : State) : Host.Outcome State Fault Refusal :=
  s.andThen fun _ => Part.reset

/-- FUNCTION_LEVEL_RESET (R175). -/
def execFunctionLevelReset (s : State) : Host.Outcome State Fault Refusal :=
  s.andThen Part.functionReset

/-- RESET written to CONTROL, in any engine state (R175). -/
def execReset (s : State) : Host.Outcome State Fault Refusal := s.andThen Part.functionReset

/-! ### ENABLE (R172) -/

/-- The admin area base the two registers form (R166). -/
def Engine.adminBase (e : Engine) : HostAddr := e.adminBaseHi ++ e.adminBaseLo

/-- ADMIN_SIZE and the admin base are legal (R172, R179). -/
def Engine.adminLegal (e : Engine) : Bool :=
  isPowerOfTwo 8 256 e.adminSize.toNat && pageAligned e.adminBase

/-- ENABLE from OFF with legal registers: RUNNING, with the admin area taken and the Administration Unit
and the admin completion ring at their initial values (R127, R146, R172). -/
def Part.enableFromOff (p : Part) : Part :=
  ((p.onEngine fun e =>
    { e with
      state := .running, cause := .none, ringId := 0, areaBase := e.adminBase,
      areaSize := e.adminSize.toNat }).onAdmin fun _ => .reset).onCompl fun c =>
        { c with adminRing := .reset }

/-- The test of an ARM on a completion ring (R123): a signal at once where an entry is unconsumed, else
the ring is armed. -/
def Part.armTest (p : Part) (c : Fin 8) : Part :=
  let r := p.cring c
  if r.producer = r.consumer then p.modCring c fun r => { r with armed := true }
  else (p.signal r.vector).modCring c fun r => { r with armed := false }

/-- The test of an ARM on the admin completion ring (R127). -/
def Part.adminArmTest (p : Part) : Part :=
  let r := p.compl.adminRing
  if r.producer = r.consumer then
    p.onCompl fun c => { c with adminRing := { c.adminRing with armed := true } }
  else (p.signal 0).onCompl fun c => { c with adminRing := { c.adminRing with armed := false } }

/-- The last urgent position lies in the span from `a` up to `b` − 1 (R144). -/
def NoticeRing.urgentIn (n : NoticeRing) (a b : Nat) : Bool :=
  match n.lastUrgent with
  | some u => decide (distance n.size a u < distance n.size a b)
  | none => false

/-- The two tests of an ARM on the notice ring (R144). -/
def Part.noticeArmTest (p : Part) : Part :=
  let n := p.notices.ring
  let fires := n.producer ≠ n.consumer
  let urgentFires := n.urgentIn n.consumer n.producer
  let p := if fires then p.signal n.normalVector else p
  let p := if urgentFires && !(decide fires && n.normalVector == n.urgentVector) then
      p.signal n.urgentVector
    else p
  p.onNotices fun u =>
    { u with ring := { u.ring with normalArmed := !decide fires, urgentArmed := !urgentFires } }

/-- The arm pending flags are cleared and tested at the ENABLE from QUIESCED: the completion rings in id
order, the admin completion ring, the notice ring (R125, R144; the order is the model's,
notes/assumptions/10.md). -/
def Part.armPendingTests (p : Part) : Part :=
  let p := (List.finRange 8).foldl (fun p c =>
    if (p.cring c).armPending then
      (p.modCring c fun r => { r with armPending := false }).armTest c
    else p) p
  let p := if p.compl.adminRing.armPending then
      (p.onCompl fun c =>
        { c with adminRing := { c.adminRing with armPending := false } }).adminArmTest
    else p
  if p.notices.ring.armPending then
    (p.onNotices fun u => { u with ring := { u.ring with armPending := false } }).noticeArmTest
  else p

/-- ENABLE (R172). -/
def Part.enable (p : Part) : Part :=
  match p.engine.state with
  | .off =>
    if p.engine.adminLegal then p.enableFromOff.react
    else p.onEngine fun e => { e with cause := .badAdmin, ringId := 0 }
  | .quiesced =>
    ((p.onEngine fun e => { e with state := .running }).armPendingTests.place).react
  | .running | .quiescing | .failed => p

/-- ENABLE written to CONTROL. -/
def execEnable (s : State) : Host.Outcome State Fault Refusal := s.andThen Part.enable

/-! ### QUIESCE (R173) -/

/-- The engine goes from QUIESCING to QUIESCED where R173's condition holds. -/
def Part.reachQuiesced (p : Part) : Part :=
  if p.engine.state = .quiescing ∧ p.quiescent then
    p.onEngine fun e => { e with state := .quiesced }
  else p

/-- QUIESCE (R173): QUIESCING, with the chain hold ended (R110) and the port's moves made, and QUIESCED
at that same event where the condition already holds. -/
def Part.quiesce (p : Part) : Part :=
  match p.engine.state with
  | .running => ((p.onEngine fun e => { e with state := .quiescing }).endHold.react).reachQuiesced
  | .off | .quiescing | .quiesced | .failed => p

/-- QUIESCE written to CONTROL. -/
def execQuiesce (s : State) : Host.Outcome State Fault Refusal := s.andThen Part.quiesce

/-- QUIESCED_REACHED: the end of quiescing, where its condition holds (R173). -/
def execQuiescedReached (s : State) : Host.Outcome State Fault Refusal :=
  s.andThen Part.reachQuiesced

/-! ### STATE (R165) -/

/-- A write to STATE clears NOTIFY_DROPPED where bit 31 is 1 (R165, R179). -/
def Part.writeState (p : Part) (value : BitVec 32) : Part :=
  if value.getLsbD 31 then p.onEngine fun e => { e with notifyDropped := false } else p

/-- STATE_WRITE. -/
def execStateWrite (value : BitVec 32) (s : State) : Host.Outcome State Fault Refusal :=
  s.andThen fun p => p.writeState value

/-! ### NOTIFY (R167, R168) -/

/-- A dropped NOTIFY changes nothing but NOTIFY_DROPPED (R168). -/
def Part.dropNotify (p : Part) : Part := p.onEngine fun e => { e with notifyDropped := true }

/-- A ring id field of NOTIFY that names a ring (R167). -/
def ringField (ring : BitVec 4) : Option (Fin 8) :=
  if h : ring.toNat < 8 then some ⟨ring.toNat, h⟩ else none

/-- SUBMIT sets P of a submission ring that is not ABSENT (R3, R167). -/
def Part.submit (p : Part) (ring : BitVec 4) (index : BitVec 12) : Part :=
  match ringField ring with
  | some r =>
    if p.engine.state.alive ∧ (p.ring r).state ≠ .absent ∧ index.toNat < (p.ring r).size then
      (p.modRing r fun x => { x with producer := index.toNat }).react
    else p.dropNotify
  | none => p.dropNotify

/-- SUBMIT; ARM is ignored (R167). -/
def execSubmit (ring : BitVec 4) (index : BitVec 12) (_arm : Bool) (s : State) :
    Host.Outcome State Fault Refusal :=
  s.andThen fun p => p.submit ring index

/-- An ARM taken on a completion ring: tested at once in RUNNING, held pending in QUIESCING and QUIESCED
(R123, R125). -/
def Part.armCring (p : Part) (c : Fin 8) : Part :=
  if p.engine.state = .running then p.armTest c
  else p.modCring c fun r => { r with armPending := true }

/-- COMPLETE sets the host consumer index of a PRESENT completion ring, a request that waits for an entry
is granted (R115), and the write may carry ARM (R117, R167). -/
def Part.complete (p : Part) (ring : BitVec 4) (index : BitVec 12) (arm : Bool) : Part :=
  match ringField ring with
  | some c =>
    let r := p.cring c
    if p.engine.state.alive ∧ r.present ∧ index.toNat < r.size
        ∧ inSpan r.size r.consumer r.producer index.toNat then
      let p := p.freed (p.modCring c fun r => { r with consumer := index.toNat }) c
      (if arm then p.armCring c else p).react
    else p.dropNotify
  | none => p.dropNotify

/-- COMPLETE. -/
def execComplete (ring : BitVec 4) (index : BitVec 12) (arm : Bool) (s : State) :
    Host.Outcome State Fault Refusal :=
  s.andThen fun p => p.complete ring index arm

/-- An ARM taken on the notice ring (R144). -/
def Part.armNotices (p : Part) : Part :=
  if p.engine.state = .running then p.noticeArmTest
  else p.onNotices fun u => { u with ring := { u.ring with armPending := true } }

/-- The notice ring's host consumer index moves; a last urgent position it passes becomes none (R144). -/
def NoticeRing.consume (n : NoticeRing) (index : Nat) : NoticeRing :=
  { n with
    consumer := index
    lastUrgent := if n.urgentIn n.consumer index then none else n.lastUrgent }

/-- NOTICE sets the notice ring's host consumer index and may carry ARM (R144, R167). -/
def Part.notice (p : Part) (index : BitVec 12) (arm : Bool) : Part :=
  let n := p.notices.ring
  if p.engine.state.alive ∧ n.present ∧ index.toNat < n.size
      ∧ inSpan n.size n.consumer n.producer index.toNat then
    let p := p.onNotices fun u => { u with ring := u.ring.consume index.toNat }
    (if arm then p.armNotices else p).react
  else p.dropNotify

/-- NOTICE; the ring id is ignored (R167). -/
def execNotice (_ring : BitVec 4) (index : BitVec 12) (arm : Bool) (s : State) :
    Host.Outcome State Fault Refusal :=
  s.andThen fun p => p.notice index arm

/-- ADMIN_SUBMIT sets the admin producer index (R147, R167). -/
def Part.adminSubmit (p : Part) (index : BitVec 12) : Part :=
  if p.engine.state.alive ∧ index.toNat < p.engine.areaSize then
    (p.onAdmin fun a => { a with producer := index.toNat }).react
  else p.dropNotify

/-- ADMIN_SUBMIT; the ring id and ARM are ignored (R167). -/
def execAdminSubmit (_ring : BitVec 4) (index : BitVec 12) (_arm : Bool) (s : State) :
    Host.Outcome State Fault Refusal :=
  s.andThen fun p => p.adminSubmit index

/-- An ARM taken on the admin completion ring (R127). -/
def Part.armAdmin (p : Part) : Part :=
  if p.engine.state = .running then p.adminArmTest
  else p.onCompl fun c => { c with adminRing := { c.adminRing with armPending := true } }

/-- ADMIN_COMPLETE sets the admin completion ring's host consumer index and may carry ARM (R127, R167).
-/
def Part.adminComplete (p : Part) (index : BitVec 12) (arm : Bool) : Part :=
  let r := p.compl.adminRing
  let n := p.engine.areaSize
  if p.engine.state.alive ∧ index.toNat < n ∧ inSpan n r.consumer r.producer index.toNat then
    let p := p.onCompl fun c =>
      { c with adminRing := { c.adminRing with consumer := index.toNat } }
    (if arm then p.armAdmin else p).react
  else p.dropNotify

/-- ADMIN_COMPLETE; the ring id is ignored (R167). -/
def execAdminComplete (_ring : BitVec 4) (index : BitVec 12) (arm : Bool) (s : State) :
    Host.Outcome State Fault Refusal :=
  s.andThen fun p => p.adminComplete index arm

/-- NOTIFY_INVALID_KIND: the write is dropped in every engine state (R167, R179). -/
def execNotifyInvalidKind (_word : BitVec 32) (s : State) : Host.Outcome State Fault Refusal :=
  s.andThen Part.dropNotify

/-! ### Register writes (R164, R166) -/

/-- A write to a register without behaviour of its own: the admin registers take it in OFF, everything
else ignores it (R164, R166). -/
def Part.plainWrite (p : Part) (offset : BitVec 12) (bytes : Nat) (value : BitVec 32) : Part :=
  if bytes = 4 ∧ p.engine.state = .off then
    if offset = 0x010#12 then p.onEngine fun e => { e with adminBaseLo := value }
    else if offset = 0x014#12 then p.onEngine fun e => { e with adminBaseHi := value }
    else if offset = 0x018#12 then p.onEngine fun e => { e with adminSize := value }
    else p
  else p

/-- The effect of a write of `bytes` bytes at `offset` of the register space: that of the row it stands
for where it has one (R164, R179), else `plainWrite`. -/
def Part.registerWrite (p : Part) (offset : BitVec 12) (bytes : Nat) (value : BitVec 32) : Part :=
  match registerCommand offset bytes value with
  | some .enable => p.enable
  | some .quiesce => p.quiesce
  | some .reset => p.functionReset
  | some (.stateWrite v) => p.writeState v
  | some (.submit ring index _) => p.submit ring index
  | some (.complete ring index arm) => p.complete ring index arm
  | some (.notice _ index arm) => p.notice index arm
  | some (.adminSubmit _ index _) => p.adminSubmit index
  | some (.adminComplete _ index arm) => p.adminComplete index arm
  | some (.notifyInvalidKind _) => p.dropNotify
  | _ => p.plainWrite offset bytes value

/-- REGISTER_WRITE. -/
def execRegisterWrite (offset : BitVec 12) (bytes : Nat) (value : BitVec 32) (s : State) :
    Host.Outcome State Fault Refusal :=
  s.andThen fun p => p.registerWrite offset bytes value

end Sys2Proof.Machine
end

