-- ==== Sys2Proof/Machine/AdminRings.lean ====
section
/-! DEFINITION. The arrival of an admin command (R149, R150) and the meanings of the ring commands:
UNKNOWN_COMMAND, ADMIN_COMMAND_READ_FAILED, CREATE_CRING, DELETE_CRING, CREATE_SRING, DELETE_SRING,
SRING_DELETION_END, HALT_SRING, RESUME_SRING, FLUSH_SRING and FLUSH_WALK. -/

namespace Sys2Proof.Machine

/-! ### Arrival (R149, R150) -/

/-- The outstanding fetch of the Administration Unit is reported with a command record, and `f` takes
the command in progress. In FAILED the command is not taken (R149). -/
def Part.arrive (p : Part) (rec : Block) (f : Part → Part) : Part :=
  if p.readOutstanding .administration then
    let p := p.closeAccess
    if p.engine.state.working ∧ p.admin.state = .fetching then
      (f (p.onAdmin fun a => { a with command := some (rec, a.consumer) })).react
    else p
  else p

/-- The status of the first check that fails (R150). -/
def firstFailure (checks : List (Bool × Status)) : Option Status :=
  (checks.find? fun c => !c.1).map fun c => c.2

/-- The command is refused with the status of its first failing check, with result 0 and no other
effect, or takes its effect (R150, R151). -/
def Part.checked (p : Part) (checks : List (Bool × Status)) (f : Part → Part) : Part :=
  match firstFailure checks with
  | some st => p.endCommand st 0#32
  | none => f p

/-- The ring a ring command names. -/
def cmdRing (rec : Block) : Fin 8 := Fin.ofNat 8 (cmdTarget rec)
/-- The window a window command names. -/
def cmdWindow (rec : Block) : Fin 16 := Fin.ofNat 16 (cmdTarget rec)

/-- UNKNOWN_COMMAND arrives (R150). -/
def execUnknownCommand (record : Block) (s : State) : Host.Outcome State Fault Refusal :=
  s.andThen fun p => p.arrive record fun p => p.endCommand .unknownCommand 0#32

/-- ADMIN_COMMAND_READ_FAILED (R149); a report without its command fetch changes nothing. -/
def execAdminCommandReadFailed (s : State) : Host.Outcome State Fault Refusal :=
  s.andThen fun p =>
    let p := p.forRead .administration false
    if p.readOutstanding .administration then p.closeAccess.commandReadFails.react else p

/-! ### CREATE_CRING and DELETE_CRING (R113, R114, R153) -/

/-- The checks of CREATE_CRING, in order (R153). -/
def Part.createCringChecks (p : Part) (rec : Block) : List (Bool × Status) :=
  [ (decide (cmdTarget rec < 8), .invalidField),
    (!(p.cring (cmdRing rec)).present, .alreadyExists),
    (isPowerOfTwo 16 4096 (cmdHalf rec 0x10), .invalidField),
    (pageAligned (longAt rec 0x08), .invalidField),
    (decide (1 ≤ cmdByte rec 0x12 ∧ cmdByte rec 0x12 ≤ 15), .invalidField) ]

/-- CREATE_CRING's effect (R113). -/
def Part.createCring (p : Part) (rec : Block) : Part :=
  (p.modCring (cmdRing rec) fun _ =>
    { CompletionRing.absent with
      present := true
      base := longAt rec 0x08
      size := cmdHalf rec 0x10
      vector := Fin.ofNat 16 (cmdByte rec 0x12) }).endCommand .success 0#32

/-- CREATE_CRING arrives. -/
def execCreateCring (record : Block) (s : State) : Host.Outcome State Fault Refusal :=
  s.andThen fun p => p.arrive record fun p =>
    p.checked (p.createCringChecks record) fun p => p.createCring record

/-- A submission ring that is ACTIVE, HALTED or DELETING is bound to the completion ring (R153). -/
def Part.hasBound (p : Part) (c : Fin 8) : Bool :=
  (List.finRange 8).any fun r => (p.ring r).state != .absent && (p.ring r).bound == c

/-- The checks of DELETE_CRING, in order (R153). -/
def Part.deleteCringChecks (p : Part) (rec : Block) : List (Bool × Status) :=
  [ (decide (cmdTarget rec < 8), .invalidField),
    ((p.cring (cmdRing rec)).present, .notFound),
    (!p.hasBound (cmdRing rec), .inUse) ]

/-- DELETE_CRING's effect (R114). -/
def Part.deleteCring (p : Part) (rec : Block) : Part :=
  (p.modCring (cmdRing rec) fun _ => .absent).endCommand .success 0#32

/-- DELETE_CRING arrives. -/
def execDeleteCring (record : Block) (s : State) : Host.Outcome State Fault Refusal :=
  s.andThen fun p => p.arrive record fun p =>
    p.checked (p.deleteCringChecks record) fun p => p.deleteCring record

/-! ### CREATE_SRING (R1, R154) -/

/-- The checks of CREATE_SRING, in order (R154, R178). -/
def Part.createSringChecks (p : Part) (rec : Block) : List (Bool × Status) :=
  [ (decide (cmdTarget rec < 8), .invalidField),
    (isPowerOfTwo 16 4096 (cmdHalf rec 0x10) && pageAligned (longAt rec 0x08)
      && decide (cmdByte rec 0x12 ≤ 3)
      && decide (1 ≤ cmdByte rec 0x13 ∧ cmdByte rec 0x13 ≤ 8)
      && decide (cmdByte rec 0x14 ≤ 1) && decide (cmdByte rec 0x15 ≤ 15)
      && decide (cmdByte rec 0x16 ≤ 1) && decide (cmdByte rec 0x17 ≤ 7), .invalidField),
    ((p.cring (Fin.ofNat 8 (cmdByte rec 0x17))).present, .notFound),
    ((p.ring (cmdRing rec)).state == .absent, .alreadyExists) ]

/-- CREATE_SRING's effect (R1, R25); the other fields of an ABSENT context already hold what R1 sets. Ring
creation clears the eviction bar of every ring (R14; notes/assumptions/44.md). -/
def Part.createSring (p : Part) (rec : Block) : Part :=
  ((p.modRing (cmdRing rec) fun _ =>
    { SubmissionRing.absent with
      state := .active
      base := longAt rec 0x08
      size := cmdHalf rec 0x10
      cls := Fin.ofNat 4 (cmdByte rec 0x12)
      quota := cmdByte rec 0x13
      order := if cmdByte rec 0x14 = 0 then .ordered else .relaxed
      retryLimit := cmdByte rec 0x15
      policy := if cmdByte rec 0x16 = 0 then .continue else .halt
      bound := Fin.ofNat 8 (cmdByte rec 0x17) }).clearBars).endCommand .success 0#32

/-- CREATE_SRING arrives. -/
def execCreateSring (record : Block) (s : State) : Host.Outcome State Fault Refusal :=
  s.andThen fun p => p.arrive record fun p =>
    p.checked (p.createSringChecks record) fun p => p.createSring record

/-! ### DELETE_SRING (R21, R154) -/

/-- The checks of DELETE_SRING, in order (R154). -/
def Part.deleteSringChecks (p : Part) (rec : Block) : List (Bool × Status) :=
  [ (decide (cmdTarget rec < 8), .invalidField),
    ((p.ring (cmdRing rec)).state != .absent, .notFound),
    ((p.ring (cmdRing rec)).state != .deleting, .wrongState) ]

/-- A DELETING ring whose deletion ends goes ABSENT, and its DELETE_SRING, if it waits, ends with the
result prepared (R21, R152). -/
def Part.endDeletion (p : Part) (r : Fin 8) : Part :=
  let p := p.modRing r fun _ => .absent
  if p.admin.state = .waiting (.deleteRing r) then p.endCommand .success p.admin.result else p

/-- DELETE_SRING's effect (R21): DELETING, every HELD slot returned without rewinding F, the record in
the admission register discarded, a fetch in flight marked; and the end of the deletion at once where
nothing delays it. The result is the number of slots returned. -/
def Part.deleteSring (p : Part) (rec : Block) : Part :=
  let r := cmdRing rec
  let count := (p.heldSlots r).length
  let p := (((p.modRing r fun x => { x with state := .deleting }).returnAll r).discardAdmission
    r).markFlight r
  let p := (p.onAdmin fun a => { a with result := BitVec.ofNat 32 count }).waitFor (.deleteRing r)
  if p.deletionEnds r then p.endDeletion r else p

/-- DELETE_SRING arrives. -/
def execDeleteSring (record : Block) (s : State) : Host.Outcome State Fault Refusal :=
  s.andThen fun p => p.arrive record fun p =>
    p.checked (p.deleteSringChecks record) fun p => p.deleteSring record

/-- The DELETING ring whose deletion ends. -/
def Part.deletionDue (p : Part) : Option (Fin 8) :=
  if p.engine.state.alive then (List.finRange 8).find? fun r => p.deletionEnds r else none

/-- SRING_DELETION_END's effect (R21). -/
def Part.finishDeletion (p : Part) : Part :=
  match p.deletionDue with
  | some r => (p.endDeletion r).react
  | none => p

/-- SRING_DELETION_END; nothing happens where no deletion can end. -/
def execSringDeletionEnd (s : State) : Host.Outcome State Fault Refusal :=
  s.andThen Part.finishDeletion

/-! ### HALT_SRING and RESUME_SRING (R18, R19, R155) -/

/-- The checks of HALT_SRING, RESUME_SRING and FLUSH_SRING, in order, for the state needed (R155). -/
def Part.stateChecks (p : Part) (rec : Block) (needed : RingState) : List (Bool × Status) :=
  [ (decide (cmdTarget rec < 8), .invalidField),
    ((p.ring (cmdRing rec)).state != .absent, .notFound),
    ((p.ring (cmdRing rec)).state == needed, .wrongState) ]

/-- HALT_SRING's effect (R18). -/
def Part.haltSring (p : Part) (rec : Block) : Part :=
  let r := cmdRing rec
  let count := (p.heldSlots r).length
  ((p.modRing r fun x => { x with state := .halted, haltedAt := none }).haltReturns r).endCommand
    .success (BitVec.ofNat 32 count)

/-- HALT_SRING arrives. -/
def execHaltSring (record : Block) (s : State) : Host.Outcome State Fault Refusal :=
  s.andThen fun p => p.arrive record fun p =>
    p.checked (p.stateChecks record .active) fun p => p.haltSring record

/-- RESUME_SRING's effect (R19); its result is the halted-at it finds, FFFFFFFFh for none (R155). -/
def Part.resumeSring (p : Part) (rec : Block) : Part :=
  let r := cmdRing rec
  let result := match (p.ring r).haltedAt with
    | some i => BitVec.ofNat 32 i
    | none => 0xFFFFFFFF#32
  (p.modRing r fun x => { x with state := .active, haltedAt := none }).endCommand .success result

/-- RESUME_SRING arrives. -/
def execResumeSring (record : Block) (s : State) : Host.Outcome State Fault Refusal :=
  s.andThen fun p => p.arrive record fun p =>
    p.checked (p.stateChecks record .halted) fun p => p.resumeSring record

/-! ### FLUSH_SRING (R20, R155) -/

/-- The ring at the end of its flush: every span position NOT_ADMITTED, ACTIVE, halted-at none (R20). -/
def SubmissionRing.flushed (r : SubmissionRing) : SubmissionRing :=
  { r with
    state := .active
    haltedAt := none
    span := List.replicate 64 .notAdmitted
    links := List.replicate 64 .none }

/-- FLUSH_SRING's effect (R20): at once where the held count is 0 and P equals F, otherwise it waits,
with P taken as its end at this moment where the held count is 0. -/
def Part.flushSring (p : Part) (rec : Block) : Part :=
  let r := cmdRing rec
  let x := p.ring r
  if x.heldCount = 0 ∧ x.producer = x.fetchIndex then
    (p.modRing r SubmissionRing.flushed).endCommand .success 0#32
  else
    p.waitFor (.flushRing
      { ring := r
        stop := if x.heldCount = 0 then some x.producer else none
        made := 0
        unwritten := 0
        walked := false
        granted := false })

/-- FLUSH_SRING arrives. -/
def execFlushSring (record : Block) (s : State) : Host.Outcome State Fault Refusal :=
  s.andThen fun p => p.arrive record fun p =>
    p.checked (p.stateChecks record .halted) fun p => p.flushSring record

/-- F and C moved together over `n` positions (R20). -/
def SubmissionRing.passBoth (r : SubmissionRing) (n : Nat) : SubmissionRing :=
  let r := r.passConsumer n
  { r with fetchIndex := r.consumer }

/-- F and C advanced over the DONE positions from C on, not beyond the end of the walk (R4, R20). -/
def SubmissionRing.passDone (r : SubmissionRing) (stop : Nat) : SubmissionRing :=
  r.passBoth (min r.doneRun (distance r.size r.consumer stop))

/-- F and C advanced over one position given FLUSHED, which is passed with the link mark NONE (R25). -/
def SubmissionRing.passFlushed (r : SubmissionRing) : SubmissionRing :=
  { r.passBoth 1 with linkBefore := .none }

/-- The completion of a position given FLUSHED (R20, R118). -/
def SubmissionRing.flushedCompletion (x : SubmissionRing) (r : Fin 8) : Completion :=
  { tag := 0#16, ring := r, index := x.fetchIndex, status := .flushed, bytesDone := 0, retries := 0,
    result := 0#32, reservation := x.bound }

/-- The walk has reached its end: the ring goes ACTIVE, and the command ends where every FLUSHED entry
has been written (R20). -/
def Part.finishWalk (p : Part) (f : Flush) : Part :=
  let p := p.modRing f.ring SubmissionRing.flushed
  if f.unwritten = 0 then p.endCommand .success (BitVec.ofNat 32 f.made)
  else p.waitFor (.flushRing { f with walked := true })

/-- The walk goes on from where it stands, or finishes at its end. -/
def Part.walked (p : Part) (f : Flush) (stop : Nat) : Part :=
  if (p.ring f.ring).fetchIndex = stop then p.finishWalk f else p.waitFor (.flushRing f)

/-- The reservation of the walk's next FLUSHED completion: one granted to it while it waited, or one
granted now (R115). -/
def Part.reserveFlushed (p : Part) (f : Flush) (c : Fin 8) : Part :=
  if f.granted then p else p.reserve c

/-- One step of the walk (R20): DONE positions are passed; any other position takes a reservation and is
given FLUSHED, where it has one or one can be granted. F and C pass that position as its completion is
made, before it enters the FIFO, and no further one is made while one still waits to enter (DESIGN
CHOICE, notes/assumptions/43.md). -/
def Part.walkStep (p : Part) (f : Flush) (stop : Nat) : Part :=
  let x := p.ring f.ring
  if x.fetchIndex = stop then (p.finishWalk f).react
  else if x.spanMark x.fetchIndex = .done then
    ((p.modRing f.ring fun y => y.passDone stop).walked f stop).react
  else if (f.granted ∨ 1 ≤ (p.cring x.bound).freeEntries) ∧ p.flushedWaits = false then
    ((((p.reserveFlushed f x.bound).handOverFlushed (x.flushedCompletion f.ring)).modRing f.ring
      fun y => y.passFlushed.passDone stop).walked
        { f with made := f.made + 1, unwritten := f.unwritten + 1, granted := false } stop).react
  else p

/-- FLUSH_WALK's effect: a step of the flush in progress once its end is known (R20, R152). -/
def Part.flushWalk (p : Part) : Part :=
  match p.admin.state with
  | .waiting (.flushRing f) =>
    match f.stop with
    | some stop => if p.engine.state.alive ∧ f.walked = false then p.walkStep f stop else p
    | none => p
  | _ => p

/-- FLUSH_WALK; nothing happens where no flush can take its next position. -/
def execFlushWalk (s : State) : Host.Outcome State Fault Refusal := s.andThen Part.flushWalk

end Sys2Proof.Machine
end

