-- ==== Sys2Proof/Machine/AdminPort.lean ====
section
/-! DEFINITION. Meanings of the window commands (R78 to R81, R156, R157), the notice configuration
(R130, R138, R158, R159), ATTACH and DETACH (R95, R106, R160, R161) and QUERY (R162). -/

namespace Sys2Proof.Machine

/-! ### SET_WINDOW (R79, R156) -/

/-- Two ranges of backplane address have an address in common. -/
def rangesOverlap (a la b lb : Nat) : Bool := decide (a < b + lb ∧ b < a + la)

/-- The new range overlaps an entry that is OPEN, FENCED or DRAINING (R156). -/
def Part.overlapsWindow (p : Part) (w : Fin 16) (base size : Nat) : Bool :=
  (List.finRange 16).any fun v =>
    v != w && (p.window v).state != .unused
      && rangesOverlap base size (p.window v).base.toNat (p.window v).size

/-- The checks of SET_WINDOW, in order (R156, R178). -/
def Part.setWindowChecks (p : Part) (rec : Block) : List (Bool × Status) :=
  let base := (wordAt rec 0x08).toNat
  let size := (wordAt rec 0x0C).toNat
  [ (decide (cmdTarget rec < 16), .invalidField),
    (isPowerOfTwo 4096 (2 ^ 30) size && base % size == 0, .invalidField),
    (decide (cmdByte rec 0x10 ≤ 1)
      && [1, 2, 4].contains (cmdByte rec 0x11)
      && [1, 2, 4, 8].contains (cmdByte rec 0x12)
      && decide (cmdByte rec 0x13 ≤ 2) && decide (cmdByte rec 0x15 ≤ 3)
      && decide (cmdByte rec 0x16 ≤ 15), .invalidField),
    (cmdByte rec 0x10 == 0
      || ([1024, 2048, 4096, 8192].contains (cmdHalf rec 0x18)
        && [1, 2, 4].contains (cmdByte rec 0x1A)
        && decide (cmdHalf rec 0x18 * cmdByte rec 0x1A ≤ size)
        && decide (cmdByte rec 0x1B ≤ 1) && decide (1 ≤ cmdByte rec 0x1C)), .invalidField),
    ((p.window (cmdWindow rec)).state == .unused, .inUse),
    (!p.overlapsWindow (cmdWindow rec) base size, .overlap) ]

/-- The window entry a SET_WINDOW writes (R79); for a DIRECT window the page fields hold 0 (R156). -/
def windowOf (rec : Block) : Window :=
  let paged := cmdByte rec 0x10 ≠ 0
  { state := .opened
    drain := .run
    base := wordAt rec 0x08
    size := (wordAt rec 0x0C).toNat
    kind := if paged then .paged else .direct
    portWidth := cmdByte rec 0x11
    maxBurst := cmdByte rec 0x12
    access := match cmdByte rec 0x13 with
      | 0 => .readWrite
      | 1 => .readOnly
      | _ => .writeOnly
    lockPermitted := (byteAt rec 0x14).getLsbD 0
    limitClass := Fin.ofNat 4 (cmdByte rec 0x15)
    fenceLimit := cmdByte rec 0x16
    pageSize := if paged then cmdHalf rec 0x18 else 0
    bankCount := if paged then cmdByte rec 0x1A else 0
    policy := if paged ∧ cmdByte rec 0x1B ≠ 0 then .close else .keep
    openLimit := if paged then cmdByte rec 0x1C else 0
    inFlight := 0
    timeouts := 0
    banks := if paged then List.replicate (cmdByte rec 0x1A) .unknown else [] }

/-- SET_WINDOW arrives. -/
def execSetWindow (record : Block) (s : State) : Host.Outcome State Fault Refusal :=
  s.andThen fun p => p.arrive record fun p =>
    p.checked (p.setWindowChecks record) fun p =>
      (p.modWindow (cmdWindow record) fun _ => windowOf record).endCommand .success 0#32

/-! ### CLEAR_WINDOW and REOPEN_WINDOW (R78, R80, R81, R157) -/

/-- The checks of CLEAR_WINDOW, in order (R157). -/
def Part.clearWindowChecks (p : Part) (rec : Block) : List (Bool × Status) :=
  let x := p.window (cmdWindow rec)
  [ (decide (cmdTarget rec < 16), .invalidField),
    (x.state == .opened || x.state == .fenced, .wrongState) ]

/-- A window that has reached the end of draining goes UNUSED, and its CLEAR_WINDOW, if it waits, ends
(R81, R152). -/
def Part.endDraining (p : Part) (w : Fin 16) : Part :=
  let p := p.modWindow w fun _ => .unused
  if p.admin.state = .waiting (.clearWindow w) then p.endCommand .success 0#32 else p

/-- CLEAR_WINDOW's effect (R80), and the end of draining at once where nothing delays it (R81). -/
def Part.clearWindow (p : Part) (rec : Block) : Part :=
  let w := cmdWindow rec
  let p := (p.modWindow w fun x =>
    { x with
      state := .draining
      drain := if x.state = .fenced then .fenced else .run }).waitFor (.clearWindow w)
  if p.drainingEnds w then p.endDraining w else p

/-- CLEAR_WINDOW arrives. -/
def execClearWindow (record : Block) (s : State) : Host.Outcome State Fault Refusal :=
  s.andThen fun p => p.arrive record fun p =>
    p.checked (p.clearWindowChecks record) fun p => p.clearWindow record

/-- The DRAINING window that has reached the end of draining. -/
def Part.drainingDue (p : Part) : Option (Fin 16) :=
  if p.engine.state.alive then (List.finRange 16).find? fun w => p.drainingEnds w else none

/-- END_OF_DRAINING's effect (R81). -/
def Part.finishDraining (p : Part) : Part :=
  match p.drainingDue with
  | some w => (p.endDraining w).react
  | none => p

/-- END_OF_DRAINING; nothing happens where no window has reached the end of draining. -/
def execEndOfDraining (s : State) : Host.Outcome State Fault Refusal :=
  s.andThen Part.finishDraining

/-- The checks of REOPEN_WINDOW, in order (R157). -/
def Part.reopenWindowChecks (p : Part) (rec : Block) : List (Bool × Status) :=
  [ (decide (cmdTarget rec < 16), .invalidField),
    ((p.window (cmdWindow rec)).state == .fenced, .wrongState) ]

/-- REOPEN_WINDOW arrives (R78). -/
def execReopenWindow (record : Block) (s : State) : Host.Outcome State Fault Refusal :=
  s.andThen fun p => p.arrive record fun p =>
    p.checked (p.reopenWindowChecks record) fun p =>
      (p.modWindow (cmdWindow record) fun x =>
        { x with state := .opened, timeouts := 0 }).endCommand .success 0#32

/-! ### Notice configuration (R130, R138, R158, R159) -/

/-- The checks of SET_NODE, in order (R158). -/
def Part.setNodeChecks (p : Part) (rec : Block) : List (Bool × Status) :=
  [ (p.port.state == .detached, .portActive),
    (decide (cmdTarget rec ≤ 31), .invalidField) ]

/-- SET_NODE arrives (R130). -/
def execSetNode (record : Block) (s : State) : Host.Outcome State Fault Refusal :=
  s.andThen fun p => p.arrive record fun p =>
    p.checked (p.setNodeChecks record) fun p =>
      (p.onNotices fun n =>
        { n with nodeId := some (BitVec.ofNat 5 (cmdTarget record)) }).endCommand .success 0#32

/-- The checks of SET_NOTICE_RING, in order (R158). -/
def Part.setNoticeRingChecks (p : Part) (rec : Block) : List (Bool × Status) :=
  [ (p.port.state == .detached, .portActive),
    ((List.finRange 4).all fun b => (p.entry b).state == .free, .inUse),
    (isPowerOfTwo 16 1024 (cmdHalf rec 0x10) && pageAligned (longAt rec 0x08)
      && decide (1 ≤ cmdByte rec 0x12 ∧ cmdByte rec 0x12 ≤ 15)
      && decide (1 ≤ cmdByte rec 0x13 ∧ cmdByte rec 0x13 ≤ 15), .invalidField) ]

/-- SET_NOTICE_RING's effect (R138): at once, or at the report of an outstanding local event entry
write. -/
def Part.setNoticeRing (p : Part) (rec : Block) : Part :=
  let base := longAt rec 0x08
  let size := cmdHalf rec 0x10
  let normal := Fin.ofNat 16 (cmdByte rec 0x12)
  let urgent := Fin.ofNat 16 (cmdByte rec 0x13)
  if p.notices.write.isSome then p.waitFor (.noticeRing base size normal urgent)
  else
    (p.onNotices fun n =>
      { n with
        ring :=
          { NoticeRing.absent with
            present := true, base := base, size := size, normalVector := normal,
            urgentVector := urgent } }).endCommand .success 0#32

/-- SET_NOTICE_RING arrives. -/
def execSetNoticeRing (record : Block) (s : State) : Host.Outcome State Fault Refusal :=
  s.andThen fun p => p.arrive record fun p =>
    p.checked (p.setNoticeRingChecks record) fun p => p.setNoticeRing record

/-- The checks of SET_FILTER, in order (R159, R178). -/
def setFilterChecks (rec : Block) : List (Bool × Status) :=
  [ (decide (cmdTarget rec < 16) || cmdTarget rec == 0xFF, .invalidField),
    (if cmdTarget rec = 0xFF then cmdByte rec 0x12 == 0 || cmdByte rec 0x12 == 2
      else decide (cmdByte rec 0x12 ≤ 2), .invalidField) ]

/-- The filter entry a SET_FILTER writes (R159). -/
def filterOf (rec : Block) : FilterEntry :=
  { enabled := (byteAt rec 0x08).getLsbD 0
    sourceValue := halfAt rec 0x0A
    sourceMask := halfAt rec 0x0C
    codeValue := halfAt rec 0x0E
    codeMask := halfAt rec 0x10
    action := match cmdByte rec 0x12 with
      | 0 => .accept
      | 1 => .urgent
      | _ => .reject }

/-- SET_FILTER's effect (R134, R159). -/
def Part.setFilter (p : Part) (rec : Block) : Part :=
  (if cmdTarget rec = 0xFF then
    p.onNotices fun n => { n with defaultAccept := cmdByte rec 0x12 == 0 }
  else
    p.onNotices fun n =>
      { n with filters := tabUpdate n.filters (cmdWindow rec) fun _ => filterOf rec }).endCommand
    .success 0#32

/-- SET_FILTER arrives. -/
def execSetFilter (record : Block) (s : State) : Host.Outcome State Fault Refusal :=
  s.andThen fun p => p.arrive record fun p =>
    p.checked (setFilterChecks record) fun p => p.setFilter record

/-! ### ATTACH and DETACH (R95, R106, R160, R161) -/

/-- The checks of ATTACH, in order (R160). -/
def Part.attachChecks (p : Part) : List (Bool × Status) :=
  [ (p.port.state == .detached, .wrongState),
    (p.notices.nodeId.isSome && p.notices.ring.present, .notReady),
    (p.port.clockPresent && !p.port.rst, .wrongState) ]

/-- ATTACH arrives (R95). -/
def execAttach (record : Block) (s : State) : Host.Outcome State Fault Refusal :=
  s.andThen fun p => p.arrive record fun p =>
    p.checked p.attachChecks fun p =>
      (p.onPort fun x =>
        { x with
          state := .joining, errorCount := 0, mark := .none,
          joinTimer := joinInterval }).endCommand .success 0#32

/-- DETACH's effect (R106). -/
def Part.detachCommand (p : Part) : Part :=
  let p := (p.endHold).waitFor .detach
  match p.port.state with
  | .joining | .idle | .requesting => p.detach .command
  | .owner =>
    p.onPort fun x =>
      { x with
        mark := .command
        state := if p.master.state = .idle then .releasing else .yielding }
  | .yielding | .releasing => p.onPort fun x => { x with mark := .command }
  | .detached => p

/-- DETACH arrives (R161). -/
def execDetach (record : Block) (s : State) : Host.Outcome State Fault Refusal :=
  s.andThen fun p => p.arrive record fun p =>
    p.checked [(p.port.state != .detached, .wrongState)] Part.detachCommand

/-! ### QUERY (R162) -/

/-- The checks of QUERY, in order (R162). -/
def queryChecks (rec : Block) : List (Bool × Status) :=
  [ (decide (cmdByte rec 0x10 ≤ 1), .invalidField),
    (cmdByte rec 0x10 == 0 || decide (cmdTarget rec < 16), .invalidField),
    ((longAt rec 0x08).extractLsb' 0 6 == 0#6, .invalidField) ]

/-- QUERY's effect (R162): the snapshot is taken, counters are cleared where asked, and the write of the
report record is asked for. -/
def Part.query (p : Part) (rec : Block) : Part :=
  let report :=
    if cmdByte rec 0x10 = 0 then statisticsReport p else windowReport (p.window (cmdWindow rec))
  let p := if cmdByte rec 0x10 = 0 ∧ (byteAt rec 0x11).getLsbD 0 = true then
      p.onStats fun _ => .zero
    else p
  (p.ask .administration (.write (longAt rec 0x08) report)).onAdmin fun a =>
    { a with state := .writing }

/-- QUERY arrives. -/
def execQuery (record : Block) (s : State) : Host.Outcome State Fault Refusal :=
  s.andThen fun p => p.arrive record fun p =>
    p.checked (queryChecks record) fun p => p.query record

/-- A QUERY report write is reported (R162); in FAILED the report changes nothing else. -/
def Part.reportWritten (p : Part) (done : Bool) : Part :=
  let p := p.forWrite .administration done
  if p.writeOutstanding .administration then
    let p := p.closeAccess
    if p.engine.state.working ∧ p.admin.state = .writing then
      (if done then p.endCommand .success 64#32 else p.endCommand .hostWriteError 0#32).react
    else p
  else p

/-- QUERY_REPORT_WRITE_DONE; a report without its report write changes nothing. -/
def execQueryReportWriteDone (done : Bool) (s : State) : Host.Outcome State Fault Refusal :=
  s.andThen fun p => p.reportWritten done

end Sys2Proof.Machine
end

