-- ==== Sys2Proof/Machine/HostChannel.lean ====
section
/-! DEFINITION. Meanings of the access channel's steps (R169, R170) and of the interrupt configuration
events (R171). -/

namespace Sys2Proof.Machine

/-- The output of an access as it is issued on the link. -/
def Access.output : Access → Output
  | .read addr bytes => .hostRead addr bytes
  | .write addr data => .hostWrite addr data

/-- The arbiter takes the next waiting request and issues it on the link (R169, R170). -/
def Part.issue (p : Part) : Part :=
  match p.nextAccess with
  | some (s, a, stale) => (p.takeAccess s a stale).emit a.output
  | none => p

/-- HOST_ACCESS_ISSUE; nothing happens while an access is outstanding, no request waits, or the engine
is not RUNNING or QUIESCING. -/
def execHostAccessIssue (s : State) : Host.Outcome State Fault Refusal := s.andThen Part.issue

/-- The outstanding access is a read whose burst was abandoned (R56). -/
def Part.staleOutstanding (p : Part) : Bool :=
  match p.host.outstanding with
  | some o => o.stale
  | none => false

/-- The outstanding read is reported failed for want of its data (R169), with the effect of its source
(R170). -/
def Part.readTimesOut (p : Part) : Part :=
  if p.readOutstanding .ringFetch then p.closeAccess.submissionReadFails.react
  else if p.readOutstanding .administration then p.closeAccess.commandReadFails.react
  else if p.readOutstanding .master then
    (if p.staleOutstanding then p.closeAccess else p.closeAccess.dataReadFails).react
  else p

/-- HOST_READ_TIMEOUT; nothing happens where no read is outstanding. -/
def execHostReadTimeout (s : State) : Host.Outcome State Fault Refusal :=
  s.andThen Part.readTimesOut

/-- A pending vector that is no longer held back sends its one message and its flag clears (R171). -/
def Part.sendPending (p : Part) (v : Fin 16) : Part :=
  if p.host.vectorPending.get v && p.host.messagesEnabled && !p.host.vectorMasked.get v then
    (p.onHost fun h => { h with vectorPending := tabUpdate h.vectorPending v fun _ => false }).emit
      (.message v)
  else p

/-- A vector is unmasked, or messages are enabled (R171); with several flags pending at an enable, the
messages go in vector order (notes/assumptions/11.md). -/
def Part.unmask (p : Part) (scope : VectorScope) : Part :=
  match scope with
  | .vector v =>
    (p.onHost fun h =>
      { h with vectorMasked := tabUpdate h.vectorMasked v fun _ => false }).sendPending v
  | .messages =>
    (List.finRange 16).foldl Part.sendPending
      (p.onHost fun h => { h with messagesEnabled := true })

/-- VECTOR_UNMASK. -/
def execVectorUnmask (scope : VectorScope) (s : State) : Host.Outcome State Fault Refusal :=
  s.andThen fun p => p.unmask scope

/-- A vector is masked, or messages are disabled (R171). -/
def Part.mask (p : Part) (scope : VectorScope) : Part :=
  match scope with
  | .vector v => p.onHost fun h => { h with vectorMasked := tabUpdate h.vectorMasked v fun _ => true }
  | .messages => p.onHost fun h => { h with messagesEnabled := false }

/-- VECTOR_MASKED. -/
def execVectorMasked (scope : VectorScope) (s : State) : Host.Outcome State Fault Refusal :=
  s.andThen fun p => p.mask scope

end Sys2Proof.Machine
end

