-- ==== Sys2Proof/Machine/Backplane.lean ====
section
/-! DEFINITION. Meanings of the Backplane Master's events: WRITE_DATA_READ_DONE (R56), TARGET_ANSWER
(R47), RESPONSE_LIMIT_EXPIRY (R64), READ_DATA_WRITE_DONE (R55), OPEN_TIMER_EXPIRY (R88) and
CLOSE_OPERATION (R68, R89, R90). -/

namespace Sys2Proof.Machine

/-- The data of a FETCHING burst has arrived: it is staged and the burst drives (R56, R57). -/
def Part.dataArrives (p : Part) (data : BurstData) : Part :=
  match p.master.state, p.master.operation with
  | .fetching, some o =>
    (p.onMaster fun m => { m with staging := data.toList.take o.bytes }).startDriving o
  | _, _ => p

/-- A write-data read is reported (R56): stale, failed, or arrived. -/
def Part.dataRead (p : Part) (result : Option BurstData) : Part :=
  let p := p.forRead .master result.isSome
  if p.readOutstanding .master then
    (if p.staleOutstanding then p.closeAccess
    else match result with
      | some data => p.closeAccess.dataArrives data
      | none => p.closeAccess.dataReadFails).react
  else p

/-- WRITE_DATA_READ_DONE; a report without its write-data read changes nothing. -/
def execWriteDataReadDone (result : Option BurstData) (s : State) :
    Host.Outcome State Fault Refusal :=
  s.andThen fun p => p.dataRead result

/-- The operation and its phase that wait for an answer. -/
def Part.waitingPhase (p : Part) : Option (Operation × Phase) :=
  match p.master.state, p.master.operation with
  | .driving, some o => o.phase.map fun ph => (o, ph)
  | .closing, some o => o.phase.map fun ph => (o, ph)
  | _, _ => none

/-- An answer arrives (R47): ignored where no phase waits, and HOLD leaves the phase waiting. -/
def Part.takeAnswer (p : Part) (a : Answer) (ad : BusWord) (parityRight : Bool) : Part :=
  match p.waitingPhase with
  | some (o, ph) =>
    if a = .hold ∧ parityRight then p else (p.answered o ph a ad parityRight).react
  | none => p

/-- TARGET_ANSWER. -/
def execTargetAnswer (a : Answer) (ad : BusWord) (parityRight : Bool) (s : State) :
    Host.Outcome State Fault Refusal :=
  s.andThen fun p => p.takeAnswer a ad parityRight

/-- The response limit of the waiting phase expires: ABORT, and the operation ends TIMEOUT (R64, R68). -/
def Part.expireResponse (p : Part) : Part :=
  match p.waitingPhase with
  | some (o, _) => (p.abortOperation o .timeout).react
  | none => p

/-- RESPONSE_LIMIT_EXPIRY; nothing happens where no phase waits. -/
def execResponseLimitExpiry (s : State) : Host.Outcome State Fault Refusal :=
  s.andThen Part.expireResponse

/-- A delivery write is reported: the burst reports with its backplane verdict, or HOST_WRITE_ERROR
(R55). -/
def Part.delivered (p : Part) (done : Bool) : Part :=
  let p := p.forWrite .master done
  if p.writeOutstanding .master then
    let p := p.closeAccess
    match p.master.state, p.master.operation with
    | .delivering, some o =>
      match o.slot with
      | some k => (p.reportBurst o k o.ending o.ackedBytes done).react
      | none => p
    | _, _ => p
  else p

/-- READ_DATA_WRITE_DONE; a report without its delivery write changes nothing. -/
def execReadDataWriteDone (done : Bool) (s : State) : Host.Outcome State Fault Refusal :=
  s.andThen fun p => p.delivered done

/-- The open timer of an OPEN bank runs out: the bank is marked due-to-close and a close request is made
(R88). -/
def Bank.expire (b : Bank) : Bank :=
  if b.state = .opened then { b with timer := 0, dueToClose := true, closeRequest := true } else b

/-- OPEN_TIMER_EXPIRY; no timer runs in a bank that is not OPEN (R83). -/
def execOpenTimerExpiry (window : Fin 16) (bank : Fin 4) (s : State) :
    Host.Outcome State Fault Refusal :=
  s.andThen fun p => p.modBank window bank.val Bank.expire

/-- The operation record of a close of bank `b` of window `w` (R68). -/
def Part.closeRecord (p : Part) (w : Fin 16) (b : Nat) : Operation :=
  { slot := none
    opcode := .marker
    window := some w
    bank := b
    page := 0
    addr := (p.window w).closeAddress b
    start := 0
    bytes := 0
    width := 0
    beats := 0
    acked := 0
    phase := none
    elapsed := 0
    limit := responseLimit (p.window w).limitClass
    lockHeld := false
    oldValue := none
    ending := .clean }

/-- A close operation is taken and CLOSE is driven (R68, R89, R90). -/
def Part.startClose (p : Part) : Part :=
  match p.closeTarget with
  | some (w, b) =>
    let o := p.closeRecord w b
    (((p.modBank w b fun x => { x with closeRequest := false }).onMaster fun _ =>
      { state := .closing, operation := some o, staging := [] }).present o .closePage).react
  | none => p

/-- CLOSE_OPERATION; nothing happens where no bank is to be closed or the Master is busy. -/
def execCloseOperation (s : State) : Host.Outcome State Fault Refusal := s.andThen Part.startClose

end Sys2Proof.Machine
end

