-- ==== Sys2Proof/Machine/Fetch.lean ====
section
/-! DEFINITION. Meanings of RING_CHOICE (R7) and SUBMISSION_READ_DONE (R8, R9, R12 to R14). -/

namespace Sys2Proof.Machine

/-- A ring is chosen (R7): the round-robin pointer moves to it, its bound completion ring grants one
reservation and the fetch of the record at F is asked for. -/
def Part.chooseRing (p : Part) (r : Fin 8) : Part :=
  let x := p.ring r
  ((p.reserve x.bound).onFetch fun u =>
    { u with
      lastChosen := r
      flight := some
        { ring := r, index := x.fetchIndex, reservation := x.bound, discard := false } }).ask
      .ringFetch (.read (x.base + BitVec.ofNat 64 (64 * x.fetchIndex)) 64)

/-- RING_CHOICE's effect; nothing happens where a ring may not be chosen or none is a candidate. -/
def Part.choose (p : Part) : Part :=
  if p.mayChoose then
    match p.ringChoice with
    | some r => (p.chooseRing r).react
    | none => p
  else p

/-- RING_CHOICE. -/
def execRingChoice (s : State) : Host.Outcome State Fault Refusal := s.andThen Part.choose

/-- The fetched record is discarded because its ring left ACTIVE (R8, R116). A chain hold that waits for
it ends here, with the record discarded, and not when the fetch was marked (DEDUCED,
notes/assumptions/41.md). -/
def Part.discardFlight (p : Part) (f : Flight) : Part :=
  ((p.onFetch fun u => { u with flight := none }).unreserve f.reservation).endHoldFor f.ring f.index

/-- The fetched record enters the admission register and, in RUNNING, is placed (R8, R9). -/
def Part.takeRecord (p : Part) (f : Flight) (rec : Block) : Part :=
  let p := p.onFetch fun u =>
    { u with
      flight := none
      admission := some
        { ring := f.ring, index := f.index, record := rec, reservation := f.reservation } }
  if p.engine.state = .running then p.place else p

/-- A record fetch is reported (R8): placed or kept, discarded, or fatal. In FAILED the report changes
nothing else (R9). -/
def Part.submissionRead (p : Part) (result : Option Block) : Part :=
  let p := p.forRead .ringFetch result.isSome
  if p.readOutstanding .ringFetch then
    let p := p.closeAccess
    if p.engine.state.working then
      match result, p.fetch.flight with
      | some rec, some f =>
        (if f.discard ∨ (p.ring f.ring).state ≠ .active then p.discardFlight f
        else p.takeRecord f rec).react
      | none, _ => p.submissionReadFails.react
      | some _, none => p
    else p
  else p

/-- SUBMISSION_READ_DONE; a report without its record fetch changes nothing. -/
def execSubmissionReadDone (result : Option Block) (s : State) :
    Host.Outcome State Fault Refusal :=
  s.andThen fun p => p.submissionRead result

end Sys2Proof.Machine
end

