-- ==== Sys2Proof/Machine/Ownership.lean ====
section
/-! DEFINITION. Meanings of the ownership and supervision events: RELEASE_COMPLETE and the grant (R99,
R100, R104, R105), WDR (R102), the clock (R94), RST (R109), and the join timer and phase activity
(R96, R132). -/

namespace Sys2Proof.Machine

/-- The release is complete: no bank is OPEN and the Master is IDLE in RELEASING, so REQ drops and LVL
goes to 3 (R90, R104). -/
def Part.completeRelease (p : Part) : Part :=
  if p.port.state = .releasing ∧ p.master.state = .idle ∧ p.anyBankOpen = false then
    p.onPort Port.dropRequest
  else p

/-- RELEASE_COMPLETE. -/
def execReleaseComplete (s : State) : Host.Outcome State Fault Refusal :=
  s.andThen Part.completeRelease

/-- A grant is taken: the port is OWNER with the tenure flag set, and a notice RECEIVING is dropped
(R99, R132). -/
def Part.takeGrant (p : Part) : Part :=
  (p.onPort fun x => { x with state := .owner, tenure := true }).dropReceiving

/-- GNT rises (R99, R100). -/
def Part.grantRises (p : Part) : Part :=
  if p.port.gnt then p
  else
    let p := p.onPort fun x => { x with gnt := true }
    match p.port.state with
    | .requesting =>
      let p := p.takeGrant
      (if p.port.wdr then p.takeWithdraw else p).react
    | .idle => (p.takeGrant.onPort fun x => { x with state := .releasing }).react
    | .detached | .joining | .owner | .yielding | .releasing => p

/-- GNT_RISE; GNT does not rise while it is high. -/
def execGntRise (s : State) : Host.Outcome State Fault Refusal := s.andThen Part.grantRises

/-- The cause of a detach mark. -/
def DetachMark.cause : DetachMark → Option DetachCause
  | .none => Option.none
  | .command => some .command
  | .errorLimit => some .errorLimit

/-- Where the port goes once its tenure has ended: DETACHED in FAILED (R111) or under a detach mark
(R106, R108), else to IDLE with REQ dropped, whence it requests anew at the same event where the
bus-eligible set is not empty (R97, R104). -/
def Part.afterTenure (p : Part) : Part :=
  if p.engine.state = .failed then p.portDetached
  else match p.port.mark.cause with
    | some c => p.detach c
    | none => p.onPort fun x => { x.dropRequest with state := .idle }

/-- The end of a tenure (R104). -/
def Part.endTenure (p : Part) : Part := p.endTenureFlags.afterTenure

/-- An unexpected loss of grant (R105): every bank record becomes UNKNOWN, the Master stops, the error
count rises, the tenure's flags clear, and the port goes where the mark, the limit and the set send it.
-/
def Part.loseGrant (p : Part) : Part :=
  let p := ((p.endTenureFlags.loseBanks).abandonFetch).cutOperation .grantLost
  let before := p.port.errorCount
  let p := p.onPort Port.raise
  let p := if before < errorLimit ∧ p.port.errorCount = errorLimit then
      p.onPort fun x => { x with mark := .errorLimit }
    else p
  p.afterTenure

/-- GNT drops (R99, R104, R105). -/
def Part.grantDrops (p : Part) : Part :=
  if p.port.gnt then
    let p := p.onPort fun x => { x with gnt := false }
    (if p.port.tenure then
      (if p.port.state = .releasing ∧ p.port.req = false then p.endTenure else p.loseGrant)
    else p).react
  else p

/-- GNT_DROP; GNT does not drop while it is low. -/
def execGntDrop (s : State) : Host.Outcome State Fault Refusal := s.andThen Part.grantDrops

/-- WDR is asserted: it acts on an OWNER and is otherwise ignored (R102). -/
def Part.withdraw (p : Part) : Part :=
  let p := p.onPort fun x => { x with wdr := true }
  if p.port.state = .owner then p.takeWithdraw.react else p

/-- WITHDRAW. -/
def execWithdraw (s : State) : Host.Outcome State Fault Refusal := s.andThen Part.withdraw

/-- WDR_DEASSERTED: a later grant is not taken as withdrawn at once (R102). -/
def execWdrDeasserted (s : State) : Host.Outcome State Fault Refusal :=
  s.andThen fun p => p.onPort fun x => { x with wdr := false }

/-- Link loss or the assertion of RST in any port state but DETACHED (R109, R91, R66). -/
def Part.loseLink (p : Part) (cause : DetachCause) : Part :=
  if p.port.state = .detached then p
  else
    ((((p.endTenureFlags.loseBanks).abandonFetch).cutOperation .linkLost).detach cause).react

/-- LINK_LOSS: clock present becomes no (R94, R109); nothing happens where it is no already. -/
def execLinkLoss (s : State) : Host.Outcome State Fault Refusal :=
  s.andThen fun p =>
    if p.port.clockPresent then
      (p.onPort fun x => { x with clockPresent := false }).loseLink .linkLost
    else p

/-- CLOCK_RETURN: clock present becomes yes; the port state does not change (R94). -/
def execClockReturn (s : State) : Host.Outcome State Fault Refusal :=
  s.andThen fun p => p.onPort fun x => { x with clockPresent := true }

/-- BACKPLANE_RESET: RST is asserted (R109, R129); nothing happens where it is asserted already. -/
def execBackplaneReset (s : State) : Host.Outcome State Fault Refusal :=
  s.andThen fun p =>
    if p.port.rst then p
    else ((p.onPort fun x => { x with rst := true }).dropReceiving).loseLink .backplaneReset

/-- RST_RELEASED (R109). -/
def execRstReleased (s : State) : Host.Outcome State Fault Refusal :=
  s.andThen fun p => p.onPort fun x => { x with rst := false }

/-- Phase activity on the backplane: it reloads the join timer in JOINING (R96), and any phase other
than DATA ends a notice reception (R132). -/
def Part.seePhase (p : Part) (code : PhaseCode) : Part :=
  let p := if p.port.state = .joining then
      p.onPort fun x => { x with joinTimer := joinInterval }
    else p
  if code = .data then p else p.dropReceiving

/-- PHASE_ACTIVITY. -/
def execPhaseActivity (code : PhaseCode) (s : State) : Host.Outcome State Fault Refusal :=
  s.andThen fun p => p.seePhase code

/-- The join timer runs out in JOINING: the port goes to IDLE and ATTACHED is made pending (R96). -/
def Part.finishJoin (p : Part) : Part :=
  if p.port.state = .joining then
    ((p.onPort fun x => { x with state := .idle, joinTimer := 0 }).pendAttached).react
  else p

/-- JOIN_TIMER_EXPIRY; no timer runs outside JOINING. -/
def execJoinTimerExpiry (s : State) : Host.Outcome State Fault Refusal :=
  s.andThen Part.finishJoin

end Sys2Proof.Machine
end

