-- ==== Sys2Proof/Machine/Notices.lean ====
section
/-! DEFINITION. Meanings of the inbound notice events (R131 to R135) and of NOTICE_ENTRY_WRITE_DONE
(R138, R140, R141, R143). -/

namespace Sys2Proof.Machine

/-- The port answers notices: IDLE or REQUESTING (R131). -/
def PortState.answers : PortState → Bool
  | .idle | .requesting => true
  | .detached | .joining | .owner | .yielding | .releasing => false

/-- The NOTICE phase is addressed to the part: the node id is set and AD equals it (R131). -/
def NoticeUnit.addressed (n : NoticeUnit) (ad : BusWord) : Bool :=
  match n.nodeId with
  | some i => ad == i.setWidth 32
  | none => false

/-- The lowest-numbered FREE buffer entry (R131). -/
def NoticeUnit.freeEntry (n : NoticeUnit) : Option (Fin 4) :=
  (List.finRange 4).find? fun b => (n.buffer.get b).state == .free

/-- The entry that is RECEIVING (R132: at most one is). -/
def NoticeUnit.receiving (n : NoticeUnit) : Option (Fin 4) :=
  (List.finRange 4).find? fun b => (n.buffer.get b).state == .receiving

/-- The answer to a NOTICE phase addressed to the part with right parity (R131). -/
def Part.answerNotice (p : Part) (beats : Nat) : Part :=
  if beats ≠ 4 then p.emit (.answer .fault)
  else match p.notices.freeEntry with
    | some b =>
      (p.modEntry b fun _ => { BufferEntry.empty with state := .receiving }).emit (.answer .ack)
    | none =>
      (p.onStats fun t => { t with refused := satSucc t.refused }).emit (.answer .retry)

/-- A NOTICE phase of another master (R131): it is phase activity (R96), it ends a reception in hand
(R132), and it is answered where it is addressed to the part, the port answers and its parity is right.
The entry it frees is free for it (DESIGN CHOICE, notes/assumptions/42.md). -/
def Part.noticePhase (p : Part) (ad : BusWord) (beats : Nat) (parityRight : Bool) : Part :=
  let p := p.seePhase .notice
  if p.port.state.answers && p.notices.addressed ad && parityRight then p.answerNotice beats else p

/-- INBOUND_NOTICE_PHASE. -/
def execInboundNoticePhase (ad : BusWord) (beats : Nat) (parityRight : Bool) (s : State) :
    Host.Outcome State Fault Refusal :=
  s.andThen fun p => p.noticePhase ad beats parityRight

/-- Beat 0, 1 or 2 taken into a RECEIVING entry (R132). -/
def BufferEntry.takeBeat (e : BufferEntry) (ad : BusWord) (parityRight : Bool) : BufferEntry :=
  let e := { e with bad := e.bad || !parityRight, beats := e.beats + 1 }
  match e.beats with
  | 1 => { e with code := ad.extractLsb' 0 16, source := ad.extractLsb' 16 16 }
  | 2 => { e with payloadLow := ad }
  | _ => { e with payloadHigh := ad }

/-- A beat before beat 3: taken and answered ACK whatever its parity (R132). -/
def Part.noticeBeatTaken (p : Part) (ad : BusWord) (parityRight : Bool) : Part :=
  let p := p.seePhase .data
  match p.notices.receiving with
  | some b =>
    if (p.entry b).beats < 3 ∧ p.port.state.answers then
      (p.modEntry b fun e => e.takeBeat ad parityRight).emit (.answer .ack)
    else p
  | none => p

/-- INBOUND_NOTICE_BEAT; a beat of no reception in hand is only phase activity. -/
def execInboundNoticeBeat (ad : BusWord) (parityRight : Bool) (s : State) :
    Host.Outcome State Fault Refusal :=
  s.andThen fun p => p.noticeBeatTaken ad parityRight

/-- The check word of an entry's beats 0, 1 and 2 (R133). -/
def BufferEntry.checkWord (e : BufferEntry) : BusWord :=
  ~~~((e.source ++ e.code) ^^^ e.payloadLow ^^^ e.payloadHigh)

/-- An enabled filter entry matches a notice (R134). -/
def FilterEntry.matches (f : FilterEntry) (e : BufferEntry) : Bool :=
  f.enabled && (e.source &&& f.sourceMask) == f.sourceValue
    && (e.code &&& f.codeMask) == f.codeValue

/-- The first enabled filter entry that matches (R134). -/
def NoticeUnit.matchFilter (n : NoticeUnit) (e : BufferEntry) : Option (Fin 16) :=
  (List.finRange 16).find? fun f => (n.filters.get f).matches e

/-- The action a notice is given (R134). -/
def NoticeUnit.actionFor (n : NoticeUnit) (e : BufferEntry) : FilterAction :=
  match n.matchFilter e with
  | some f => (n.filters.get f).action
  | none => if n.defaultAccept then .accept else .reject

/-- The filter is applied to a notice received whole (R134, R135). -/
def Part.filterNotice (p : Part) (b : Fin 4) : Part :=
  let n := p.notices
  let e := p.entry b
  match n.actionFor e with
  | .reject =>
    (p.modEntry b fun _ => .empty).onStats fun t => { t with rejected := satSucc t.rejected }
  | .accept =>
    ((p.modEntry b fun e =>
      { e with
        state := .accepted, filter := n.matchFilter e, urgent := false,
        arrival := n.arrival }).onNotices fun u => { u with arrival := u.arrival + 1#32 }).onStats
      fun t => { t with accepted := satSucc t.accepted }
  | .urgent =>
    ((p.modEntry b fun e =>
      { e with
        state := .accepted, filter := n.matchFilter e, urgent := true,
        arrival := n.arrival }).onNotices fun u => { u with arrival := u.arrival + 1#32 }).onStats
      fun t => { t with accepted := satSucc t.accepted, urgent := satSucc t.urgent }

/-- Beat 3 of the notice in hand (R133). -/
def Part.checkTaken (p : Part) (ad : BusWord) (parityRight : Bool) : Part :=
  let p := p.seePhase .data
  match p.notices.receiving with
  | some b =>
    let e := p.entry b
    if e.beats = 3 ∧ p.port.state.answers then
      (if e.bad = false ∧ parityRight = true ∧ ad = e.checkWord then
        (p.emit (.answer .ack)).filterNotice b
      else ((p.emit (.answer .fault)).modEntry b fun _ => .empty).raiseError).react
    else p
  | none => p

/-- INBOUND_CHECK_WORD; a beat of no reception in hand is only phase activity. -/
def execInboundCheckWord (ad : BusWord) (parityRight : Bool) (s : State) :
    Host.Outcome State Fault Refusal :=
  s.andThen fun p => p.checkTaken ad parityRight

/-- NOTICE_RECEIVE_TIMEOUT: a RECEIVING entry becomes FREE without an answer (R132). -/
def execNoticeReceiveTimeout (s : State) : Host.Outcome State Fault Refusal :=
  s.andThen Part.dropReceiving

/-! ### The notice ring (R138 to R143) -/

/-- SET_NOTICE_RING's effect on the context (R138). -/
def NoticeRing.create (base : HostAddr) (size : Nat) (normal urgent : Fin 16) : NoticeRing :=
  { NoticeRing.absent with
    present := true, base := base, size := size, normalVector := normal, urgentVector := urgent }

/-- A posting's effect on the ring: the producer index advances, the phase inverts on the wrap, and an
urgent entry's position is kept (R140). -/
def NoticeRing.posted (n : NoticeRing) (urgent : Bool) : NoticeRing :=
  { n with
    producer := succIndex n.size n.producer
    phase := if succIndex n.size n.producer = 0 then !n.phase else n.phase
    lastUrgent := if urgent then some n.producer else n.lastUrgent }

/-- The signals of a posting (R143): normal where armed; urgent where armed and the entry is urgent; one
message where both go to one vector. -/
def Part.noticeSignals (p : Part) (urgent : Bool) : Part :=
  let n := p.notices.ring
  if p.engine.state.working then
    let urgentFires := urgent && n.urgentArmed
    let p := if n.normalArmed then p.signal n.normalVector else p
    let p := if urgentFires && !(n.normalArmed && n.normalVector == n.urgentVector) then
        p.signal n.urgentVector
      else p
    p.onNotices fun u =>
      { u with
        ring := { u.ring with normalArmed := false, urgentArmed := n.urgentArmed && !urgentFires } }
  else p

/-- A SET_NOTICE_RING that waited for this report takes effect and ends (R138, R152). -/
def Part.finishNoticeRing (p : Part) : Part :=
  match p.admin.state with
  | .waiting (.noticeRing base size normal urgent) =>
    if p.engine.state.alive then
      (p.onNotices fun u =>
        { u with ring := .create base size normal urgent }).endCommand .success 0#32
    else p
  | _ => p

/-- A notice entry write is reported (R140, R141). -/
def Part.noticeWritten (p : Part) (done : Bool) : Part :=
  let p := p.forWrite .notices done
  if p.writeOutstanding .notices then
    let p := p.closeAccess
    match p.notices.write with
    | some w =>
      if done then
        let p := p.onNotices fun u => { u with ring := u.ring.posted w.urgent, write := none }
        let p := match w.buffer with
          | some b => p.modEntry b fun _ => .empty
          | none => p
        ((p.noticeSignals w.urgent).finishNoticeRing).react
      else (p.enterFailed .noticeWrite 14).react
    | none => p
  else p

/-- NOTICE_ENTRY_WRITE_DONE; a report without its notice entry write changes nothing. -/
def execNoticeEntryWriteDone (done : Bool) (s : State) : Host.Outcome State Fault Refusal :=
  s.andThen fun p => p.noticeWritten done

end Sys2Proof.Machine
end

