-- ==== Sys2Proof/Machine/Posting.lean ====
section
/-! DEFINITION. Meanings of COMPLETION_ENTRY_WRITE_DONE (R119, R122, R124, R20) and
ADMIN_COMPLETION_WRITE_DONE (R128, R122, R151). -/

namespace Sys2Proof.Machine

/-- A posting's effect on its completion ring: the producer index advances, the phase inverts on the
wrap, and the reservation is consumed (R119). -/
def CompletionRing.posted (r : CompletionRing) : CompletionRing :=
  { r with
    producer := succIndex r.size r.producer
    phase := if succIndex r.size r.producer = 0 then !r.phase else r.phase
    reserved := r.reserved - 1 }

/-- A posting to an armed ring signals and disarms it (R124). -/
def Part.postingSignal (p : Part) (c : Fin 8) : Part :=
  if (p.cring c).armed then
    (p.signal (p.cring c).vector).modCring c fun r => { r with armed := false }
  else p

/-- A FLUSHED entry of the flush in progress has been written: the flush ends where it was the last one
and the ring has gone ACTIVE (R20, R155). -/
def Part.flushedWritten (p : Part) (c : Completion) : Part :=
  match p.admin.state with
  | .waiting (.flushRing f) =>
    if c.status = .flushed ∧ c.ring = f.ring then
      let f := { f with unwritten := f.unwritten - 1 }
      if f.walked = true ∧ f.unwritten = 0 then p.endCommand .success (BitVec.ofNat 32 f.made)
      else p.waitFor (.flushRing f)
    else p
  | _ => p

/-- A completion entry write is reported (R119, R122). -/
def Part.completionWritten (p : Part) (done : Bool) : Part :=
  let p := p.forWrite .posting done
  if p.writeOutstanding .posting then
    let p := p.closeAccess
    match p.compl.fifo with
    | c :: rest =>
      if done then
        let p := (p.onCompl fun u => { u with fifo := rest }).modCring c.reservation
          CompletionRing.posted
        ((p.postingSignal c.reservation).flushedWritten c).react
      else (p.enterFailed .completionWrite c.reservation.val).react
    | [] => p
  else p

/-- COMPLETION_ENTRY_WRITE_DONE; a report without its posting write changes nothing. -/
def execCompletionEntryWriteDone (done : Bool) (s : State) : Host.Outcome State Fault Refusal :=
  s.andThen fun p => p.completionWritten done

/-- A posting's effect on the admin completion ring of `n` entries (R128). -/
def AdminRing.posted (r : AdminRing) (n : Nat) : AdminRing :=
  { r with
    producer := succIndex n r.producer
    phase := if succIndex n r.producer = 0 then !r.phase else r.phase
    armed := false }

/-- An admin completion write is reported (R128, R151, R122). -/
def Part.adminWritten (p : Part) (done : Bool) : Part :=
  let p := p.forWrite .adminPosting done
  if p.writeOutstanding .adminPosting then
    let p := p.closeAccess
    if done then
      let p := if p.compl.adminRing.armed then p.signal 0 else p
      ((p.onCompl fun u =>
        { u with
          adminRing := u.adminRing.posted p.engine.areaSize
          adminHeld := none }).onAdmin fun a => { a with state := .idle }).react
    else (p.enterFailed .adminCompletionWrite 15).react
  else p

/-- ADMIN_COMPLETION_WRITE_DONE; a report without its admin completion write changes nothing. -/
def execAdminCompletionWriteDone (done : Bool) (s : State) : Host.Outcome State Fault Refusal :=
  s.andThen fun p => p.adminWritten done

end Sys2Proof.Machine
end

