-- ==== Sys2Proof/Machine/Scheduling.lean ====
section
/-! DEFINITION. Meanings of SELECTION (R31, R32, R35), SETTLE_ONLY_SETTLEMENT (R29) and
POSTING_HANDOVER (R41). -/

namespace Sys2Proof.Machine

/-- The operation of a slot's next burst (R52). -/
def Part.burstOperation (p : Part) (k : Fin 8) : Operation :=
  let s := p.slot k
  let b := p.nextBurst s
  { slot := some k
    opcode := (recOpcode s.record).getD .marker
    window := s.window
    bank := b.bank
    page := b.page
    addr := b.addr
    start := b.start
    bytes := b.bytes
    width := b.width
    beats := b.beats
    acked := 0
    phase := none
    elapsed := 0
    limit := 0
    lockHeld := false
    oldValue := none
    ending := .clean }

/-- The burst of slot `k` is handed to the Master (R35, R52): a WRITE asks for its data, any other burst
drives. -/
def Part.handBurst (p : Part) (k : Fin 8) : Part :=
  let o := p.burstOperation k
  let p := p.modSlot k fun s => { s with state := .inBurst }
  if o.opcode = .write then
    (p.onMaster fun _ => { state := .fetching, operation := some o, staging := [] }).ask .master
      (.read (recBuffer (p.slot k).record + BitVec.ofNat 64 o.start) o.bytes)
  else (p.onMaster fun m => { m with staging := [] }).startDriving o

/-- SELECTION's effect (R31, R32). -/
def Part.select (p : Part) : Part :=
  if p.selectable then
    match p.choice with
    | some (k, passed) =>
      let p := match passed with
        | some o => p.modSlot o fun s => { s with passes := s.passes + 1 }
        | none => p
      (p.handBurst k).react
    | none => p
  else p

/-- SELECTION; nothing happens where one of R31's conditions does not hold. -/
def execSelection (s : State) : Host.Outcome State Fault Refusal := s.andThen Part.select

/-- SETTLE_ONLY_SETTLEMENT's effect: the oldest settle-only slot settles, while the engine is RUNNING
(R29, R41). -/
def Part.settleOnly (p : Part) : Part :=
  if p.engine.state = .running then
    match p.settleNext with
    | some k =>
      match p.settleStatus (p.slot k) with
      | some st => (p.settle k st 0#32).react
      | none => p
    | none => p
  else p

/-- SETTLE_ONLY_SETTLEMENT. -/
def execSettleOnlySettlement (s : State) : Host.Outcome State Fault Refusal :=
  s.andThen Part.settleOnly

/-- POSTING_HANDOVER's effect: what waits longest enters the FIFO where it has room (R41, R42, R118). -/
def Part.handNext (p : Part) : Part :=
  if p.engine.state.alive ∧ p.compl.fifo.length < fifoSize then
    match p.sched.waiters with
    | .slot k :: rest =>
      (((p.onSched fun u => { u with waiters := rest }).enterFifo (p.slot k).completion).freeSlot
        k).react
    | .flushed c :: rest =>
      ((p.onSched fun u => { u with waiters := rest }).enterFifo c).react
    | [] => p
  else p

/-- POSTING_HANDOVER. -/
def execPostingHandover (s : State) : Host.Outcome State Fault Refusal := s.andThen Part.handNext

end Sys2Proof.Machine
end

