-- ==== Sys2Proof/Machine/Dispatch.lean ====
section
/-! DEFINITION. The meaning of every command: one arm per constructor of `Instr`. -/

namespace Sys2Proof.Machine

def exec (i : Instr) (s : State) : Host.Outcome State Fault Refusal :=
  match i with
  | .powerOnReset => Sys2Proof.Machine.execPowerOnReset s
  | .functionLevelReset => Sys2Proof.Machine.execFunctionLevelReset s
  | .reset => Sys2Proof.Machine.execReset s
  | .enable => Sys2Proof.Machine.execEnable s
  | .quiesce => Sys2Proof.Machine.execQuiesce s
  | .quiescedReached => Sys2Proof.Machine.execQuiescedReached s
  | .stateWrite value => Sys2Proof.Machine.execStateWrite value s
  | .registerWrite offset bytes value => Sys2Proof.Machine.execRegisterWrite offset bytes value s
  | .submit ring index arm => Sys2Proof.Machine.execSubmit ring index arm s
  | .complete ring index arm => Sys2Proof.Machine.execComplete ring index arm s
  | .notice ring index arm => Sys2Proof.Machine.execNotice ring index arm s
  | .adminSubmit ring index arm => Sys2Proof.Machine.execAdminSubmit ring index arm s
  | .adminComplete ring index arm => Sys2Proof.Machine.execAdminComplete ring index arm s
  | .notifyInvalidKind word => Sys2Proof.Machine.execNotifyInvalidKind word s
  | .hostAccessIssue => Sys2Proof.Machine.execHostAccessIssue s
  | .hostReadTimeout => Sys2Proof.Machine.execHostReadTimeout s
  | .ringChoice => Sys2Proof.Machine.execRingChoice s
  | .submissionReadDone result => Sys2Proof.Machine.execSubmissionReadDone result s
  | .selection => Sys2Proof.Machine.execSelection s
  | .settleOnlySettlement => Sys2Proof.Machine.execSettleOnlySettlement s
  | .postingHandover => Sys2Proof.Machine.execPostingHandover s
  | .writeDataReadDone result => Sys2Proof.Machine.execWriteDataReadDone result s
  | .targetAnswer answer ad parityRight => Sys2Proof.Machine.execTargetAnswer answer ad parityRight s
  | .responseLimitExpiry => Sys2Proof.Machine.execResponseLimitExpiry s
  | .readDataWriteDone done => Sys2Proof.Machine.execReadDataWriteDone done s
  | .openTimerExpiry window bank => Sys2Proof.Machine.execOpenTimerExpiry window bank s
  | .closeOperation => Sys2Proof.Machine.execCloseOperation s
  | .releaseComplete => Sys2Proof.Machine.execReleaseComplete s
  | .gntRise => Sys2Proof.Machine.execGntRise s
  | .gntDrop => Sys2Proof.Machine.execGntDrop s
  | .withdraw => Sys2Proof.Machine.execWithdraw s
  | .linkLoss => Sys2Proof.Machine.execLinkLoss s
  | .backplaneReset => Sys2Proof.Machine.execBackplaneReset s
  | .phaseActivity code => Sys2Proof.Machine.execPhaseActivity code s
  | .joinTimerExpiry => Sys2Proof.Machine.execJoinTimerExpiry s
  | .inboundNoticePhase ad beats parityRight => Sys2Proof.Machine.execInboundNoticePhase ad beats parityRight s
  | .inboundNoticeBeat ad parityRight => Sys2Proof.Machine.execInboundNoticeBeat ad parityRight s
  | .inboundCheckWord ad parityRight => Sys2Proof.Machine.execInboundCheckWord ad parityRight s
  | .noticeReceiveTimeout => Sys2Proof.Machine.execNoticeReceiveTimeout s
  | .noticeEntryWriteDone done => Sys2Proof.Machine.execNoticeEntryWriteDone done s
  | .completionEntryWriteDone done => Sys2Proof.Machine.execCompletionEntryWriteDone done s
  | .adminCompletionWriteDone done => Sys2Proof.Machine.execAdminCompletionWriteDone done s
  | .adminCommandReadFailed => Sys2Proof.Machine.execAdminCommandReadFailed s
  | .unknownCommand record => Sys2Proof.Machine.execUnknownCommand record s
  | .createCring record => Sys2Proof.Machine.execCreateCring record s
  | .deleteCring record => Sys2Proof.Machine.execDeleteCring record s
  | .createSring record => Sys2Proof.Machine.execCreateSring record s
  | .deleteSring record => Sys2Proof.Machine.execDeleteSring record s
  | .sringDeletionEnd => Sys2Proof.Machine.execSringDeletionEnd s
  | .haltSring record => Sys2Proof.Machine.execHaltSring record s
  | .resumeSring record => Sys2Proof.Machine.execResumeSring record s
  | .flushSring record => Sys2Proof.Machine.execFlushSring record s
  | .flushWalk => Sys2Proof.Machine.execFlushWalk s
  | .setWindow record => Sys2Proof.Machine.execSetWindow record s
  | .clearWindow record => Sys2Proof.Machine.execClearWindow record s
  | .endOfDraining => Sys2Proof.Machine.execEndOfDraining s
  | .reopenWindow record => Sys2Proof.Machine.execReopenWindow record s
  | .setNode record => Sys2Proof.Machine.execSetNode record s
  | .setNoticeRing record => Sys2Proof.Machine.execSetNoticeRing record s
  | .setFilter record => Sys2Proof.Machine.execSetFilter record s
  | .attach record => Sys2Proof.Machine.execAttach record s
  | .detach record => Sys2Proof.Machine.execDetach record s
  | .query record => Sys2Proof.Machine.execQuery record s
  | .queryReportWriteDone done => Sys2Proof.Machine.execQueryReportWriteDone done s
  | .vectorUnmask scope => Sys2Proof.Machine.execVectorUnmask scope s
  | .clockReturn => Sys2Proof.Machine.execClockReturn s
  | .rstReleased => Sys2Proof.Machine.execRstReleased s
  | .wdrDeasserted => Sys2Proof.Machine.execWdrDeasserted s
  | .vectorMasked scope => Sys2Proof.Machine.execVectorMasked scope s

end Sys2Proof.Machine
end

