-- ==== Sys2Proof/Machine/Time.lean ====
section
/-! DEFINITION. What the part does while no command waits. The spec gives no row to the passing of time,
and some of its rows are the part's own steps, taken "at the first moment" their conditions hold; with
an empty queue the first of these that is due is taken, and where none is due 1 µs passes
(DESIGN CHOICE, notes/assumptions/12.md). -/

namespace Sys2Proof.Machine

/-- The part's own steps, in the order in which the model takes them when several are due
(DESIGN CHOICE, notes/assumptions/12.md). -/
def ownSteps : List (Part → Part) :=
  [ Part.settleOnly, Part.handNext, Part.flushWalk, Part.finishDeletion, Part.finishDraining,
    Part.reachQuiesced, Part.select, Part.startClose, Part.completeRelease, Part.choose, Part.issue ]

/-- The join timer counts down in JOINING and runs out at 0 (R96). -/
def Part.tickJoin (p : Part) : Part :=
  if p.port.state = .joining then
    if p.port.joinTimer ≤ 1 then p.finishJoin
    else p.onPort fun x => { x with joinTimer := x.joinTimer - 1 }
  else p

/-- The open timer of a bank counts down while it runs and expires at 0 (R83, R88). -/
def Bank.tick (b : Bank) : Bank :=
  if b.state = .opened ∧ 0 < b.timer then
    if b.timer = 1 then b.expire else { b with timer := b.timer - 1 }
  else b

/-- Every open timer counts down (R88). -/
def Part.tickBanks (p : Part) : Part :=
  p.onWindows fun t => tabMap t fun w => { w with banks := w.banks.map Bank.tick }

/-- The time the waiting phase has waited grows, up to its response limit (R48, R64). -/
def Part.tickResponse (p : Part) : Part :=
  match p.waitingPhase with
  | some (o, _) =>
    if o.limit ≤ o.elapsed + 1 then p.expireResponse
    else p.modOperation fun o => { o with elapsed := o.elapsed + 1 }
  | none => p

/-- The time since the address phase of a RECEIVING entry grows, up to the receive limit (R132). -/
def Part.tickReceive (p : Part) : Part :=
  match p.notices.receiving with
  | some b =>
    if receiveLimit ≤ (p.entry b).elapsed + 1 then p.dropReceiving
    else p.modEntry b fun e => { e with elapsed := e.elapsed + 1 }
  | none => p

/-- The outstanding access is a read that has waited for its data up to the limit (R169). -/
def Outstanding.late (o : Outstanding) : Bool :=
  match o.access with
  | .read _ _ => decide (hostReadLimit ≤ o.elapsed + 1)
  | .write _ _ => false

/-- The time since the issue of the outstanding access grows; a read fails at 16 ms (R169). -/
def Part.tickRead (p : Part) : Part :=
  match p.host.outstanding with
  | some o =>
    if o.late then p.readTimesOut
    else p.onHost fun h =>
      { h with outstanding := h.outstanding.map fun o => { o with elapsed := o.elapsed + 1 } }
  | none => p

/-- 1 µs passes. Timers that run out together are taken in this order (notes/assumptions/12.md). -/
def Part.tick (p : Part) : Part := p.tickJoin.tickBanks.tickResponse.tickReceive.tickRead

/-- With no command waiting: the first own step that is due, else 1 µs. -/
def Part.idle (p : Part) : Part :=
  match ownSteps.find? fun f => f p != p with
  | some f => f p
  | none => p.tick

end Sys2Proof.Machine
end

