-- ==== Sys2Proof/Safety.lean ====
section
/-! DEFINITION. What counts as a lawful state of the part, in the terms the claims use, and which blocks
a command may change. Each law gathers what numbered rules say holds at all times; that every step keeps
it is a claim, not a definition. -/

namespace Sys2Proof.Machine

/-! ### Frames -/

/-- The twelve blocks of the part's state. -/
inductive Region
  | engine | host | admin | fetch | sched | windows | master | port | notices | compl | stats | out
  deriving DecidableEq, Repr

/-- Two states of the part agree on a block. -/
def Region.same (r : Region) (p q : Part) : Prop :=
  match r with
  | .engine => q.engine = p.engine
  | .host => q.host = p.host
  | .admin => q.admin = p.admin
  | .fetch => q.fetch = p.fetch
  | .sched => q.sched = p.sched
  | .windows => q.windows = p.windows
  | .master => q.master = p.master
  | .port => q.port = p.port
  | .notices => q.notices = p.notices
  | .compl => q.compl = p.compl
  | .stats => q.stats = p.stats
  | .out => q.out = p.out

/-- The queue and every block but those listed are unchanged from `s` to `t`. -/
def OnlyChanges (l : List Region) (s t : State) : Prop :=
  t.pending = s.pending ∧ ∀ r : Region, r ∉ l → r.same s.part t.part

/-! ### Laws -/

/-- Nothing that follows at the same event is still to be done: the port has made its moves, LVL is
driven, and every access that is due has been asked for (the "at the same event" of R93, R97, R98, R101,
R103, R20, R121, R128, R139 and R148). -/
structure Settled (p : Part) : Prop where
  port : p.movePort = p
  level : p.driveLevel = p
  flush : p.captureFlush = p
  posting : p.askPosting = p
  adminPosting : p.askAdminPosting = p
  notice : p.askNotice = p
  command : p.askCommand = p

/-- The engine's cause and ring id are the ones the table of R165 gives together. -/
def fatalPair (c : FatalCause) (ringId : Nat) : Prop :=
  match c with
  | .none | .badAdmin => ringId = 0
  | .submissionRead | .completionWrite => ringId < 8
  | .adminRead | .adminCompletionWrite => ringId = 15
  | .noticeWrite => ringId = 14

/-- What STATE can hold in each engine state (R165, R172, R174), and the admin area taken at ENABLE
(R166). -/
structure EngineLaw (p : Part) : Prop where
  pair : fatalPair p.engine.cause p.engine.ringId
  off : p.engine.state = .off → p.engine.cause = .none ∨ p.engine.cause = .badAdmin
  alive : p.engine.state.alive = true → p.engine.cause = .none
  failed : p.engine.state = .failed → p.engine.cause ≠ .none ∧ p.engine.cause ≠ .badAdmin
  area : p.engine.state.alive = true →
    isPowerOfTwo 8 256 p.engine.areaSize = true ∧ pageAligned p.engine.areaBase = true

/-- The port's own law: REQ and LVL (R93), the error count's range (R107), the tenure flag, the join
timer and the detach mark (05, "Port state"). -/
structure PortLaw (p : Part) : Prop where
  errors : p.port.errorCount ≤ 16
  level : p.port.req = false → p.port.lvl = 3
  raised : p.port.req = true →
    p.port.state = .requesting ∨ p.port.state = .owner ∨ p.port.state = .yielding
      ∨ p.port.state = .releasing
  raises : p.port.state = .requesting ∨ p.port.state = .owner ∨ p.port.state = .yielding →
    p.port.req = true
  tenure : p.port.tenure = p.port.state.owns
  join : p.port.joinTimer ≤ 32 ∧ (p.port.joinTimer = 0 ↔ p.port.state ≠ .joining)
  mark : p.port.mark ≠ .none → p.port.state = .yielding ∨ p.port.state = .releasing

/-- The part drives the backplane only as its owner: a burst in OWNER or YIELDING, a close also in
RELEASING before REQ drops (R31, R46, R68), and a bank is OPEN only while the part owns the backplane
and has not yet dropped REQ (R83, R90, R104). -/
structure OwnershipLaw (p : Part) : Prop where
  raises : p.port.state = .requesting ∨ p.port.state = .owner ∨ p.port.state = .yielding →
    p.port.req = true
  busy : p.master.state ≠ .idle → p.master.operation.isSome = true
  burst : p.master.state = .fetching ∨ p.master.state = .driving →
    p.port.state = .owner ∨ p.port.state = .yielding
  closing : p.master.state = .closing →
    p.port.state = .owner ∨ p.port.state = .yielding
      ∨ (p.port.state = .releasing ∧ p.port.req = true)
  banks : p.anyBankOpen = true →
    p.port.state = .owner ∨ p.port.state = .yielding
      ∨ (p.port.state = .releasing ∧ p.port.req = true)

/-- While the engine is OFF, QUIESCED or FAILED no host-memory access is outstanding or waiting (R170,
R173), and the Master's operation is one that needs none (R56, R55, R89). -/
structure QuietLaw (p : Part) : Prop where
  channel : p.engine.state.working = false →
    p.host.outstanding = none ∧ p.host.abandoned = [] ∧ ∀ s : Source, p.request s = none
  held : p.engine.state = .off ∨ p.engine.state = .quiesced →
    p.master.state = .idle ∨ p.master.state = .closing
  failed : p.engine.state = .failed → p.master.state ≠ .fetching ∧ p.master.state ≠ .delivering
  closing : p.master.state = .closing → ∃ o, p.master.operation = some o ∧ o.slot = none
  delivering : p.master.state = .delivering →
    ∃ o k, p.master.operation = some o ∧ o.slot = some k

/-- At most one notice buffer entry is RECEIVING, and only while the port is IDLE or REQUESTING
(R131, R132). -/
structure NoticeLaw (p : Part) : Prop where
  one : ∀ a b : Fin 4, (p.entry a).state = .receiving → (p.entry b).state = .receiving → a = b
  port : ∀ a : Fin 4, (p.entry a).state = .receiving → p.port.state.answers = true

/-- The ranges the spec states for counts that only ever step: the posting FIFO (R118), each window's
consecutive-timeout count (R76) and each slot's pass count (R32). -/
structure CountLaw (p : Part) : Prop where
  fifo : p.compl.fifo.length ≤ 8
  timeouts : ∀ w : Fin 16, (p.window w).timeouts ≤ 15
  passes : ∀ k : Fin 8, (p.slot k).passes ≤ 4

/-- The reservations of completion ring `c` that something holds: slots in use, completions awaiting
posting, the record in the admission register, the fetch in flight, and a flush whose waiting request has
been granted (R115, R116, R119). -/
def Part.holders (p : Part) (c : Fin 8) : Nat :=
  ((List.finRange 8).countP fun k => (p.slot k).reservation == some c)
    + (p.compl.fifo.countP fun x => x.reservation == c)
    + (p.sched.waiters.countP fun w => match w with
        | .flushed x => x.reservation == c
        | .slot _ => false)
    + (p.fetch.admission.toList.countP fun a => a.reservation == c)
    + (p.fetch.flight.toList.countP fun f => f.reservation == c)
    + (match p.admin.state with
        | .waiting (.flushRing f) =>
          if f.granted && !f.walked && (p.ring f.ring).bound == c then 1 else 0
        | _ => 0)

/-- What is held for a record of ring `r` with a reservation in `c` belongs to a ring that exists and is
bound to `c` (R7, R118). -/
def Part.bindsTo (p : Part) (r c : Fin 8) : Prop :=
  (p.ring r).state ≠ .absent ∧ (p.ring r).bound = c

/-- F of a ring that may fetch, now or after it is resumed or flushed: within the span limit, and at a
position NOT_ADMITTED unless at its end (R4, R5). -/
def SubmissionRing.fetchLaw (r : SubmissionRing) : Prop :=
  r.fetchIndex < r.size ∧ r.spanOffset r.fetchIndex ≤ r.spanLimit
    ∧ (r.spanOffset r.fetchIndex < r.spanLimit → r.spanMark r.fetchIndex = .notAdmitted)

/-- The counts of the queue and the tables they count (R4, R22, R75, R115): the held count of a ring is
the number of its slots in use that have not settled and the number of its HELD positions, a window's
in-flight count is the number of slots mapped to it, and the reserved and the unconsumed entries of a
completion ring never exceed its size less one; with what keeps them so, and the DEFERRED flags that must
be clear (R28). -/
structure QueueLaw (p : Part) : Prop where
  held : ∀ r : Fin 8, (p.ring r).heldCount =
    (List.finRange 8).countP fun k => (p.slot k).counted && (p.slot k).ring == r
  marks : ∀ r : Fin 8, (p.ring r).heldCount = (p.ring r).span.count .held
  inFlight : ∀ w : Fin 16, (p.window w).inFlight =
    (List.finRange 8).countP fun k => (p.slot k).window == some w
  entries : ∀ c : Fin 8, (p.cring c).present = true →
    (p.cring c).reserved + (p.cring c).outstanding ≤ (p.cring c).size - 1
  /-- an ABSENT ring holds R2's values; any other has a legal size (R1, R154) -/
  rings : ∀ r : Fin 8, p.ring r = .absent ∨ ((p.ring r).state ≠ .absent
    ∧ isPowerOfTwo 16 4096 (p.ring r).size = true ∧ (p.ring r).consumer < (p.ring r).size)
  /-- the table has 64 places, and those from the span limit on are NOT_ADMITTED (R4) -/
  span : ∀ r : Fin 8, (p.ring r).span.length = 64
    ∧ ∀ i, (p.ring r).spanLimit ≤ i → (p.ring r).span.getD i .notAdmitted = .notAdmitted
  /-- a slot that has not settled has its own HELD position within the span (R4, R22) -/
  positions : ∀ k : Fin 8, (p.slot k).counted = true →
    (p.slot k).index < (p.ring (p.slot k).ring).size
    ∧ (p.ring (p.slot k).ring).spanOffset (p.slot k).index < (p.ring (p.slot k).ring).spanLimit
    ∧ (p.ring (p.slot k).ring).spanMark (p.slot k).index = .held
    ∧ ∀ j : Fin 8, j ≠ k → (p.slot j).counted = true → (p.slot j).ring = (p.slot k).ring →
      (p.slot j).index ≠ (p.slot k).index
  fetch : ∀ r : Fin 8, (p.ring r).state = .active ∨ (p.ring r).state = .halted →
    (p.ring r).fetchLaw
  free : ∀ k : Fin 8, (p.slot k).state = .free → p.slot k = .empty
  /-- DEFERRED is clear where the slot's window has been considered and found fenced, and in a burst (R28,
  R30) -/
  deferred : ∀ k : Fin 8, p.foundFenced (p.slot k) = true ∨ (p.slot k).state = .inBurst →
    (p.slot k).deferred = false
  active : ∀ k : Fin 8, (p.slot k).state = .held → (p.ring (p.slot k).ring).state = .active
  settled : ∀ k : Fin 8, (p.slot k).state = .posting → (p.slot k).window = none
  reserved : ∀ k : Fin 8, (p.slot k).state ≠ .free → ∃ c, (p.slot k).reservation = some c
    ∧ p.bindsTo (p.slot k).ring c
  /-- POSTING slots, and no others, wait for the FIFO, each once (R41) -/
  waiters : ∀ k : Fin 8, p.sched.waiters.count (.slot k) =
    if (p.slot k).state = .posting then 1 else 0
  fifo : ∀ x ∈ p.compl.fifo, p.bindsTo x.ring x.reservation
  flushed : ∀ x, Waiter.flushed x ∈ p.sched.waiters → p.bindsTo x.ring x.reservation
  /-- the slot of the Backplane Master's operation is IN_BURST (R35) -/
  burst : ∀ o k, p.master.operation = some o → o.slot = some k → (p.slot k).state = .inBurst
  /-- a record is fetched and waits at its ring's F (R8) -/
  flight : ∀ f, p.fetch.flight = some f → p.bindsTo f.ring f.reservation
    ∧ (f.discard = false → (p.ring f.ring).state = .active
      ∧ f.index = (p.ring f.ring).fetchIndex
      ∧ (p.ring f.ring).spanOffset f.index < (p.ring f.ring).spanLimit)
  admission : ∀ a, p.fetch.admission = some a → p.bindsTo a.ring a.reservation
    ∧ (p.ring a.ring).state = .active ∧ a.index = (p.ring a.ring).fetchIndex
    ∧ (p.ring a.ring).spanOffset a.index < (p.ring a.ring).spanLimit
  oneFetch : p.fetch.flight = none ∨ p.fetch.admission = none
  /-- a flush that has not walked to its end has a HALTED ring, with nothing held once its end is known
  (R20) -/
  flush : ∀ f, p.admin.state = .waiting (.flushRing f) → f.walked = false →
    (p.ring f.ring).state = .halted ∧ (f.stop.isSome = true → (p.ring f.ring).heldCount = 0)
  unused : ∀ w : Fin 16, (p.window w).state = .unused → (p.window w).inFlight = 0
  /-- an ABSENT completion ring has nothing reserved; a PRESENT one has a legal size and its indices
  within it (R112, R113, R153) -/
  absent : ∀ c : Fin 8, (p.cring c).present = false → (p.cring c).reserved = 0
  present : ∀ c : Fin 8, (p.cring c).present = true → 16 ≤ (p.cring c).size
    ∧ (p.cring c).producer < (p.cring c).size ∧ (p.cring c).consumer < (p.cring c).size
  holders : ∀ c : Fin 8, p.holders c ≤ (p.cring c).reserved

/-! ### Terms of the claims -/

/-- A vector's message is held back: messages are disabled or the vector is masked (R171). -/
def Part.heldBack (p : Part) (v : Fin 16) : Bool :=
  !p.host.messagesEnabled || p.host.vectorMasked.get v

/-- The signals `l` have been sent, in order: one message each, or the vector's pending flag where it is
held back (R171). -/
def Signalled (s t : State) (l : List (Fin 16)) : Prop :=
  t.part.out = s.part.out ++ (l.filter fun v => !s.part.heldBack v).map Output.message
  ∧ ∀ v, t.part.host.vectorPending.get v =
      (s.part.host.vectorPending.get v || (l.contains v && s.part.heldBack v))

/-- The signals of an ARM on the notice ring, whose last urgent position is `n`'s (R144): the normal one
where an entry is unconsumed, the urgent one where an urgent entry is, one where both go to one vector. -/
def NoticeRing.armSignals (n : NoticeRing) : List (Fin 16) :=
  (if n.producer ≠ n.consumer then [n.normalVector] else [])
    ++ (if n.urgentIn n.consumer n.producer = true
          ∧ ¬(n.producer ≠ n.consumer ∧ n.normalVector = n.urgentVector)
        then [n.urgentVector] else [])

/-- The signals of the arm pending tests at ENABLE: the completion rings in id order, the admin
completion ring, the notice ring (R125, R144; the order is the model's, notes/assumptions/10.md). -/
def Part.resumeSignals (p : Part) : List (Fin 16) :=
  (((List.finRange 8).filter fun c =>
      (p.cring c).armPending && (p.cring c).producer != (p.cring c).consumer).map fun c =>
        (p.cring c).vector)
    ++ (if p.compl.adminRing.armPending = true
          ∧ p.compl.adminRing.producer ≠ p.compl.adminRing.consumer then [0] else [])
    ++ (if p.notices.ring.armPending then p.notices.ring.armSignals else [])

/-- The record `rec` fetched at `index` of `ring` has entered slot `k` (R10, R12, R22, R26, R75): the slot
takes its fields, decided at this moment, the youngest place in the age order and the next admission
sequence number; the position is HELD, the held count rises and F moves on. -/
structure Placed (s t : State) (a : Admission) (k : Fin 8) : Prop where
  slot : t.part.slot k =
    { state := .held, ring := a.ring, index := a.index, sequence := s.part.sched.sequence
      cls := s.part.effectiveClass a.ring a.record, record := a.record
      window := match s.part.mapping a.record with | .window w => some w | _ => none
      preSettled := match s.part.mapping a.record with | .status st => some st | _ => none
      progress := 0, retries := 0, passes := 0, deferred := false
      reservation := some a.reservation, chain := s.part.chainAtAdmission a.ring a.index
      finalStatus := none, result := 0#32 }
  others : ∀ j, j ≠ k → t.part.slot j = s.part.slot j
  age : t.part.sched.age =
    (if (s.part.slot k).state = .free then s.part.sched.age else s.part.sched.age.erase k) ++ [k]
  sequence : t.part.sched.sequence = s.part.sched.sequence + 1#32
  ring : { t.part.ring a.ring with evictionBar := false } = { SubmissionRing.skipFetch
    { (s.part.ring a.ring).setSpan a.index .held with
      heldCount := (s.part.ring a.ring).heldCount + 1
      fetchIndex := succIndex (s.part.ring a.ring).size (s.part.ring a.ring).fetchIndex }
    with evictionBar := false }
  stats : t.part.stats.admitted = satSucc s.part.stats.admitted
  register : t.part.fetch.admission = none

/-- Slot `v` has been evicted for the record `rec`, which takes it (R13, R75): the victim's reservation is
released, its window has one slot fewer in flight, its ring takes the position back, and the eviction is
counted. Where a flush waits, the entry released may be granted to it at this event (R115). -/
structure Evicted (s t : State) (v : Fin 8) (rec : Block) : Prop where
  windows : ∀ w, t.part.window w = { s.part.window w with
    inFlight := (s.part.window w).inFlight
      - (if (s.part.slot v).window = some w then 1 else 0)
      + (if s.part.mapping rec = .window w then 1 else 0) }
  reserved : (∀ f, s.part.admin.state ≠ .waiting (.flushRing f)) → ∀ c,
    (t.part.cring c).reserved = (s.part.cring c).reserved
      - (if (s.part.slot v).reservation = some c then 1 else 0)
  held : (t.part.ring (s.part.slot v).ring).heldCount =
    (s.part.ring (s.part.slot v).ring).heldCount - 1
  span : (t.part.ring (s.part.slot v).ring).span =
    ((s.part.ring (s.part.slot v).ring).setSpan (s.part.slot v).index .notAdmitted).span
  counted : t.part.stats.evictions = satSucc s.part.stats.evictions

/-- The Master drives a burst of slot `k` and its phase `ph` waits for an answer. -/
def Driving (p : Part) (o : Operation) (k : Fin 8) (ph : Phase) : Prop :=
  p.master.state = .driving ∧ p.master.operation = some o ∧ o.slot = some k ∧ o.phase = some ph

/-- The part after `s` in which the Master has gone on to phase `ph` of operation `o`, driven with `ad`
and a beat count on PH (R46). -/
def drives (p : Part) (o : Operation) (ph : Phase) (ad : BusWord) (count : Nat) : Part :=
  { p with
    master := { p.master with operation := some { o with phase := some ph, elapsed := 0 } }
    out := p.out ++ [.phase ph.code ad count] }

/-- A settlement with this status neither halts the ring nor sets its halted-at (R17). -/
def SubmissionRing.unhaltedBy (r : SubmissionRing) (st : Status) : Prop :=
  st.isError = false ∨ (r.state ≠ .halted ∧ (r.state = .active → r.policy = .continue))

/-- Slot `k` has settled (R40, R41): its completion has entered the posting FIFO and the slot is FREE, or
it waits in POSTING behind what was made before it; under QUIET and SUCCESS it is FREE without a
completion. Its position is DONE, its window has one slot fewer in flight, and the slot of the next
record of a chain group that waits for it takes its outcome: SUCCESS after SUCCESS and FAILED after any
other status (R26), unless the halt that an error brings returns it (R17). -/
structure SlotEnds (s t : State) (k : Fin 8) (st : Status) (bytes retries : Nat)
    (result : BitVec 32) : Prop where
  quiet : recQuiet (s.part.slot k).record = true ∧ st = .success →
    t.part.slot k = .empty ∧ t.part.compl.fifo = s.part.compl.fifo
      ∧ t.part.sched.waiters = s.part.sched.waiters
  posted : ¬(recQuiet (s.part.slot k).record = true ∧ st = .success) → s.part.fifoOpen = true →
    t.part.slot k = .empty ∧ t.part.sched.waiters = s.part.sched.waiters
      ∧ t.part.compl.fifo = s.part.compl.fifo ++
        [{ tag := recTag (s.part.slot k).record, ring := (s.part.slot k).ring,
           index := (s.part.slot k).index, status := st, bytesDone := bytes, retries := retries,
           result := result, reservation := (s.part.slot k).reservation.getD 0 }]
  waits : ¬(recQuiet (s.part.slot k).record = true ∧ st = .success) → s.part.fifoOpen = false →
    (t.part.slot k).state = .posting ∧ (t.part.slot k).finalStatus = some st
      ∧ (t.part.slot k).result = result ∧ t.part.compl.fifo = s.part.compl.fifo
      ∧ t.part.sched.waiters = s.part.sched.waiters ++ [.slot k]
  ring : (s.part.ring (s.part.slot k).ring).unhaltedBy st →
    { t.part.ring (s.part.slot k).ring with evictionBar := false } =
      { (s.part.ring (s.part.slot k).ring).settleAt (s.part.slot k).index
          (linkOf (s.part.slot k).record st) with evictionBar := false }
  window : ∀ w, (s.part.slot k).window = some w → (s.part.ring (s.part.slot k).ring).unhaltedBy st →
    (t.part.window w).inFlight = (s.part.window w).inFlight - 1
  chain : ∀ j, j ≠ k → recChain (s.part.slot k).record = true → (s.part.slot j).counted = true →
    (s.part.slot j).ring = (s.part.slot k).ring →
    (s.part.slot j).index =
      succIndex (s.part.ring (s.part.slot k).ring).size (s.part.slot k).index →
    (s.part.slot j).chain = .waiting →
    st.isError = false ∨ (s.part.ring (s.part.slot k).ring).policy = .continue
      ∨ (s.part.ring (s.part.slot k).ring).state ≠ .active ∨ (s.part.slot j).state ≠ .held →
    (t.part.slot j).chain = if st = .success then .success else .failed

/-- The Dispatch Queue reads the slot's window as fenced (R28): FENCED, or DRAINING after a fence. -/
def ReadsFenced (p : Part) (x : Slot) : Prop :=
  ∃ w, x.window = some w ∧ ((p.window w).state = .fenced
    ∨ ((p.window w).state = .draining ∧ (p.window w).drain = .fenced))

/-- The first four conditions of R27: the state, the ring's order, the record's own order, the chain
outcome. -/
structure OrderMet (p : Part) (x : Slot) : Prop where
  state : x.state = .held ∨ x.state = .started
  ring : (p.ring x.ring).order = .ordered → x.index = (p.ring x.ring).consumer
  record : recFence x.record = true ∨ recOpcode x.record = some .marker →
    x.index = (p.ring x.ring).consumer
  chain : x.chain ≠ .waiting

/-- The chain outcome `c` that the link mark of a DONE predecessor gives (R26). -/
def LinkGives (m : LinkMark) (c : ChainOutcome) : Prop :=
  (m = .ok → c = .success) ∧ (m = .broken → c = .failed) ∧ (m = .none → c = .notMember)

/-- The index after slot `k`'s in its ring: its successor in a chain group (R45). -/
def Part.successor (p : Part) (k : Fin 8) : Nat :=
  succIndex (p.ring (p.slot k).ring).size (p.slot k).index

/-- A chain hold begins where slot `k` settles SUCCESS (R45): its record has CHAIN set, a tenure is on, the
engine is RUNNING, and the successor's fetch is in flight or its record stands in the admission
register. -/
def Part.successorComes (p : Part) (k : Fin 8) : Prop :=
  recChain (p.slot k).record = true ∧ p.port.tenure = true ∧ p.engine.state = .running
  ∧ ((∃ f, p.fetch.flight = some f ∧ f.ring = (p.slot k).ring ∧ f.index = p.successor k)
    ∨ ∃ a, p.fetch.admission = some a ∧ a.ring = (p.slot k).ring ∧ a.index = p.successor k)

/-- The record of slot `k`, which has settled SUCCESS, hands on to its successor (R26, R45): a slot that
holds it and waits takes the outcome SUCCESS, a chain hold begins where the successor is on its way, and
otherwise the hold is as it was. -/
structure ChainGoesOn (s t : State) (k : Fin 8) : Prop where
  member : ∀ j, j ≠ k → recChain (s.part.slot k).record = true → (s.part.slot j).counted = true →
    (s.part.slot j).ring = (s.part.slot k).ring → (s.part.slot j).index = s.part.successor k →
    (s.part.slot j).chain = .waiting → (t.part.slot j).chain = .success
  begins : s.part.successorComes k →
    t.part.port.chainHold = some ((s.part.slot k).ring, s.part.successor k)
  otherwise : ¬s.part.successorComes k → t.part.port.chainHold = s.part.port.chainHold

/-- An admin command fetch is outstanding and its report will be taken (R149). -/
def Arrives (p : Part) : Prop :=
  p.engine.state.working = true ∧ p.admin.state = .fetching ∧ p.readOutstanding .administration = true

/-- The command of record `rec`, at the admin consumer index, has ended with one admin completion
(R151). -/
structure CommandEnds (s t : State) (rec : Block) (st : Status) (result : BitVec 32) : Prop where
  unit : t.part.admin.state = .completing
  index : t.part.admin.consumer = succIndex s.part.engine.areaSize s.part.admin.consumer
  command : t.part.admin.command = none
  completion : t.part.compl.adminHeld =
    some { tag := cmdTag rec, index := s.part.admin.consumer, status := st, result := result }
  access : t.part.host.outstanding = none

/-- The burst of slot `k`, operation `o`, reports at command `c` (R36 to R38): its backplane part has
ended with `e` and carries `n` acknowledged bytes. A READ with acknowledged beats reports after its
delivery (R55), in FAILED at once (R23). -/
def Reports (p : Part) (o : Operation) (k : Fin 8) (c : Instr) (e : OperationEnd) (n : Nat) : Prop :=
  ((∃ ad, c = .targetAnswer .ack ad true) ∧ e = .clean
    ∧ ((Driving p o k .writeBeat ∧ (o.opcode = .write ∨ o.opcode = .noticeSend)
          ∧ o.beats = o.acked + 1 ∧ n = o.beats * o.width)
      ∨ (Driving p o k .endLock ∧ o.opcode = .compareSwap ∧ n = o.acked * o.width)))
  ∨ ((∃ ad, c = .targetAnswer .retry ad true) ∧ e = .retry
    ∧ Driving p o k o.opcode.addressPhase ∧ o.acked = 0 ∧ n = 0)
  ∨ ((((∃ ad, c = .targetAnswer .fault ad true) ∧ e = .fault ∧ ∃ ph, Driving p o k ph)
      ∨ ((∃ ad, c = .targetAnswer .retry ad true) ∧ e = .protocolFault
        ∧ ∃ ph, Driving p o k ph ∧ (ph = .readBeat ∨ ph = .writeBeat ∨ ph = .openPage
          ∨ ph = .closePage ∨ ph = .endLock))
      ∨ ((∃ a ad, c = .targetAnswer a ad false) ∧ e = .protocolFault ∧ ∃ ph, Driving p o k ph)
      ∨ (c = .responseLimitExpiry ∧ e = .timeout ∧ ∃ ph, Driving p o k ph))
    ∧ (o.opcode ≠ .read ∨ o.acked = 0 ∨ p.engine.state = .failed) ∧ n = o.acked * o.width)
  ∨ (c = .readDataWriteDone true ∧ p.writeOutstanding .master = true ∧ p.master.state = .delivering
    ∧ p.master.operation = some o ∧ o.slot = some k ∧ e = o.ending ∧ n = o.acked * o.width)
  ∨ (((c = .writeDataReadDone none ∨ c = .hostReadTimeout) ∧ p.readOutstanding .master = true
        ∧ p.staleOutstanding = false
      ∨ c = .writeDataReadDone none ∧ p.isNext .master true = true ∧ p.host.abandoned = [])
    ∧ p.master.state = .fetching
    ∧ p.master.operation = some o ∧ o.slot = some k ∧ e = .hostReadError ∧ n = 0)

/-- A report that ends with `e` and carries `n` bytes settles slot `k` (R23, R36 to R38). -/
def ReportSettles (p : Part) (o : Operation) (k : Fin 8) (e : OperationEnd) (n : Nat) : Prop :=
  p.engine.state ≠ .failed
  ∧ ((e = .clean ∧ (o.opcode = .compareSwap ∨ o.opcode = .noticeSend
        ∨ (p.slot k).progress + n = recLength (p.slot k).record))
    ∨ (e = .retry ∧ (p.ring (p.slot k).ring).retryLimit ≤ (p.slot k).retries)
    ∨ (e ≠ .clean ∧ e ≠ .retry))

/-- The bank of a reported burst to window `w`, where it is OPEN, is to be closed (R87): CLOSE policy, and
the report settles the slot, or the slot has bytes remaining and its next burst falls in another bank or
page. A HOST_READ_ERROR report, whose burst drove no phase, is not looked at. -/
def GivesBackPage (p : Part) (o : Operation) (k : Fin 8) (e : OperationEnd) (n : Nat) (w : Fin 16) :
    Prop :=
  e ≠ .hostReadError ∧ (p.window w).kind = .paged ∧ (p.window w).policy = .close
  ∧ (ReportSettles p o k e n
    ∨ ((p.slot k).progress + n ≠ recLength (p.slot k).record
      ∧ ((p.nextBurst { p.slot k with progress := (p.slot k).progress + n }).bank ≠ o.bank
        ∨ (p.nextBurst { p.slot k with progress := (p.slot k).progress + n }).page ≠ o.page)))

/-- ABORT is driven with an end at command `c`: for a timeout and a protocol fault, and for a FAULT
inside a held lock (R59, R64, R65). -/
def abortsWith (o : Operation) (c : Instr) (e : OperationEnd) : Bool :=
  match c with
  | .readDataWriteDone _ => false
  | _ => e == .timeout || e == .protocolFault || (e == .fault && o.lockHeld)

/-- Slot `k` settles at command `c` with the error status `st` (R17, R29, R37 to R40, R55, R66): as a
settle-only slot, by a failing report of its burst, by a RETRY beyond its ring's limit, by a delivery
that fails, or because ownership ends abruptly while its burst is driven. -/
def ErrorSettles (p : Part) (c : Instr) (k : Fin 8) (st : Status) : Prop :=
  st.isError = true ∧ p.engine.state ≠ .failed
  ∧ ((c = .settleOnlySettlement ∧ p.engine.state = .running ∧ k ∈ p.sched.age
      ∧ p.settleStatus (p.slot k) = some st
      ∧ ∀ j ∈ p.sched.age, (p.settleStatus (p.slot j)).isSome = true →
        p.sched.age.idxOf k ≤ p.sched.age.idxOf j)
    ∨ (∃ o e n, Reports p o k c e n ∧ e ≠ .clean ∧ e ≠ .retry ∧ st = e.failure)
    ∨ (∃ o n, Reports p o k c .retry n ∧ st = .targetBusy
      ∧ (p.ring (p.slot k).ring).retryLimit ≤ (p.slot k).retries)
    ∨ (∃ o, c = .readDataWriteDone false ∧ p.writeFailable .master = true
      ∧ p.master.state = .delivering ∧ p.master.operation = some o ∧ o.slot = some k
      ∧ st = .hostWriteError)
    ∨ ((∃ o ph, Driving p o k ph ∧ (o.opcode ≠ .read ∨ o.acked = 0))
      ∧ ((c = .gntDrop ∧ st = .busError ∧ p.port.gnt = true ∧ p.port.tenure = true
          ∧ (p.port.state ≠ .releasing ∨ p.port.req = true))
        ∨ (c = .linkLoss ∧ st = .linkLost ∧ p.port.state ≠ .detached ∧ p.port.clockPresent = true)
        ∨ (c = .backplaneReset ∧ st = .linkLost ∧ p.port.state ≠ .detached
          ∧ p.port.rst = false))))

/-- Ownership has ended without a release (R91, R105, R109): every bank is UNKNOWN, the tenure's flags
are clear, and the Master's operation has ended as R66 and R56 say, a delivery going on. -/
structure OwnershipCut (s t : State) (e : OperationEnd) : Prop where
  banks : ∀ w, (t.part.window w).banks = (s.part.window w).banks.map fun _ => Bank.unknown
  deferred : ∀ k, (t.part.slot k).deferred = false
  flags : t.part.port.tenure = false ∧ t.part.port.chainHold = none
  fetching : ∀ o k, s.part.master.state = .fetching → s.part.master.operation = some o →
    o.slot = some k →
    t.part.master = Master.reset ∧ t.part.request .master = none
      ∧ t.part.host.abandoned = s.part.host.abandoned ++ (s.part.request .master).toList
      ∧ t.part.slot k = { s.part.slot k with state := .started, deferred := false }
      ∧ (∀ x, s.part.host.outstanding = some x → x.source = .master →
          t.part.host.outstanding = some { x with stale := true })
  driving : ∀ o k, s.part.master.state = .driving → s.part.master.operation = some o →
    o.slot = some k → o.opcode ≠ .read ∨ o.acked = 0 → s.part.engine.state ≠ .failed →
    (s.part.slot k).preSettled = none →
    t.part.master = Master.reset
      ∧ SlotEnds s t k e.failure ((s.part.slot k).progress + o.acked * o.width)
          (s.part.slot k).retries (o.oldValue.getD 0#32)
  delivers : ∀ o k, s.part.master.state = .driving → s.part.master.operation = some o →
    o.slot = some k → o.opcode = .read → 0 < o.acked → s.part.engine.state ≠ .failed →
    t.part.master.state = .delivering
      ∧ t.part.master.operation = some { o with phase := none, ending := e }
  closing : ∀ o, s.part.master.state = .closing → s.part.master.operation = some o → o.slot = none →
    t.part.master = Master.reset
  others : s.part.master.state = .idle ∨ s.part.master.state = .delivering →
    t.part.master = s.part.master
  quiet : t.part.out = s.part.out

/-- The HELD slots `l` of ring `r` have been returned (R16, R43): FREE without a completion and counted as
returns, their windows' in-flight counts and their reservations down by them; a record of the ring in the
admission register is discarded with its reservation released, and a fetch in flight from it is marked for
discard. Every other slot, ring, window and completion ring is as it was, but that a slot that goes FREE
clears every eviction bar. -/
structure ReturnsHeld (s t : State) (r : Fin 8) (l : List (Fin 8)) : Prop where
  slots : ∀ k ∈ l, t.part.slot k = .empty
  others : ∀ k, k ∉ l → t.part.slot k = s.part.slot k
  age : t.part.sched.age = l.foldl List.erase s.part.sched.age
  sequence : t.part.sched.sequence = s.part.sched.sequence
    ∧ t.part.sched.waiters = s.part.sched.waiters
  windows : ∀ w, t.part.window w = { s.part.window w with
    inFlight := (s.part.window w).inFlight - l.countP fun k => (s.part.slot k).window == some w }
  reserved : ∀ c, t.part.cring c = { s.part.cring c with
    reserved := (s.part.cring c).reserved
      - (l.countP fun k => (s.part.slot k).reservation == some c)
      - (s.part.fetch.admission.toList.countP fun a => a.ring == r && a.reservation == c) }
  elsewhere : ∀ q, q ≠ r → t.part.ring q = { s.part.ring q with
    evictionBar := (s.part.ring q).evictionBar && l.isEmpty }
  stats : t.part.stats = { s.part.stats with returns := satSucc^[l.length] s.part.stats.returns }
  admission : t.part.fetch.admission = s.part.fetch.admission.filter fun a => a.ring != r
  flight : t.part.fetch.flight =
    s.part.fetch.flight.map fun f => { f with discard := f.discard || f.ring == r }

/-- The positions of the returned slots `l` are NOT_ADMITTED, every other position of ring `r` is as it was,
and the held count has fallen by them (R16, R43). -/
structure PositionsReturned (s t : State) (r : Fin 8) (l : List (Fin 8)) : Prop where
  returned : ∀ k ∈ l, (t.part.ring r).spanMark (s.part.slot k).index = .notAdmitted
  others : ∀ i, (∀ k ∈ l, (s.part.ring r).spanOffset i
      ≠ (s.part.ring r).spanOffset (s.part.slot k).index) →
    (t.part.ring r).spanMark i = (s.part.ring r).spanMark i
  held : (t.part.ring r).heldCount = (s.part.ring r).heldCount - l.length
  producer : (t.part.ring r).producer = (s.part.ring r).producer
  consumer : (t.part.ring r).consumer = (s.part.ring r).consumer

/-- The flush `f` of ring `x` has come to its end, or goes on from where its F now stands (R20, R25): at the
end every span position is NOT_ADMITTED, the ring is ACTIVE and halted-at none, and the command ends where
no FLUSHED entry is unwritten, and waits for them where some are. -/
structure WalkGoesOn (s t : State) (f : Flush) (x : SubmissionRing) (stop : Nat) : Prop where
  together : (t.part.ring f.ring).fetchIndex = (t.part.ring f.ring).consumer
  ended : (t.part.ring f.ring).consumer = stop →
    (t.part.ring f.ring).state = .active ∧ (t.part.ring f.ring).haltedAt = none
      ∧ (t.part.ring f.ring).span = List.replicate 64 .notAdmitted
      ∧ (t.part.ring f.ring).links = List.replicate 64 .none
  completes : (t.part.ring f.ring).consumer = stop → f.unwritten = 0 →
    t.part.admin.state = .completing ∧ t.part.admin.command = none
      ∧ t.part.admin.consumer = succIndex s.part.engine.areaSize s.part.admin.consumer
      ∧ t.part.compl.adminHeld = some
          { tag := s.part.admin.tag, index := s.part.admin.consumer, status := .success,
            result := BitVec.ofNat 32 f.made }
  waits : (t.part.ring f.ring).consumer = stop → f.unwritten ≠ 0 →
    t.part.admin = { s.part.admin with state := .waiting (.flushRing { f with walked := true }) }
  goesOn : (t.part.ring f.ring).consumer ≠ stop →
    t.part.admin = { s.part.admin with state := .waiting (.flushRing f) }
      ∧ (t.part.ring f.ring).state = x.state ∧ (t.part.ring f.ring).haltedAt = x.haltedAt

/-- A DETACHED local event with this cause is pending, or its entry, or that of an ATTACHED event before
it, has been asked for (R136, R139). -/
def DetachTold (s t : State) (cause : DetachCause) : Prop :=
  t.part.notices.detached = some cause
    ∨ (s.part.notices.write = none ∧ t.part.notices.write = some { buffer := none, urgent := false }
      ∧ t.part.notices.detached = none)

/-- A DETACH that waited has completed with the cause as its result (R106, R161). -/
def DetachEnds (s t : State) (cause : DetachCause) : Prop :=
  s.part.admin.state = .waiting .detach →
    t.part.admin.state = .completing ∧ t.part.admin.command = none
      ∧ t.part.admin.consumer = succIndex s.part.engine.areaSize s.part.admin.consumer
      ∧ t.part.compl.adminHeld = some
          { tag := s.part.admin.tag, index := s.part.admin.consumer, status := .success,
            result := BitVec.ofNat 32 cause.code }

/-- A protocol fault has brought the port error count to 16 (R108): an owning port takes the mark
ERROR_LIMIT, its chain hold ends and, the Master being IDLE, it is RELEASING; a port that has lost its
ownership since goes to DETACHED at once. -/
structure LeavesAtLimit (s t : State) : Prop where
  owning : s.part.port.state = .owner ∨ s.part.port.state = .yielding
      ∨ s.part.port.state = .releasing →
    t.part.port.state = .releasing ∧ t.part.port.mark = .errorLimit ∧ t.part.port.chainHold = none
  waiting : s.part.port.state = .idle ∨ s.part.port.state = .requesting →
    t.part.port.state = .detached ∧ t.part.port.req = false ∧ t.part.port.lvl = 3
      ∧ t.part.port.mark = .none
  told : s.part.port.state = .idle ∨ s.part.port.state = .requesting →
    s.part.engine.state.alive = true → DetachTold s t .errorLimit ∧ DetachEnds s t .errorLimit
  away : s.part.port.state = .detached ∨ s.part.port.state = .joining →
    t.part.port.state = s.part.port.state ∧ t.part.port.mark = s.part.port.mark

end Sys2Proof.Machine
end

