-- ==== Sys2Proof/WellFormed.lean ====
section
/-! DEFINITION. Which commands are well formed: a command's operands are ones that the event it names
can carry. `exec` gives every command a meaning, well formed or not. -/

namespace Sys2Proof

/-- A command is well formed when its operands fit its row: a register write without behaviour of its
own is not one that another row names (R164); an invalid NOTIFY kind is 5 to 7 (R179); an admin
command record carries the code of its row (R178). Every other row's operands are bounded by their
types. -/
def Instr.wellFormed : Instr → Bool
  | .registerWrite offset bytes value => (registerCommand offset bytes value).isNone
  | .notifyInvalidKind word => decide (5 ≤ (word.extractLsb' 16 3).toNat)
  | .unknownCommand record => byteAt record 0 == 0x00#8 || decide (0x10 < (byteAt record 0).toNat)
  | .createCring record => byteAt record 0 == 0x01#8
  | .deleteCring record => byteAt record 0 == 0x02#8
  | .createSring record => byteAt record 0 == 0x03#8
  | .deleteSring record => byteAt record 0 == 0x04#8
  | .haltSring record => byteAt record 0 == 0x05#8
  | .resumeSring record => byteAt record 0 == 0x06#8
  | .flushSring record => byteAt record 0 == 0x07#8
  | .setWindow record => byteAt record 0 == 0x08#8
  | .clearWindow record => byteAt record 0 == 0x09#8
  | .reopenWindow record => byteAt record 0 == 0x0A#8
  | .setFilter record => byteAt record 0 == 0x0B#8
  | .setNoticeRing record => byteAt record 0 == 0x0C#8
  | .setNode record => byteAt record 0 == 0x0D#8
  | .attach record => byteAt record 0 == 0x0E#8
  | .detach record => byteAt record 0 == 0x0F#8
  | .query record => byteAt record 0 == 0x10#8
  | .powerOnReset | .functionLevelReset | .reset | .enable | .quiesce | .quiescedReached
  | .stateWrite _ | .submit _ _ _ | .complete _ _ _ | .notice _ _ _ | .adminSubmit _ _ _
  | .adminComplete _ _ _ | .hostAccessIssue | .hostReadTimeout | .ringChoice
  | .submissionReadDone _ | .selection | .settleOnlySettlement | .postingHandover
  | .writeDataReadDone _ | .targetAnswer _ _ _ | .responseLimitExpiry | .readDataWriteDone _
  | .openTimerExpiry _ _ | .closeOperation | .releaseComplete | .gntRise | .gntDrop | .withdraw
  | .linkLoss | .backplaneReset | .phaseActivity _ | .joinTimerExpiry
  | .inboundNoticePhase _ _ _ | .inboundNoticeBeat _ _
  | .inboundCheckWord _ _ | .noticeReceiveTimeout | .noticeEntryWriteDone _
  | .completionEntryWriteDone _ | .adminCompletionWriteDone _ | .adminCommandReadFailed
  | .sringDeletionEnd | .flushWalk | .endOfDraining | .queryReportWriteDone _ | .vectorUnmask _
  | .clockReturn | .rstReleased | .wdrDeasserted | .vectorMasked _ => true

end Sys2Proof
end

