-- ==== Sys2Proof/Certificates/Slice0/Obligations.lean ====
section
/-! DEFINITION. The statements for the provers. Each docstring names the rules of spec/ a statement
formalises, and the log entry of any clause that is the model's choice. `exec c s = .next t` says that
the command completes. -/

open Sys2Proof Sys2Proof.Machine

/-! ### The step and the laws -/

/-- A step runs the command at the front of the queue with the queue's rest; with no command waiting the
part idles (the model's choice, notes/assumptions/12.md). -/
def Obligations.StepRunsTheFrontCommand : Prop :=
  (∀ (c : Instr) (rest : List Instr) (s : State), s.pending = c :: rest →
    step s = exec c { s with pending := rest })
  ∧ ∀ s : State, s.pending = [] → step s = .next { s with part := s.part.idle }

/-- The state after power-on reset meets every law. -/
def Obligations.ResetMeetsTheLaws : Prop :=
  Settled State.reset.part ∧ EngineLaw State.reset.part ∧ PortLaw State.reset.part
    ∧ OwnershipLaw State.reset.part ∧ QuietLaw State.reset.part ∧ NoticeLaw State.reset.part
    ∧ CountLaw State.reset.part ∧ QueueLaw State.reset.part

/-- Every step leaves a settled state: what the rules place at the same event is done within the step
(R93, R97, R98, R101, R103, R20, R121, R128, R139, R148). Which effects belong to one step, and that the
port waits where a settlement that is due would fill the set, are the model's choice
(notes/assumptions/5.md and 8.md). -/
def Obligations.EveryStepSettles : Prop :=
  ∀ s t : State, Settled s.part → step s = .next t → Settled t.part

/-- Every step keeps the pairs of fatal cause and ring id of R165's table and what each engine state
allows of them (R165, R172, R174), and a legal admin area while the engine is enabled (R166). -/
def Obligations.EveryStepKeepsTheEngineLaw : Prop :=
  ∀ s t : State, EngineLaw s.part → step s = .next t → EngineLaw t.part

/-- Every step keeps the port's law: the error count is at most 16, REQ is raised exactly where the port
states say, LVL is 3 while REQ is low, the tenure flag stands exactly while the part owns the backplane,
and the join timer runs exactly in JOINING (R92, R93, R95, R96, R99, R104, R107). In a settled state with
the engine RUNNING and REQ raised, LVL is the most urgent class, the least number, among the bus-eligible
slots where there is one (R34, R93). -/
def Obligations.EveryStepKeepsThePortLaw : Prop :=
  (∀ s t : State, PortLaw s.part → step s = .next t → PortLaw t.part)
  ∧ ∀ p : Part, Settled p → p.engine.state = .running → p.port.req = true →
    (∀ k ∈ p.sched.age, p.busEligible (p.slot k) = true → p.port.lvl ≤ (p.slot k).cls)
    ∧ ((∃ k ∈ p.sched.age, p.busEligible (p.slot k) = true) →
      ∃ k ∈ p.sched.age, p.busEligible (p.slot k) = true ∧ p.port.lvl = (p.slot k).cls)

/-- Every step keeps the law of ownership: the Master fetches and drives a burst only in OWNER or
YIELDING, closes banks only while REQ is raised, and a bank is OPEN only while the part owns the
backplane (R31, R46, R83, R90, R91, R100). -/
def Obligations.EveryStepKeepsTheOwnershipLaw : Prop :=
  ∀ s t : State, OwnershipLaw s.part → step s = .next t → OwnershipLaw t.part

/-- Every step keeps the host channel silent while the engine is OFF, QUIESCED or FAILED (R170, R173). -/
def Obligations.EveryStepKeepsTheChannelQuiet : Prop :=
  ∀ s t : State, QuietLaw s.part → step s = .next t → QuietLaw t.part

/-- Every step keeps at most one RECEIVING notice buffer entry, and only in IDLE and REQUESTING (R131,
R132), and the ranges of the posting FIFO, the consecutive-timeout counts and the pass counts (R118, R76,
R32). Every step keeps the counts of the queue: a ring's held count is the number of its HELD positions
and of its unsettled slots, a window's in-flight count the number of its slots, and the reserved and
unconsumed entries of a completion ring stay within its size less one (R4, R22, R75, R115); and no slot
whose window has been considered and found fenced is DEFERRED (R28). -/
def Obligations.EveryStepKeepsTheCounts : Prop :=
  (∀ s t : State, NoticeLaw s.part → step s = .next t → NoticeLaw t.part)
  ∧ (∀ s t : State, CountLaw s.part → step s = .next t → CountLaw t.part)
  ∧ ∀ s t : State, QueueLaw s.part → step s = .next t → QueueLaw t.part

/-! ### Resets -/

/-- After power-on reset every block holds the values its chapter gives; after either function reset it
holds the same, but for clock present, the lines the backplane drives and the function's interrupt
configuration, and ABORT has been driven if the Master was DRIVING or CLOSING (R175, R2, R23, R51, R71,
R92, R112, R127, R129, R137, R146, R163, R165, R166, R169, R171). What a function reset keeps beside
clock present, and the power-on values of the lines, the masks, the taken area and the completion in
preparation, are the model's choice (notes/assumptions/2.md, 3.md, 14.md and 36.md). -/
def Obligations.ResetsRestoreEveryBlock : Prop :=
  (∀ s : State, exec .powerOnReset s = .next { s with part := Part.reset })
  ∧ ∀ s : State, exec .functionLevelReset s = exec .reset s
    ∧ ∃ t, exec .reset s = .next t ∧ t.pending = s.pending
      ∧ t.part.engine = Engine.reset ∧ t.part.admin = AdminUnit.reset
      ∧ t.part.fetch = FetchUnit.reset ∧ t.part.sched = Scheduler.reset
      ∧ (∀ w, t.part.window w = .unused) ∧ t.part.master = Master.reset
      ∧ t.part.notices = NoticeUnit.reset ∧ t.part.compl = CompletionUnit.reset
      ∧ t.part.stats = Stats.zero
      ∧ t.part.port = { Port.reset with
          clockPresent := s.part.port.clockPresent, gnt := s.part.port.gnt, wdr := s.part.port.wdr,
          rst := s.part.port.rst }
      ∧ t.part.host = { HostPort.reset with
          vectorMasked := s.part.host.vectorMasked
          messagesEnabled := s.part.host.messagesEnabled }
      ∧ t.part.host.outstanding = none ∧ (∀ q, t.part.request q = none)
      ∧ (∀ v : Fin 16, t.part.host.vectorPending.get v = false)
      ∧ t.part.host.lastServed = .notices
      ∧ t.part.out = s.part.out ++
          (if s.part.master.state = .driving ∨ s.part.master.state = .closing
            then [.phase .abort 0#32 0] else [])

/-! ### Engine Control -/

/-- ENABLE from OFF with legal admin registers takes the admin area and goes RUNNING; with illegal ones
the engine stays OFF with cause BAD_ADMIN and no block changes. In RUNNING, QUIESCING and FAILED it is
ignored (R172, R166, R146, R127, R174). -/
def Obligations.EnableFromOff : Prop :=
  (∀ s : State, s.part.engine.state = .running ∨ s.part.engine.state = .quiescing
      ∨ s.part.engine.state = .failed → exec .enable s = .next s)
  ∧ ∀ s : State, s.part.engine.state = .off →
    (isPowerOfTwo 8 256 s.part.engine.adminSize.toNat = true →
      (s.part.engine.adminBaseLo.extractLsb' 0 12 = 0#12) →
      ∃ t, exec .enable s = .next t
        ∧ t.part.engine = { s.part.engine with
            state := .running, cause := .none, ringId := 0,
            areaBase := s.part.engine.adminBaseHi ++ s.part.engine.adminBaseLo,
            areaSize := s.part.engine.adminSize.toNat }
        ∧ t.part.admin = AdminUnit.reset ∧ t.part.compl.adminRing = AdminRing.reset
        ∧ OnlyChanges [.engine, .admin, .compl, .host, .port, .notices] s t)
    ∧ (¬(isPowerOfTwo 8 256 s.part.engine.adminSize.toNat = true
          ∧ s.part.engine.adminBaseLo.extractLsb' 0 12 = 0#12) →
      exec .enable s = .next { s with part := { s.part with
        engine := { s.part.engine with cause := .badAdmin, ringId := 0 } } })

/-- ENABLE from QUIESCED sets the engine RUNNING, places a record waiting in the admission register into
a FREE slot or a victim's, or discards it with its ring's bar set, and clears and tests every arm pending
flag: the ring signals at once if entries are unconsumed and becomes armed otherwise, and so do the two
signals of the notice ring (R172, R9, R10, R12, R13, R14, R125, R127, R144). The order of the signals and
the lowest-numbered FREE slot are the model's choice (notes/assumptions/7.md, 10.md and 24.md). -/
def Obligations.EnableFromQuiescedResumes : Prop :=
  ∀ s : State, s.part.engine.state = .quiesced →
    ∃ t, exec .enable s = .next t
      ∧ t.part.engine = { s.part.engine with state := .running }
      ∧ t.part.fetch.admission = none
      ∧ (s.part.fetch.admission = none → t.part.fetch = s.part.fetch ∧ t.part.sched = s.part.sched
        ∧ t.part.windows = s.part.windows ∧ t.part.stats = s.part.stats)
      ∧ (∀ (a : Admission) (k : Fin 8), s.part.fetch.admission = some a →
        (s.part.slot k).state = .free → (∀ j, j < k → (s.part.slot j).state ≠ .free) →
        Placed s t a k)
      ∧ (∀ (a : Admission) (v : Fin 8), s.part.fetch.admission = some a →
        (∀ j, (s.part.slot j).state ≠ .free) → s.part.victim a.ring = some v →
        s.part.effectiveClass a.ring a.record < (s.part.slot v).cls →
        Placed s t a v ∧ Evicted s t v a.record)
      ∧ (∀ a : Admission, s.part.fetch.admission = some a →
        (∀ j, (s.part.slot j).state ≠ .free) →
        (∀ v, s.part.victim a.ring = some v →
          (s.part.slot v).cls ≤ s.part.effectiveClass a.ring a.record) →
        t.part.sched = s.part.sched
        ∧ t.part.ring a.ring = { s.part.ring a.ring with evictionBar := true }
        ∧ (∀ q, q ≠ a.ring → t.part.ring q = s.part.ring q)
        ∧ t.part.windows = s.part.windows ∧ t.part.stats = s.part.stats
        ∧ ((∀ f, s.part.admin.state ≠ .waiting (.flushRing f)) →
          ∀ c, (t.part.cring c).reserved =
            (s.part.cring c).reserved - if c = a.reservation then 1 else 0))
      ∧ Signalled s t s.part.resumeSignals
      ∧ (∀ c : Fin 8, (t.part.cring c).armPending = false
        ∧ (t.part.cring c).armed =
            (if (s.part.cring c).armPending
              then decide ((s.part.cring c).producer = (s.part.cring c).consumer)
              else (s.part.cring c).armed)
        ∧ (t.part.cring c).producer = (s.part.cring c).producer
        ∧ (t.part.cring c).consumer = (s.part.cring c).consumer)
      ∧ t.part.compl.adminRing.armPending = false
      ∧ t.part.compl.adminRing.armed =
          (if s.part.compl.adminRing.armPending
            then decide (s.part.compl.adminRing.producer = s.part.compl.adminRing.consumer)
            else s.part.compl.adminRing.armed)
      ∧ t.part.notices.ring.armPending = false
      ∧ t.part.notices.ring.normalArmed =
          (if s.part.notices.ring.armPending
            then decide (s.part.notices.ring.producer = s.part.notices.ring.consumer)
            else s.part.notices.ring.normalArmed)
      ∧ t.part.notices.ring.urgentArmed =
          (if s.part.notices.ring.armPending
            then !s.part.notices.ring.urgentIn s.part.notices.ring.consumer
              s.part.notices.ring.producer
            else s.part.notices.ring.urgentArmed)
      ∧ t.part.compl.fifo = s.part.compl.fifo ∧ t.part.master = s.part.master
      ∧ t.pending = s.pending

/-- QUIESCE in RUNNING makes the engine QUIESCING, a REQUESTING port IDLE with REQ low, an OWNER port
with an IDLE Master RELEASING, and ends a chain hold; where R173's condition already holds the engine
passes to QUIESCED at that event; in every other state it is ignored. QUIESCED_REACHED takes the engine
from QUIESCING to QUIESCED when the condition holds and does nothing otherwise (R173, R110, R45). -/
def Obligations.QuiesceStopsThePart : Prop :=
  (∀ s : State, s.part.engine.state ≠ .running → exec .quiesce s = .next s)
  ∧ (∀ s : State, Settled s.part → s.part.engine.state = .running →
    ∃ t, exec .quiesce s = .next t
      ∧ t.part.engine = { s.part.engine with
          state := if s.part.quiescent then .quiesced else .quiescing }
      ∧ t.part.port.chainHold = none
      ∧ (s.part.port.state = .requesting →
          t.part.port.state = .idle ∧ t.part.port.req = false ∧ t.part.port.lvl = 3)
      ∧ (s.part.port.state = .owner → s.part.master.state = .idle → t.part.port.state = .releasing)
      ∧ (s.part.port.state = .owner → s.part.master.state ≠ .idle → t.part.port.state = .owner)
      ∧ OnlyChanges [.engine, .port] s t)
  ∧ ∀ s : State,
    (s.part.engine.state = .quiescing → s.part.host.outstanding = none →
      (∀ q, s.part.request q = none) → s.part.host.abandoned = [] →
      s.part.master.state = .idle ∨ s.part.master.state = .closing →
      s.part.compl.fifo = [] → (∀ k, (s.part.slot k).state ≠ .posting) →
      s.part.admin.state ≠ .fetching → s.part.admin.state ≠ .writing →
      ¬(s.part.admin.state = .completing ∧ s.part.compl.adminHeld.isSome = true) →
      exec .quiescedReached s = .next { s with part := { s.part with
        engine := { s.part.engine with state := .quiesced } } })
    ∧ (s.part.engine.state ≠ .quiescing ∨ s.part.host.outstanding.isSome = true
        ∨ (∃ q, (s.part.request q).isSome = true) ∨ s.part.host.abandoned ≠ []
        ∨ s.part.master.state = .fetching
        ∨ s.part.master.state = .driving ∨ s.part.master.state = .delivering
        ∨ s.part.compl.fifo ≠ [] ∨ (∃ k, (s.part.slot k).state = .posting)
        ∨ s.part.admin.state = .fetching ∨ s.part.admin.state = .writing
        ∨ (s.part.admin.state = .completing ∧ s.part.compl.adminHeld.isSome = true) →
      exec .quiescedReached s = .next s)

/-- A write to STATE clears NOTIFY_DROPPED when bit 31 is 1 and does nothing else; the admin registers
take a written value only in OFF; every other register write without a row of its own, of any size,
alignment or offset, is ignored (R164, R165, R166, R179). -/
def Obligations.RegisterWrites : Prop :=
  (∀ (v : BitVec 32) (s : State), exec (.stateWrite v) s = .next { s with part := { s.part with
    engine := { s.part.engine with
      notifyDropped := s.part.engine.notifyDropped && !v.getLsbD 31 } } })
  ∧ (∀ (v : BitVec 32) (s : State), s.part.engine.state = .off →
    exec (.registerWrite 0x010#12 4 v) s = .next { s with part := { s.part with
      engine := { s.part.engine with adminBaseLo := v } } }
    ∧ exec (.registerWrite 0x014#12 4 v) s = .next { s with part := { s.part with
      engine := { s.part.engine with adminBaseHi := v } } }
    ∧ exec (.registerWrite 0x018#12 4 v) s = .next { s with part := { s.part with
      engine := { s.part.engine with adminSize := v } } })
  ∧ ∀ (o : BitVec 12) (n : Nat) (v : BitVec 32) (s : State),
    (Instr.registerWrite o n v).wellFormed = true →
    n ≠ 4 ∨ s.part.engine.state ≠ .off ∨ (o ≠ 0x010#12 ∧ o ≠ 0x014#12 ∧ o ≠ 0x018#12) →
    exec (.registerWrite o n v) s = .next s

/-! ### NOTIFY -/

/-- A SUBMIT that is not dropped sets the named ring's P to the index carried and changes nothing else,
in every ring state but ABSENT and whatever the old P was (R3, R167). -/
def Obligations.SubmitMovesTheProducerIndex : Prop :=
  ∀ (s : State) (ring : BitVec 4) (r : Fin 8) (index : BitVec 12) (arm : Bool),
    Settled s.part → s.part.engine.state.alive = true → ring.toNat = r.val →
    (s.part.ring r).state ≠ .absent → index.toNat < (s.part.ring r).size →
    exec (.submit ring index arm) s =
      .next { s with part := s.part.modRing r fun x => { x with producer := index.toNat } }

/-- A COMPLETE that is not dropped sets the completion ring's host consumer index, and where the free
entries rise from 0 while a flush waits for one, the flush is granted it at that event. Without ARM
nothing else changes: a ring that has become a candidate is chosen by a step of its own (the model's
choice, notes/assumptions/5.md). With ARM in RUNNING the ring signals at once, and is left not armed, if
an entry is unconsumed, and becomes armed otherwise; with ARM in QUIESCING or QUIESCED only arm pending
is set (R20, R115, R117, R123, R125, R167). -/
def Obligations.CompleteConsumesAndArms : Prop :=
  ∀ (s : State) (ring : BitVec 4) (c : Fin 8) (index : BitVec 12) (granted : Nat) (p : Part),
    Settled s.part → s.part.engine.state.alive = true → ring.toNat = c.val →
    (s.part.cring c).present = true → index.toNat < (s.part.cring c).size →
    inSpan (s.part.cring c).size (s.part.cring c).consumer (s.part.cring c).producer index.toNat
      = true →
    (((s.part.flushAsks c = none ∨ 0 < (s.part.cring c).freeEntries
          ∨ (s.part.cring c).size - 1 ≤ (s.part.cring c).reserved
            + distance (s.part.cring c).size index.toNat (s.part.cring c).producer)
        ∧ granted = 0 ∧ p = s.part)
      ∨ (∃ f, s.part.flushAsks c = some f ∧ (s.part.cring c).freeEntries = 0
        ∧ (s.part.cring c).reserved
            + distance (s.part.cring c).size index.toNat (s.part.cring c).producer
          < (s.part.cring c).size - 1
        ∧ granted = 1 ∧ p = { s.part with admin := { s.part.admin with
            state := .waiting (.flushRing { f with granted := true }) } })) →
    exec (.complete ring index false) s =
      .next { s with part := p.modCring c fun x =>
        { x with consumer := index.toNat, reserved := x.reserved + granted } }
    ∧ (s.part.engine.state = .running → (s.part.cring c).producer = index.toNat →
      exec (.complete ring index true) s = .next { s with
        part := p.modCring c fun x =>
          { x with consumer := index.toNat, reserved := x.reserved + granted, armed := true } })
    ∧ (s.part.engine.state = .running → (s.part.cring c).producer ≠ index.toNat →
      exec (.complete ring index true) s = .next { s with
        part := (p.modCring c fun x =>
          { x with consumer := index.toNat, reserved := x.reserved + granted,
                   armed := false }).signal (s.part.cring c).vector })
    ∧ (s.part.engine.state ≠ .running →
      exec (.complete ring index true) s = .next { s with
        part := p.modCring c fun x =>
          { x with consumer := index.toNat, reserved := x.reserved + granted,
                   armPending := true } })

/-- A NOTICE that is not dropped sets the notice ring's host consumer index, forgets a last urgent
position it passes, and with ARM in RUNNING sends each of the two signals that fires and leaves the
other armed: the normal one fires where an entry is unconsumed, the urgent one where an unconsumed entry
is the last urgent one, with one message where both go to one vector (R144, R167). That one message, and
the normal one before the urgent one, are the model's choice (notes/assumptions/24.md). -/
def Obligations.NoticeConsumesAndArms : Prop :=
  ∀ (s : State) (ring : BitVec 4) (index : BitVec 12) (arm : Bool),
    Settled s.part → s.part.engine.state.alive = true → s.part.notices.ring.present = true →
    index.toNat < s.part.notices.ring.size →
    inSpan s.part.notices.ring.size s.part.notices.ring.consumer s.part.notices.ring.producer
      index.toNat = true →
    ∃ t, exec (.notice ring index arm) s = .next t
      ∧ t.part.notices.ring.consumer = index.toNat
      ∧ t.part.notices.ring.producer = s.part.notices.ring.producer
      ∧ t.part.notices.ring.lastUrgent =
          (if s.part.notices.ring.urgentIn s.part.notices.ring.consumer index.toNat then none
            else s.part.notices.ring.lastUrgent)
      ∧ (arm = false → t.part.notices.ring.normalArmed = s.part.notices.ring.normalArmed
        ∧ t.part.notices.ring.urgentArmed = s.part.notices.ring.urgentArmed
        ∧ t.part.notices.ring.armPending = s.part.notices.ring.armPending
        ∧ t.part.out = s.part.out ∧ t.part.host.vectorPending = s.part.host.vectorPending)
      ∧ (arm = true → s.part.engine.state = .running →
        t.part.notices.ring.normalArmed = decide (s.part.notices.ring.producer = index.toNat)
        ∧ t.part.notices.ring.urgentArmed =
            !t.part.notices.ring.urgentIn index.toNat s.part.notices.ring.producer
        ∧ t.part.notices.ring.armPending = s.part.notices.ring.armPending
        ∧ Signalled s t
            ((if s.part.notices.ring.producer ≠ index.toNat
                then [s.part.notices.ring.normalVector] else [])
              ++ (if t.part.notices.ring.urgentIn index.toNat s.part.notices.ring.producer = true
                  ∧ ¬(s.part.notices.ring.producer ≠ index.toNat
                    ∧ s.part.notices.ring.normalVector = s.part.notices.ring.urgentVector)
                then [s.part.notices.ring.urgentVector] else [])))
      ∧ (arm = true → s.part.engine.state ≠ .running →
        t.part.notices.ring.armPending = true
        ∧ t.part.notices.ring.normalArmed = s.part.notices.ring.normalArmed
        ∧ t.part.notices.ring.urgentArmed = s.part.notices.ring.urgentArmed
        ∧ t.part.out = s.part.out ∧ t.part.host.vectorPending = s.part.host.vectorPending)
      ∧ OnlyChanges [.host, .notices, .out] s t

/-- An ADMIN_SUBMIT that is not dropped sets the admin producer index, with no regard to the old one; an
ADMIN_COMPLETE that is not dropped sets the admin completion ring's host consumer index, and its ARM in
RUNNING signals on vector 0 at once where an entry is unconsumed and arms the ring otherwise. At either,
in RUNNING with the unit IDLE, a command waiting and an admin completion entry free after it, the command
read is asked for at that event (R147, R148, R127, R167, R171). -/
def Obligations.AdminNotifiesMoveIndicesAndFetch : Prop :=
  (∀ (s : State) (ring : BitVec 4) (index : BitVec 12) (arm : Bool),
    Settled s.part → s.part.engine.state.alive = true → index.toNat < s.part.engine.areaSize →
    ∃ t, exec (.adminSubmit ring index arm) s = .next t
      ∧ t.part.admin.producer = index.toNat ∧ t.part.admin.consumer = s.part.admin.consumer
      ∧ OnlyChanges [.admin, .host] s t
      ∧ (s.part.engine.state = .running → s.part.admin.state = .idle →
          index.toNat ≠ s.part.admin.consumer → 1 ≤ s.part.adminFree →
          t.part.admin.state = .fetching
          ∧ t.part.request .administration = some (.read
              (s.part.engine.areaBase + BitVec.ofNat 64 (64 * s.part.admin.consumer)) 64))
      ∧ (s.part.engine.state ≠ .running ∨ s.part.admin.state ≠ .idle
          ∨ index.toNat = s.part.admin.consumer ∨ s.part.adminFree = 0 →
          t.part.admin.state = s.part.admin.state ∧ t.part.host = s.part.host))
  ∧ ∀ (s : State) (ring : BitVec 4) (index : BitVec 12),
    Settled s.part → s.part.engine.state.alive = true → index.toNat < s.part.engine.areaSize →
    inSpan s.part.engine.areaSize s.part.compl.adminRing.consumer s.part.compl.adminRing.producer
      index.toNat = true →
    (∀ arm : Bool, arm = false ∨ s.part.engine.state = .running →
      ∃ t, exec (.adminComplete ring index arm) s = .next t
      ∧ t.part.compl = { s.part.compl with
          adminRing := { s.part.compl.adminRing with
            consumer := index.toNat
            armed := if arm then decide (s.part.compl.adminRing.producer = index.toNat)
              else s.part.compl.adminRing.armed } }
      ∧ Signalled s t
          (if arm = true ∧ s.part.compl.adminRing.producer ≠ index.toNat then [0] else [])
      ∧ (s.part.engine.state = .running → s.part.admin.state = .idle →
          s.part.admin.producer ≠ s.part.admin.consumer →
          distance s.part.engine.areaSize index.toNat s.part.compl.adminRing.producer + 1
            < s.part.engine.areaSize →
          t.part.admin = { s.part.admin with state := .fetching }
          ∧ t.part.request .administration = some (.read
              (s.part.engine.areaBase + BitVec.ofNat 64 (64 * s.part.admin.consumer)) 64)
          ∧ ∀ q, q ≠ .administration → t.part.request q = s.part.request q)
      ∧ (s.part.engine.state ≠ .running ∨ s.part.admin.state ≠ .idle
          ∨ s.part.admin.producer = s.part.admin.consumer
          ∨ s.part.engine.areaSize
              ≤ distance s.part.engine.areaSize index.toNat s.part.compl.adminRing.producer + 1 →
          t.part.admin = s.part.admin ∧ t.part.host.waiting = s.part.host.waiting)
      ∧ t.part.host.outstanding = s.part.host.outstanding
      ∧ OnlyChanges [.admin, .host, .compl, .out] s t)
    ∧ (s.part.engine.state ≠ .running → exec (.adminComplete ring index true) s =
      .next { s with part := { s.part with compl := { s.part.compl with
        adminRing := { s.part.compl.adminRing with
          consumer := index.toNat, armPending := true } } } })

/-- A NOTIFY write that fails its checks changes nothing but NOTIFY_DROPPED: any kind in OFF and FAILED,
an invalid kind always, a ring id above 7 or naming an ABSENT ring, an index not below the size, and a
consumer index outside the span (R167, R168). -/
def Obligations.DroppedNotifyOnlySetsTheFlag : Prop :=
  ∀ (s : State) (ring : BitVec 4) (index : BitVec 12) (arm : Bool) (word : BitVec 32) (d : State),
    d = { s with part := { s.part with engine := { s.part.engine with notifyDropped := true } } } →
    exec (.notifyInvalidKind word) s = .next d
    ∧ (s.part.engine.state = .off ∨ s.part.engine.state = .failed →
      exec (.submit ring index arm) s = .next d ∧ exec (.complete ring index arm) s = .next d
      ∧ exec (.notice ring index arm) s = .next d ∧ exec (.adminSubmit ring index arm) s = .next d
      ∧ exec (.adminComplete ring index arm) s = .next d)
    ∧ (7 < ring.toNat →
      exec (.submit ring index arm) s = .next d ∧ exec (.complete ring index arm) s = .next d)
    ∧ (∀ r : Fin 8, r.val = ring.toNat →
      (s.part.ring r).state = .absent ∨ (s.part.ring r).size ≤ index.toNat →
      exec (.submit ring index arm) s = .next d)
    ∧ (∀ c : Fin 8, c.val = ring.toNat →
      (s.part.cring c).present = false ∨ (s.part.cring c).size ≤ index.toNat
        ∨ distance (s.part.cring c).size (s.part.cring c).consumer (s.part.cring c).producer
          < distance (s.part.cring c).size (s.part.cring c).consumer index.toNat →
      exec (.complete ring index arm) s = .next d)
    ∧ (s.part.notices.ring.present = false ∨ s.part.notices.ring.size ≤ index.toNat
        ∨ distance s.part.notices.ring.size s.part.notices.ring.consumer
            s.part.notices.ring.producer
          < distance s.part.notices.ring.size s.part.notices.ring.consumer index.toNat →
      exec (.notice ring index arm) s = .next d)
    ∧ (s.part.engine.areaSize ≤ index.toNat →
      exec (.adminSubmit ring index arm) s = .next d
      ∧ exec (.adminComplete ring index arm) s = .next d)
    ∧ (distance s.part.engine.areaSize s.part.compl.adminRing.consumer
          s.part.compl.adminRing.producer
        < distance s.part.engine.areaSize s.part.compl.adminRing.consumer index.toNat →
      exec (.adminComplete ring index arm) s = .next d)

/-! ### The access channel and interrupt messages -/

/-- HOST_ACCESS_ISSUE issues, while the channel is free and the engine RUNNING or QUIESCING, the first
waiting request in the cyclic order of the source table after the source last served, a read of the
Backplane Master whose burst was abandoned before that of its present burst; otherwise it does nothing
(R56, R169, R170). That such a read still waits at the arbiter, and goes first, is the model's choice
(notes/assumptions/6.md). -/
def Obligations.ArbiterServesSourcesInCyclicOrder : Prop :=
  (∀ (s : State) (q : Source) (a : Access) (k : Nat), s.part.engine.state.working = true →
    s.part.host.outstanding = none → k < 6 →
    q.place.val = (s.part.host.lastServed.place.val + 1 + k) % 6 →
    (∀ (q' : Source) (k' : Nat), k' < k →
      q'.place.val = (s.part.host.lastServed.place.val + 1 + k') % 6 →
      s.part.request q' = none ∧ (q' = .master → s.part.host.abandoned = [])) →
    (s.part.request q = some a ∧ (q = .master → s.part.host.abandoned = []))
      ∨ (q = .master ∧ ∃ l, s.part.host.abandoned = a :: l) →
    ∃ t, exec .hostAccessIssue s = .next t
      ∧ t.part.host.outstanding = some
          { source := q, access := a,
            stale := q == .master && !s.part.host.abandoned.isEmpty, elapsed := 0 }
      ∧ t.part.host.lastServed = q
      ∧ (q = .master → s.part.host.abandoned ≠ [] → t.part.request q = s.part.request q
        ∧ t.part.host.abandoned = s.part.host.abandoned.tail)
      ∧ (q ≠ .master ∨ s.part.host.abandoned = [] → t.part.request q = none
        ∧ t.part.host.abandoned = s.part.host.abandoned)
      ∧ (∀ q', q' ≠ q → t.part.request q' = s.part.request q')
      ∧ t.part.out = s.part.out ++ [match a with
          | .read addr n => .hostRead addr n
          | .write addr data => .hostWrite addr data]
      ∧ OnlyChanges [.host, .out] s t)
  ∧ ∀ s : State, s.part.engine.state.working = false ∨ s.part.host.outstanding.isSome = true
      ∨ ((∀ q, s.part.request q = none) ∧ s.part.host.abandoned = []) →
    exec .hostAccessIssue s = .next s

/-- A signal is one interrupt message, or the vector's pending flag where messages are disabled or the
vector is masked. Masking changes the mask alone; an unmask or an enable sends one message for each
pending vector that is then neither masked nor disabled, and its flag clears. The order of several
messages at an enable, and that both conditions must hold, are the model's (R171;
notes/assumptions/11.md and 13.md). -/
def Obligations.VectorMasksHoldMessagesBack : Prop :=
  (∀ (p : Part) (v : Fin 16),
    (p.host.messagesEnabled = true → p.host.vectorMasked.get v = false →
      p.signal v = { p with out := p.out ++ [.message v] })
    ∧ (p.host.messagesEnabled = false ∨ p.host.vectorMasked.get v = true →
      (p.signal v).out = p.out
      ∧ ∀ w, (p.signal v).host.vectorPending.get w = (p.host.vectorPending.get w || w == v)))
  ∧ (∀ (s : State) (v : Fin 16), ∃ t, exec (.vectorMasked (.vector v)) s = .next t
    ∧ (∀ w, t.part.host.vectorMasked.get w = (s.part.host.vectorMasked.get w || w == v))
    ∧ t.part.host.vectorPending = s.part.host.vectorPending ∧ OnlyChanges [.host] s t)
  ∧ (∀ s : State, exec (.vectorMasked .messages) s = .next { s with part := { s.part with
      host := { s.part.host with messagesEnabled := false } } })
  ∧ (∀ (s : State) (v : Fin 16), ∃ t, exec (.vectorUnmask (.vector v)) s = .next t
    ∧ (∀ w, t.part.host.vectorMasked.get w = (s.part.host.vectorMasked.get w && w != v))
    ∧ (s.part.host.messagesEnabled = true → s.part.host.vectorPending.get v = true →
        t.part.out = s.part.out ++ [.message v]
        ∧ ∀ w, t.part.host.vectorPending.get w = (s.part.host.vectorPending.get w && w != v))
    ∧ (s.part.host.messagesEnabled = false ∨ s.part.host.vectorPending.get v = false →
        t.part.out = s.part.out ∧ t.part.host.vectorPending = s.part.host.vectorPending)
    ∧ OnlyChanges [.host, .out] s t)
  ∧ ∀ s : State, ∃ t, exec (.vectorUnmask .messages) s = .next t
    ∧ t.part.host.messagesEnabled = true
    ∧ t.part.host.vectorMasked = s.part.host.vectorMasked
    ∧ (∀ w, t.part.host.vectorPending.get w =
        (s.part.host.vectorPending.get w && s.part.host.vectorMasked.get w))
    ∧ t.part.out = s.part.out ++ ((List.finRange 16).filter fun w =>
        s.part.host.vectorPending.get w && !s.part.host.vectorMasked.get w).map Output.message
    ∧ OnlyChanges [.host, .out] s t

/-- Each fatal failure report, of an access outstanding or of the one the arbiter takes next, which then
could not be issued and never appears on the link, and a record or command read without data for 16 ms,
takes a RUNNING or QUIESCING engine to FAILED with the cause and ring id of R165's table; every waiting
request is discarded, and the ring contexts, the FIFO and the Administration Unit keep their values (R8,
R149, R122, R141, R165, R169, R170, R174). That a failure report stands for the link being down is the
model's choice (notes/assumptions/37.md). -/
def Obligations.FatalReportsEnterFailed : Prop :=
  ∀ (s : State) (c : Instr) (cause : FatalCause) (id : Nat), s.part.engine.state.working = true →
    (((c = .submissionReadDone none ∧ s.part.readFailable .ringFetch = true)
          ∨ (c = .hostReadTimeout ∧ s.part.readOutstanding .ringFetch = true))
        ∧ cause = .submissionRead ∧ (∃ f, s.part.fetch.flight = some f ∧ id = f.ring.val))
      ∨ (((c = .adminCommandReadFailed ∧ s.part.readFailable .administration = true)
          ∨ (c = .hostReadTimeout ∧ s.part.readOutstanding .administration = true))
        ∧ cause = .adminRead ∧ id = 15)
      ∨ (c = .completionEntryWriteDone false ∧ s.part.writeFailable .posting = true
        ∧ cause = .completionWrite
        ∧ (∃ x l, s.part.compl.fifo = x :: l ∧ id = x.reservation.val))
      ∨ (c = .adminCompletionWriteDone false ∧ s.part.writeFailable .adminPosting = true
        ∧ cause = .adminCompletionWrite ∧ id = 15)
      ∨ (c = .noticeEntryWriteDone false ∧ s.part.writeFailable .notices = true
        ∧ cause = .noticeWrite ∧ s.part.notices.write.isSome = true ∧ id = 14) →
    ∃ t, exec c s = .next t
      ∧ t.part.engine = { s.part.engine with state := .failed, cause := cause, ringId := id }
      ∧ t.part.host.outstanding = none ∧ (∀ q, t.part.request q = none)
      ∧ t.part.host.abandoned = []
      ∧ (s.part.port.state = .joining ∨ s.part.port.state = .idle
          ∨ s.part.port.state = .requesting →
        t.part.port.state = .detached ∧ t.part.port.req = false ∧ t.part.port.lvl = 3)
      ∧ t.part.fetch = s.part.fetch ∧ t.part.compl = s.part.compl ∧ t.part.admin = s.part.admin
      ∧ t.part.out = s.part.out ∧ t.pending = s.pending

/-! ### Admission -/

/-- RING_CHOICE, with the engine RUNNING, the admission register empty and no fetch in flight, takes the
candidate of the most urgent class that comes first after the round-robin pointer: the pointer moves to
it, its completion ring grants one reservation and the record at F is asked for. Without a candidate, or
outside those conditions, nothing happens (R6, R7, R8, R115). -/
def Obligations.RingChoiceTakesTheNextUrgentCandidate : Prop :=
  (∀ (s : State) (r : Fin 8), Settled s.part → s.part.engine.state = .running →
    s.part.fetch.admission = none → s.part.fetch.flight = none → s.part.candidate r = true →
    (∀ q, s.part.candidate q = true → (s.part.ring r).cls ≤ (s.part.ring q).cls) →
    (∀ q, s.part.candidate q = true → (s.part.ring q).cls = (s.part.ring r).cls →
      (r - (s.part.fetch.lastChosen + 1)).val ≤ (q - (s.part.fetch.lastChosen + 1)).val) →
    ∃ t, exec .ringChoice s = .next t
      ∧ t.part.fetch = { s.part.fetch with
          lastChosen := r
          flight := some { ring := r, index := (s.part.ring r).fetchIndex,
                           reservation := (s.part.ring r).bound, discard := false } }
      ∧ (∀ c, t.part.cring c = { s.part.cring c with
          reserved := (s.part.cring c).reserved + if c = (s.part.ring r).bound then 1 else 0 })
      ∧ t.part.request .ringFetch = some (.read
          ((s.part.ring r).base + BitVec.ofNat 64 (64 * (s.part.ring r).fetchIndex)) 64)
      ∧ OnlyChanges [.fetch, .compl, .host] s t)
  ∧ ∀ s : State, s.part.engine.state ≠ .running ∨ s.part.fetch.admission.isSome = true
      ∨ s.part.fetch.flight.isSome = true ∨ (∀ q, s.part.candidate q = false) →
    exec .ringChoice s = .next s

/-- A ring is a candidate exactly under R6's conditions: ACTIVE, P ≠ F, held count below quota, the
distance from C to F below the span limit, a free completion entry; and while no slot is FREE, its
eviction bar clear and some other ring's evictable slot of a strictly less urgent class (R6, R44). -/
def Obligations.CandidateIsR6 : Prop :=
  ∀ (p : Part) (r : Fin 8), p.sched.age.Nodup →
    (p.candidate r = true ↔
      (p.ring r).state = .active ∧ (p.ring r).producer ≠ (p.ring r).fetchIndex
      ∧ (p.ring r).heldCount < (p.ring r).quota
      ∧ distance (p.ring r).size (p.ring r).consumer (p.ring r).fetchIndex < (p.ring r).spanLimit
      ∧ (p.cring (p.ring r).bound).present = true
      ∧ (p.cring (p.ring r).bound).outstanding + (p.cring (p.ring r).bound).reserved + 1
          < (p.cring (p.ring r).bound).size
      ∧ ((∃ k, (p.slot k).state = .free) ∨ ((p.ring r).evictionBar = false
          ∧ ∃ k ∈ p.sched.age, (p.slot k).state = .held ∧ (p.slot k).ring ≠ r
            ∧ (p.slot k).index = predIndex (p.ring (p.slot k).ring).size
                (p.ring (p.slot k).ring).fetchIndex
            ∧ (p.ring r).cls < (p.slot k).cls)))

/-- The report of a record fetch places the record, with the engine RUNNING, its ring still ACTIVE and a
FREE slot: the slot takes the fields of R12 and R22 with its class, window or pre-settled status and
chain outcome decided now; the position becomes HELD, the held count and the records admitted counter
rise, F moves on, the window has one slot more in flight. A record whose ring has left ACTIVE is
discarded and its reservation released, or granted to a flush that waits for it. The effective class is the
record's in a RELAXED ring with CLASS_OVERRIDE and the ring's otherwise; the chain outcome follows R26's
table, the position before C counting as DONE. The lowest-numbered FREE slot is the model's choice (R4, R8,
R10, R12, R22, R25, R26, R75, R115, R116; notes/assumptions/7.md). -/
def Obligations.FetchedRecordIsPlacedOrDiscarded : Prop :=
  (∀ (s : State) (rec : Block) (f : Flight) (k : Fin 8), Settled s.part →
    s.part.engine.state = .running → s.part.readOutstanding .ringFetch = true →
    s.part.fetch.flight = some f → f.discard = false → (s.part.ring f.ring).state = .active →
    (s.part.slot k).state = .free → (∀ j, j < k → (s.part.slot j).state ≠ .free) →
    ∃ t, exec (.submissionReadDone (some rec)) s = .next t
      ∧ t.part.slot k =
          { state := .held, ring := f.ring, index := f.index, sequence := s.part.sched.sequence
            cls := s.part.effectiveClass f.ring rec, record := rec
            window := match s.part.mapping rec with | .window w => some w | _ => none
            preSettled := match s.part.mapping rec with | .status st => some st | _ => none
            progress := 0, retries := 0, passes := 0, deferred := false
            reservation := some f.reservation, chain := s.part.chainAtAdmission f.ring f.index
            finalStatus := none, result := 0#32 }
      ∧ (∀ j, j ≠ k → t.part.slot j = s.part.slot j)
      ∧ t.part.sched.age = s.part.sched.age ++ [k]
      ∧ t.part.sched.sequence = s.part.sched.sequence + 1#32
      ∧ t.part.fetch.flight = none ∧ t.part.fetch.admission = none
      ∧ t.part.ring f.ring = SubmissionRing.skipFetch
          { (s.part.ring f.ring).setSpan f.index .held with
            heldCount := (s.part.ring f.ring).heldCount + 1
            fetchIndex :=
              succIndex (s.part.ring f.ring).size (s.part.ring f.ring).fetchIndex }
      ∧ (∀ q, q ≠ f.ring → t.part.ring q = s.part.ring q)
      ∧ (∀ w, t.part.window w = { s.part.window w with
          inFlight := (s.part.window w).inFlight
            + if s.part.mapping rec = .window w then 1 else 0 })
      ∧ t.part.stats = { s.part.stats with admitted := satSucc s.part.stats.admitted }
      ∧ t.part.host.outstanding = none
      ∧ OnlyChanges [.host, .fetch, .sched, .windows, .stats, .port] s t)
  ∧ (∀ (p : Part) (r : Fin 8) (rec : Block),
    ((p.ring r).order = .relaxed → recOverride rec = true →
      p.effectiveClass r rec = recClass rec)
    ∧ ((p.ring r).order = .ordered ∨ recOverride rec = false →
      p.effectiveClass r rec = (p.ring r).cls))
  ∧ (∀ (p : Part) (r : Fin 8) (i b : Nat), b = predIndex (p.ring r).size i →
    ((p.ring r).spanOffset i = 0 → LinkGives (p.ring r).linkBefore (p.chainAtAdmission r i))
    ∧ ((p.ring r).spanOffset i ≠ 0 →
      ((p.ring r).spanMark b = .done →
        LinkGives ((p.ring r).links.getD ((p.ring r).spanOffset b) .none) (p.chainAtAdmission r i))
      ∧ ((p.ring r).spanMark b = .held →
        ((∃ k, (p.slot k).counted = true ∧ (p.slot k).ring = r ∧ (p.slot k).index = b
            ∧ recChain (p.slot k).record = true) → p.chainAtAdmission r i = .waiting)
        ∧ ((∀ k, (p.slot k).counted = true → (p.slot k).ring = r → (p.slot k).index = b →
            recChain (p.slot k).record = false) → p.chainAtAdmission r i = .notMember))))
  ∧ ∀ (s : State) (rec : Block) (f : Flight), Settled s.part → s.part.engine.state.working = true →
    s.part.readOutstanding .ringFetch = true → s.part.fetch.flight = some f →
    f.discard = true ∨ (s.part.ring f.ring).state ≠ .active →
    ∃ t, exec (.submissionReadDone (some rec)) s = .next t
      ∧ t.part.fetch = { s.part.fetch with flight := none }
      ∧ (s.part.flushAsks f.reservation = none ∨ 0 < (s.part.cring f.reservation).freeEntries →
        (∀ c, t.part.cring c = { s.part.cring c with
          reserved := (s.part.cring c).reserved - if c = f.reservation then 1 else 0 })
        ∧ t.part.admin = s.part.admin)
      ∧ (∀ g, s.part.flushAsks f.reservation = some g →
        (s.part.cring f.reservation).present = true → 0 < (s.part.cring f.reservation).reserved →
        (s.part.cring f.reservation).reserved + (s.part.cring f.reservation).outstanding + 1
          = (s.part.cring f.reservation).size →
        (∀ c, t.part.cring c = s.part.cring c)
        ∧ t.part.admin.state = .waiting (.flushRing { g with granted := true }))
      ∧ t.part.compl.fifo = s.part.compl.fifo ∧ t.part.host.outstanding = none
      ∧ OnlyChanges [.host, .admin, .fetch, .compl, .port] s t

/-- With every slot in use, the record evicts the least urgent and, within that class, youngest evictable
slot of another ring when that slot's class is strictly less urgent than the record's effective class:
the record takes the slot, the victim's reservation is released, its window has one slot fewer in flight,
and its ring steps back to the victim's index with its position NOT_ADMITTED. Otherwise the attempt fails:
the record is discarded, its reservation released and its ring's eviction bar set (R13, R14, R44, R75,
R116). -/
def Obligations.FullQueueEvictsOrBars : Prop :=
  ∀ (s : State) (rec : Block) (f : Flight), s.part.engine.state = .running →
    s.part.readOutstanding .ringFetch = true → s.part.fetch.flight = some f → f.discard = false →
    (s.part.ring f.ring).state = .active → (∀ j, (s.part.slot j).state ≠ .free) →
    s.part.sched.age.Nodup →
    (∀ v : Fin 8, v ∈ s.part.sched.age → s.part.evictable (s.part.slot v) = true →
      (s.part.slot v).ring ≠ f.ring → 0 < (s.part.ring (s.part.slot v).ring).size →
      (∀ u ∈ s.part.sched.age, s.part.evictable (s.part.slot u) = true →
        (s.part.slot u).ring ≠ f.ring →
        (s.part.slot u).cls < (s.part.slot v).cls ∨ ((s.part.slot u).cls = (s.part.slot v).cls
          ∧ s.part.sched.age.idxOf u ≤ s.part.sched.age.idxOf v)) →
      s.part.effectiveClass f.ring rec < (s.part.slot v).cls →
      ∃ t, exec (.submissionReadDone (some rec)) s = .next t
        ∧ (t.part.slot v).state = .held ∧ (t.part.slot v).ring = f.ring
        ∧ (t.part.slot v).index = f.index ∧ (t.part.slot v).record = rec
        ∧ (t.part.slot v).reservation = some f.reservation
        ∧ (∀ j, j ≠ v → t.part.slot j = s.part.slot j)
        ∧ (t.part.ring (s.part.slot v).ring).fetchIndex = (s.part.slot v).index
        ∧ Evicted s t v rec
        ∧ t.part.stats.admitted = satSucc s.part.stats.admitted
        ∧ t.part.fetch.admission = none ∧ t.part.compl.fifo = s.part.compl.fifo)
    ∧ ((∀ u ∈ s.part.sched.age, s.part.evictable (s.part.slot u) = true →
        (s.part.slot u).ring ≠ f.ring →
        (s.part.slot u).cls ≤ s.part.effectiveClass f.ring rec) →
      ∃ t, exec (.submissionReadDone (some rec)) s = .next t
        ∧ t.part.sched = s.part.sched ∧ t.part.fetch.admission = none
        ∧ t.part.fetch.flight = none
        ∧ t.part.ring f.ring = { s.part.ring f.ring with evictionBar := true }
        ∧ (∀ q, q ≠ f.ring → t.part.ring q = s.part.ring q)
        ∧ ((∀ g, s.part.admin.state ≠ .waiting (.flushRing g)) →
          ∀ c, t.part.cring c = { s.part.cring c with
            reserved := (s.part.cring c).reserved - if c = f.reservation then 1 else 0 })
        ∧ t.part.windows = s.part.windows ∧ t.part.stats = s.part.stats)

/-- The checks at admission. A record is bad for an unknown opcode, a READ or WRITE of 0 or more than 4096
bytes, a COMPARE_SWAP off a multiple of 4, and a NOTICE_SEND to the part itself or above node 31; it gives
BAD_RECORD whatever the windows. A valid NOTICE_SEND or MARKER has no window. Where window ranges in use
do not overlap, a valid READ, WRITE or COMPARE_SWAP maps to window w exactly when w is OPEN or FENCED,
contains every address of the record's range, and the alignment and access checks pass; it gives NO_WINDOW
exactly when no OPEN or FENCED window contains its whole range; the alignment check comes before the
access check, which gives ACCESS_DENIED. A READ or WRITE is misaligned where its address or length is no
multiple of the port width, and what the access fields deny is R74's table (R10, R11, R72, R73, R74). -/
def Obligations.MappingFindsTheContainingWindow : Prop :=
  (∀ (p : Part) (rec : Block),
    (p.badRecord rec = true ↔ recOpcode rec = none
      ∨ ((recOpcode rec = some .read ∨ recOpcode rec = some .write)
        ∧ (recLength rec = 0 ∨ 4096 < recLength rec))
      ∨ (recOpcode rec = some .compareSwap ∧ ¬(4 ∣ (recAddr rec).toNat))
      ∨ (recOpcode rec = some .noticeSend ∧ (31 < recDestination rec
        ∨ ∃ n, p.notices.nodeId = some n ∧ recDestination rec = n.toNat)))
    ∧ (p.badRecord rec = true → p.mapping rec = .status .badRecord)
    ∧ (p.badRecord rec = false →
      recOpcode rec = some .noticeSend ∨ recOpcode rec = some .marker → p.mapping rec = .none))
  ∧ (∀ (x : Window) (rec : Block),
    (x.misaligned rec = true ↔ recOpcode rec ≠ some .compareSwap
      ∧ ((recAddr rec).toNat % x.portWidth ≠ 0 ∨ recLength rec % x.portWidth ≠ 0))
    ∧ (x.denies rec = true ↔ (recOpcode rec = some .read ∧ x.access = .writeOnly)
      ∨ (recOpcode rec = some .write ∧ x.access = .readOnly)
      ∨ (recOpcode rec = some .compareSwap
        ∧ ¬(x.access = .readWrite ∧ x.lockPermitted = true ∧ x.portWidth = 4))))
  ∧ ∀ (p : Part) (rec : Block) (w : Fin 16),
    (∀ u v : Fin 16, u ≠ v → (p.window u).state ≠ .unused → (p.window v).state ≠ .unused →
      rangesOverlap (p.window u).base.toNat (p.window u).size (p.window v).base.toNat
        (p.window v).size = false) →
    p.badRecord rec = false →
    recOpcode rec = some .read ∨ recOpcode rec = some .write ∨ recOpcode rec = some .compareSwap →
    (p.mapping rec = .window w ↔
      ((p.window w).state = .opened ∨ (p.window w).state = .fenced)
      ∧ (p.window w).base.toNat ≤ (recAddr rec).toNat
      ∧ (recAddr rec).toNat + rangeLength rec ≤ (p.window w).base.toNat + (p.window w).size
      ∧ (p.window w).misaligned rec = false ∧ (p.window w).denies rec = false)
    ∧ (p.mapping rec = .status .noWindow ↔
      ∀ u : Fin 16, (p.window u).state = .opened ∨ (p.window u).state = .fenced →
        ¬((p.window u).base.toNat ≤ (recAddr rec).toNat
          ∧ (recAddr rec).toNat + rangeLength rec ≤ (p.window u).base.toNat + (p.window u).size))
    ∧ (((p.window w).state = .opened ∨ (p.window w).state = .fenced) →
      (p.window w).base.toNat ≤ (recAddr rec).toNat →
      (recAddr rec).toNat + rangeLength rec ≤ (p.window w).base.toNat + (p.window w).size →
      ((p.window w).misaligned rec = true → p.mapping rec = .status .badAlignment)
      ∧ ((p.window w).misaligned rec = false → (p.window w).denies rec = true →
        p.mapping rec = .status .accessDenied))

/-- The bank and page of an address of a PAGED window: its offset lies in the piece of page size numbered
bank count × page + bank, and with one bank the page is offset / page size; the addresses of OPEN and
CLOSE. A burst keeps within one page, and so does a COMPARE_SWAP's word; the bank and page of a burst are
those of its first address (R82). -/
def Obligations.BankAndPageDerivation : Prop :=
  (∀ (w : Window) (a : BusWord) (b q : Nat), w.base.toNat ≤ a.toNat → 0 < w.pageSize →
    0 < w.bankCount →
    w.bankOf a < w.bankCount
    ∧ w.pageSize * (w.bankCount * w.pageOf a + w.bankOf a) ≤ a.toNat - w.base.toNat
    ∧ a.toNat - w.base.toNat < w.pageSize * (w.bankCount * w.pageOf a + w.bankOf a) + w.pageSize
    ∧ w.openAddress b q =
        w.base + BitVec.ofNat 32 (q * w.pageSize * w.bankCount) + BitVec.ofNat 32 (b * w.pageSize)
    ∧ w.closeAddress b = w.base + BitVec.ofNat 32 (b * w.pageSize)
    ∧ (w.bankCount = 1 → w.bankOf a = 0 ∧ w.pageOf a = (a.toNat - w.base.toNat) / w.pageSize)
    ∧ ∀ c : BusWord, a.toNat ≤ c.toNat →
      (c.toNat < a.toNat + 4 ∧ a.toNat % 4 = 0 ∧ w.base.toNat % 4 = 0 ∧ w.pageSize % 4 = 0)
        ∨ (w.kind = .paged ∧ ∃ stop, c.toNat < w.burstEnd a.toNat stop) →
      w.bankOf c = w.bankOf a ∧ w.pageOf c = w.pageOf a)
  ∧ ∀ (p : Part) (s : Slot) (w : Fin 16), s.window = some w →
    recOpcode s.record = some .read ∨ recOpcode s.record = some .write
      ∨ recOpcode s.record = some .compareSwap →
    (p.nextBurst s).bank = (p.window w).bankOf (p.nextBurst s).addr
    ∧ (p.nextBurst s).page = (p.window w).pageOf (p.nextBurst s).addr

/-! ### Selection and the split into bursts -/

/-- SELECTION, with the engine RUNNING, the port OWNER, the Master IDLE and a bus-eligible slot, hands
over the oldest slot of the most urgent class; where that slot is no page hit, has no DIRECT window, is
no NOTICE_SEND and has been passed over fewer than four times, the oldest page hit of a RELAXED ring in
the same class goes first and the pass count rises. The slot goes IN_BURST with its next burst; a WRITE
asks for its data and drives nothing, any other burst drives its first phase, the one the page table gives
in a PAGED window and its address phase otherwise, and clears every DEFERRED flag. Without these
conditions nothing happens. The next burst is a page hit exactly where it falls in a PAGED window in a bank
that is OPEN with its page and not due-to-close (R30, R31, R32, R33, R35, R46, R48, R52, R84, R85). -/
def Obligations.SelectionHandsOverTheChosenSlot : Prop :=
  (∀ (s : State) (o k : Fin 8) (passed : Option (Fin 8)), Settled s.part →
    s.part.engine.state = .running → s.part.port.state = .owner → s.part.master.state = .idle →
    o ∈ s.part.busSet →
    (∀ j ∈ s.part.busSet, (s.part.slot o).cls ≤ (s.part.slot j).cls) →
    (∀ j ∈ s.part.busSet, (s.part.slot j).cls = (s.part.slot o).cls →
      s.part.sched.age.idxOf o ≤ s.part.sched.age.idxOf j) →
    (((s.part.pageHit (s.part.slot o) = true ∨ s.part.directWindow (s.part.slot o) = true
          ∨ recOpcode (s.part.slot o).record = some .noticeSend ∨ (s.part.slot o).passes = 4)
        ∧ k = o ∧ passed = none)
      ∨ (s.part.pageHit (s.part.slot o) = false ∧ s.part.directWindow (s.part.slot o) = false
        ∧ recOpcode (s.part.slot o).record ≠ some .noticeSend ∧ (s.part.slot o).passes ≠ 4
        ∧ passed = some o ∧ k ∈ s.part.busSet ∧ (s.part.slot k).cls = (s.part.slot o).cls
        ∧ (s.part.ring (s.part.slot k).ring).order = .relaxed
        ∧ s.part.pageHit (s.part.slot k) = true
        ∧ ∀ j ∈ s.part.busSet, (s.part.slot j).cls = (s.part.slot o).cls →
          (s.part.ring (s.part.slot j).ring).order = .relaxed →
          s.part.pageHit (s.part.slot j) = true →
          s.part.sched.age.idxOf k ≤ s.part.sched.age.idxOf j)
      ∨ (s.part.pageHit (s.part.slot o) = false ∧ s.part.directWindow (s.part.slot o) = false
        ∧ recOpcode (s.part.slot o).record ≠ some .noticeSend ∧ (s.part.slot o).passes ≠ 4
        ∧ k = o ∧ passed = none
        ∧ ∀ j ∈ s.part.busSet, (s.part.slot j).cls = (s.part.slot o).cls →
          (s.part.ring (s.part.slot j).ring).order = .relaxed →
          s.part.pageHit (s.part.slot j) = false)) →
    ∃ t, exec .selection s = .next t
      ∧ (∀ j, t.part.slot j = { s.part.slot j with
          state := if j = k then .inBurst else (s.part.slot j).state
          passes := (s.part.slot j).passes + if passed = some j then 1 else 0
          deferred := if recOpcode (s.part.slot k).record = some .write
            then (s.part.slot j).deferred else false })
      ∧ t.part.sched.age = s.part.sched.age ∧ t.part.sched.waiters = s.part.sched.waiters
      ∧ (∃ x, t.part.master.operation = some x ∧ x.slot = some k
        ∧ x.opcode = (recOpcode (s.part.slot k).record).getD .marker
        ∧ x.window = (s.part.slot k).window
        ∧ x.addr = (s.part.nextBurst (s.part.slot k)).addr
        ∧ x.start = (s.part.nextBurst (s.part.slot k)).start
        ∧ x.bytes = (s.part.nextBurst (s.part.slot k)).bytes
        ∧ x.width = (s.part.nextBurst (s.part.slot k)).width
        ∧ x.beats = (s.part.nextBurst (s.part.slot k)).beats
        ∧ x.bank = (s.part.nextBurst (s.part.slot k)).bank
        ∧ x.page = (s.part.nextBurst (s.part.slot k)).page
        ∧ x.acked = 0 ∧ x.lockHeld = false ∧ x.oldValue = none
        ∧ (recOpcode (s.part.slot k).record ≠ some .write →
          x.phase = some (s.part.openingPhase x) ∧ x.limit = s.part.burstLimit x ∧ x.elapsed = 0
          ∧ t.part.out = s.part.out ++ [.phase (s.part.openingPhase x).code
              (s.part.phaseAd x (s.part.openingPhase x)) ((s.part.openingPhase x).beatCount x)]
          ∧ t.part.stats = (s.part.countPage x).stats))
      ∧ t.part.master.staging = []
      ∧ (recOpcode (s.part.slot k).record = some .write →
          t.part.master.state = .fetching ∧ t.part.out = s.part.out
          ∧ t.part.request .master = some (.read
              (recBuffer (s.part.slot k).record
                + BitVec.ofNat 64 (s.part.nextBurst (s.part.slot k)).start)
              (s.part.nextBurst (s.part.slot k)).bytes))
      ∧ (recOpcode (s.part.slot k).record ≠ some .write →
          t.part.master.state = .driving ∧ t.part.host = s.part.host)
      ∧ t.part.port.state = .owner
      ∧ OnlyChanges [.host, .sched, .master, .port, .stats, .out] s t)
  ∧ (∀ s : State, s.part.engine.state ≠ .running ∨ s.part.port.state ≠ .owner
      ∨ s.part.master.state ≠ .idle ∨ s.part.busSet = [] → exec .selection s = .next s)
  ∧ ∀ (p : Part) (x : Slot),
    (p.pageHit x = true ↔ ∃ w, x.window = some w ∧ (p.window w).kind = .paged
      ∧ ∃ b, (p.window w).banks[(p.nextBurst x).bank]? = some b ∧ b.state = .opened
        ∧ b.page = (p.nextBurst x).page ∧ b.dueToClose = false)
    ∧ (p.directWindow x = true ↔ ∃ w, x.window = some w ∧ (p.window w).kind = .direct)
    ∧ ∀ k, k ∈ p.busSet ↔ k ∈ p.sched.age ∧ p.busEligible (p.slot k) = true

/-- The next burst of a READ or WRITE starts at the record's address plus the progress offset and ends
at the nearest of the transaction's end, the next multiple of port width × max burst, and for a PAGED
window the next page boundary; it is at least one beat and at most max burst beats long where the
record and the window are aligned to the port width (R53, R73). -/
def Obligations.BurstsFollowTheSplit : Prop :=
  ∀ (p : Part) (s : Slot) (w : Fin 16) (a stop e : Nat), s.window = some w →
    recOpcode s.record = some .read ∨ recOpcode s.record = some .write →
    0 < (p.window w).portWidth → 0 < (p.window w).maxBurst →
    ((p.window w).kind = .paged → 0 < (p.window w).pageSize
      ∧ (p.window w).pageSize % (p.window w).portWidth = 0
      ∧ (p.window w).base.toNat % (p.window w).portWidth = 0
      ∧ (p.window w).base.toNat ≤ a) →
    a = (recAddr s.record).toNat + s.progress → stop = (recAddr s.record).toNat + recLength s.record →
    a < stop → stop ≤ 2 ^ 32 →
    (recAddr s.record).toNat % (p.window w).portWidth = 0 →
    recLength s.record % (p.window w).portWidth = 0 →
    s.progress % (p.window w).portWidth = 0 →
    e = a + (p.nextBurst s).bytes →
    (p.nextBurst s).addr = BitVec.ofNat 32 a ∧ (p.nextBurst s).start = s.progress
    ∧ a < e ∧ e ≤ stop
    ∧ (e = stop ∨ e % ((p.window w).portWidth * (p.window w).maxBurst) = 0
      ∨ ((p.window w).kind = .paged
        ∧ (e - (p.window w).base.toNat) % (p.window w).pageSize = 0))
    ∧ (∀ x, a < x → x < e → x % ((p.window w).portWidth * (p.window w).maxBurst) ≠ 0
      ∧ ((p.window w).kind = .paged → (x - (p.window w).base.toNat) % (p.window w).pageSize ≠ 0))
    ∧ (p.nextBurst s).beats * (p.window w).portWidth = (p.nextBurst s).bytes
    ∧ 1 ≤ (p.nextBurst s).beats ∧ (p.nextBurst s).beats ≤ (p.window w).maxBurst

/-- A burst that is about to drive its first phase takes the response limit of its window's class, or
16 µs without a window. To a DIRECT window, or without one, it drives its address phase. To a PAGED
window it drives its address phase where the bank is OPEN with its page and not due-to-close, and counts
a page hit; it drives OPEN where the bank is CLOSED and CLOSE otherwise, and counts a page miss. Every
DEFERRED flag clears. With the phase, AD carries the address of the burst's first byte, for NOTICE the
destination node, for OPEN and CLOSE the address R82 gives; the beat count is the burst's for ADDR_READ and
ADDR_WRITE, 1 for ADDR_LOCK, 4 for NOTICE (R30, R46, R48, R82, R84, R85). -/
def Obligations.FirstPhaseFollowsThePageTable : Prop :=
  ∀ (p : Part) (o : Operation) (ad : BusWord) (count : Nat),
    ad = (if o.opcode = .read ∨ o.opcode = .write ∨ o.opcode = .compareSwap then o.addr
      else BitVec.ofNat 32 (recDestination (p.recordOf o))) →
    count = (if o.opcode = .read ∨ o.opcode = .write then o.beats
      else if o.opcode = .compareSwap then 1 else 4) →
    (p.startDriving o).master.state = .driving
    ∧ (p.startDriving o).master.staging = p.master.staging
    ∧ (∀ k, (p.startDriving o).slot k = { p.slot k with deferred := false })
    ∧ (o.window = none →
      (p.startDriving o).master.operation =
          some { o with limit := 16, phase := some o.opcode.addressPhase, elapsed := 0 }
        ∧ p.openingPhase o = o.opcode.addressPhase
        ∧ (p.startDriving o).out = p.out ++ [.phase o.opcode.addressPhase.code ad count]
        ∧ (p.startDriving o).stats = p.stats)
    ∧ (∀ w, o.window = some w → (p.window w).kind = .direct →
      (p.startDriving o).master.operation =
          some { o with limit := responseLimit (p.window w).limitClass,
                        phase := some o.opcode.addressPhase, elapsed := 0 }
        ∧ p.openingPhase o = o.opcode.addressPhase
        ∧ (p.startDriving o).out = p.out ++ [.phase o.opcode.addressPhase.code ad count]
        ∧ (p.startDriving o).stats = p.stats)
    ∧ (∀ w b, o.window = some w → (p.window w).kind = .paged →
      (p.window w).banks[o.bank]? = some b → b.state = .opened → b.page = o.page →
      b.dueToClose = false →
      (p.startDriving o).master.operation =
          some { o with limit := responseLimit (p.window w).limitClass,
                        phase := some o.opcode.addressPhase, elapsed := 0 }
        ∧ p.openingPhase o = o.opcode.addressPhase
        ∧ (p.startDriving o).out = p.out ++ [.phase o.opcode.addressPhase.code ad count]
        ∧ (p.startDriving o).stats = { p.stats with pageHits := satSucc p.stats.pageHits })
    ∧ (∀ w b ph, o.window = some w → (p.window w).kind = .paged →
      (p.window w).banks[o.bank]? = some b →
      ((b.state = .closed ∧ ph = Phase.openPage)
        ∨ ((b.state = .unknown ∨ (b.state = .opened ∧ (b.page ≠ o.page ∨ b.dueToClose = true)))
          ∧ ph = Phase.closePage)) →
      (p.startDriving o).master.operation =
          some { o with limit := responseLimit (p.window w).limitClass, phase := some ph,
                        elapsed := 0 }
        ∧ p.openingPhase o = ph
        ∧ (p.startDriving o).stats = { p.stats with pageMisses := satSucc p.stats.pageMisses }
        ∧ (p.startDriving o).out = p.out ++
            [.phase ph.code (if ph = .openPage then (p.window w).openAddress o.bank o.page
              else (p.window w).closeAddress o.bank) 0])

/-! ### Phases and their answers -/

/-- An answer HOLD leaves the phase waiting; an answer, and an expiry, when no phase waits do nothing.
ACK takes a READ from its address phase through its beats, each beat's data into the staging buffer, to
the delivery of all of them; and a WRITE or NOTICE_SEND from its address or notice phase through its
beats, each carrying the next data (R47, R54, R55, R57, R60). AD at 0 with a read beat is the model's
choice (notes/assumptions/40.md). -/
def Obligations.BurstPhasesFollowTheirAnswers : Prop :=
  (∀ (s : State) (ad : BusWord), exec (.targetAnswer .hold ad true) s = .next s)
  ∧ (∀ (s : State) (a : Answer) (ad : BusWord) (good : Bool),
    s.part.master.state ≠ .driving → s.part.master.state ≠ .closing →
    exec (.targetAnswer a ad good) s = .next s ∧ exec .responseLimitExpiry s = .next s)
  ∧ (∀ (s : State) (o : Operation) (k : Fin 8) (ad : BusWord), Settled s.part →
    o.opcode = .read →
    (Driving s.part o k .addrRead → exec (.targetAnswer .ack ad true) s =
      .next { s with part := (drives s.part o .readBeat 0#32 0) })
    ∧ (Driving s.part o k .readBeat → o.acked + 1 < o.beats →
      exec (.targetAnswer .ack ad true) s = .next { s with part := (drives
        { s.part with master := { s.part.master with
            staging := s.part.master.staging ++ leBytes o.width ad.toNat } }
        { o with acked := o.acked + 1 } .readBeat 0#32 0) })
    ∧ (Driving s.part o k .readBeat → o.beats = o.acked + 1 → s.part.engine.state ≠ .failed →
      ∃ t, exec (.targetAnswer .ack ad true) s = .next t
        ∧ t.part.master.state = .delivering
        ∧ t.part.master.operation = some { o with acked := o.beats, phase := none, ending := .clean }
        ∧ t.part.request .master = some (.write
            (recBuffer (s.part.slot k).record + BitVec.ofNat 64 o.start)
            ((s.part.master.staging ++ leBytes o.width ad.toNat).take (o.beats * o.width)))
        ∧ OnlyChanges [.master, .host] s t))
  ∧ (∀ (s : State) (o : Operation) (k : Fin 8) (ad : BusWord), Settled s.part →
    o.opcode = .write →
    (Driving s.part o k .addrWrite → o.acked = 0 → exec (.targetAnswer .ack ad true) s =
      .next { s with part := (drives s.part o .writeBeat
        (leWord (s.part.master.staging.take o.width)) 0) })
    ∧ (Driving s.part o k .writeBeat → o.acked + 1 < o.beats →
      exec (.targetAnswer .ack ad true) s = .next { s with part := (drives s.part
        { o with acked := o.acked + 1 } .writeBeat
        (leWord ((s.part.master.staging.drop ((o.acked + 1) * o.width)).take o.width)) 0) }))
  ∧ (∀ (s : State) (o : Operation) (k : Fin 8) (ad b0 b1 b2 : BusWord) (node : BitVec 5),
    Settled s.part → o.opcode = .noticeSend → s.part.notices.nodeId = some node →
    b0 = (node.setWidth 16 : BitVec 16) ++ recNoticeCode (s.part.slot k).record →
    b1 = recPayloadLow (s.part.slot k).record → b2 = recPayloadHigh (s.part.slot k).record →
    (Driving s.part o k .notice → o.acked = 0 → exec (.targetAnswer .ack ad true) s =
      .next { s with part := (drives s.part o .writeBeat b0 0) })
    ∧ (Driving s.part o k .writeBeat → o.beats = 4 →
      (o.acked = 0 → exec (.targetAnswer .ack ad true) s =
        .next { s with part := (drives s.part { o with acked := 1 } .writeBeat b1 0) })
      ∧ (o.acked = 1 → exec (.targetAnswer .ack ad true) s =
        .next { s with part := (drives s.part { o with acked := 2 } .writeBeat b2 0) })
      ∧ (o.acked = 2 → exec (.targetAnswer .ack ad true) s =
        .next { s with part := (drives s.part { o with acked := 3 } .writeBeat
          (~~~(b0 ^^^ b1 ^^^ b2)) 0) })))

/-- A COMPARE_SWAP holds the lock from the ACK of ADDR_LOCK, keeps the word its read beat brings as the
old value, drives one write beat with the swap value where the old value equals the compare value and
then END_LOCK, and END_LOCK at once where it does not. In any burst a CLOSE answered ACK makes the
burst's bank CLOSED and drives OPEN with the burst's page; an OPEN answered ACK makes it OPEN with that
page, its timer loaded with the open limit and no mark, and drives the address phase (R58, R83, R84). AD
at 0 with a read beat is the model's choice (notes/assumptions/40.md). -/
def Obligations.LockedSequencesAndPagePhases : Prop :=
  (∀ (s : State) (o : Operation) (k : Fin 8) (ad : BusWord), Settled s.part →
    o.opcode = .compareSwap →
    (Driving s.part o k .addrLock → exec (.targetAnswer .ack ad true) s =
      .next { s with part := (drives s.part { o with lockHeld := true } .readBeat 0#32 0) })
    ∧ (Driving s.part o k .readBeat → ad = recCompare (s.part.slot k).record →
      exec (.targetAnswer .ack ad true) s = .next { s with part := (drives s.part
        { o with acked := o.acked + 1, oldValue := some ad } .writeBeat
        (recSwap (s.part.slot k).record) 0) })
    ∧ (Driving s.part o k .readBeat → ad ≠ recCompare (s.part.slot k).record →
      exec (.targetAnswer .ack ad true) s = .next { s with part := (drives s.part
        { o with acked := o.acked + 1, oldValue := some ad } .endLock o.addr 0) })
    ∧ (Driving s.part o k .writeBeat → exec (.targetAnswer .ack ad true) s =
      .next { s with part := (drives s.part { o with acked := o.acked + 1 } .endLock o.addr 0) }))
  ∧ ∀ (s : State) (o : Operation) (k : Fin 8) (w : Fin 16) (ad : BusWord), Settled s.part →
    o.window = some w → o.bank < (s.part.window w).banks.length →
    (Driving s.part o k .closePage →
      ∃ t, exec (.targetAnswer .ack ad true) s = .next t
        ∧ (t.part.window w).banks[o.bank]? = some Bank.closed
        ∧ (∀ b, b ≠ o.bank → (t.part.window w).banks[b]? = (s.part.window w).banks[b]?)
        ∧ (∀ v, v ≠ w → t.part.window v = s.part.window v)
        ∧ t.part.master =
            { s.part.master with operation := some { o with phase := some .openPage, elapsed := 0 } }
        ∧ t.part.out = s.part.out ++
            [.phase .openPage ((s.part.window w).openAddress o.bank o.page) 0]
        ∧ OnlyChanges [.windows, .master, .out] s t)
    ∧ (Driving s.part o k .openPage →
      ∃ t, exec (.targetAnswer .ack ad true) s = .next t
        ∧ (t.part.window w).banks[o.bank]? = some
            { state := .opened, page := o.page, timer := (s.part.window w).openLimit,
              dueToClose := false, closeRequest := false }
        ∧ (∀ b, b ≠ o.bank → (t.part.window w).banks[b]? = (s.part.window w).banks[b]?)
        ∧ (∀ v, v ≠ w → t.part.window v = s.part.window v)
        ∧ t.part.master = { s.part.master with
            operation := some { o with phase := some o.opcode.addressPhase, elapsed := 0 } }
        ∧ (o.opcode = .read ∨ o.opcode = .write ∨ o.opcode = .compareSwap →
            t.part.out = s.part.out ++ [.phase o.opcode.addressPhase.code o.addr
              (if o.opcode = .compareSwap then 1 else o.beats)])
        ∧ OnlyChanges [.windows, .master, .out] s t)

/-! ### Ends of bursts and close operations -/

/-- A report of a burst makes the Master IDLE and counts in the bursts counter; its end acts on the port
error count, the window's consecutive-timeout count, the burst's bank and the counters as R67's table
and R83 say, and ABORT is driven for a timeout, a protocol fault and a FAULT inside a held lock (R36,
R59, R64, R65, R67, R70, R83). After any other end an OPEN bank of a CLOSE window is marked due-to-close
with a close request where the report settles the slot or its next burst falls in another bank or page,
and every other bank is left as it is, under KEEP always (R86, R87). A protocol fault that brings the
error count to 16 makes the port leave: an owning one takes the mark ERROR_LIMIT, loses a chain hold and
is RELEASING; nothing else sets the mark (R45, R108). That a READ with acknowledged beats reports at once
in FAILED, that every failing phase leaves a PAGED burst's bank UNKNOWN, and that a failing report may be
of a read that could not be issued, are the model's choice (notes/assumptions/19.md, 20.md and 37.md). -/
def Obligations.ReportsCarryTheVerdict : Prop :=
  ∀ (s : State) (c : Instr) (o : Operation) (k : Fin 8) (e : OperationEnd) (n : Nat),
    Reports s.part o k c e n → s.part.port.errorCount ≤ 16 →
    ∃ t, exec c s = .next t
      ∧ t.part.master = Master.reset
      ∧ t.part.stats.bursts = satSucc s.part.stats.bursts
      ∧ t.part.stats.retries =
          (if e = .retry then satSucc s.part.stats.retries else s.part.stats.retries)
      ∧ t.part.stats.timeouts =
          (if e = .timeout then satSucc s.part.stats.timeouts else s.part.stats.timeouts)
      ∧ t.part.stats.targetFaults =
          (if e = .fault then satSucc s.part.stats.targetFaults else s.part.stats.targetFaults)
      ∧ t.part.stats.busErrors =
          (if e = .protocolFault then satSucc s.part.stats.busErrors else s.part.stats.busErrors)
      ∧ t.part.port.errorCount = (match e with
          | .clean => s.part.port.errorCount - 1
          | .protocolFault => min 16 (s.part.port.errorCount + 1)
          | _ => s.part.port.errorCount)
      ∧ (∀ w, o.window = some w →
        (t.part.window w).timeouts = (match e with
          | .timeout => min 15 ((s.part.window w).timeouts + 1)
          | .clean | .retry | .fault | .protocolFault => 0
          | .linkLost | .grantLost | .hostReadError => (s.part.window w).timeouts)
        ∧ (e = .timeout ∨ e = .fault ∨ e = .protocolFault →
          (t.part.window w).banks = (s.part.window w).banks.set o.bank Bank.unknown)
        ∧ (e ≠ .timeout → e ≠ .fault → e ≠ .protocolFault →
          (GivesBackPage s.part o k e n w → (t.part.window w).banks =
            (s.part.window w).banks.modify o.bank fun x =>
              if x.state = .opened then { x with dueToClose := true, closeRequest := true } else x)
          ∧ (¬GivesBackPage s.part o k e n w →
            (t.part.window w).banks = (s.part.window w).banks)))
      ∧ (e = .protocolFault → s.part.port.errorCount = 15 → LeavesAtLimit s t)
      ∧ (e ≠ .protocolFault ∨ s.part.port.errorCount ≠ 15 →
        t.part.port.mark = s.part.port.mark)
      ∧ (∀ w, o.window ≠ some w → (t.part.window w).timeouts = (s.part.window w).timeouts
        ∧ (t.part.window w).banks = (s.part.window w).banks)
      ∧ t.part.out = s.part.out ++ (if abortsWith o c e then [.phase .abort 0#32 0] else [])
      ∧ t.part.engine = s.part.engine ∧ t.pending = s.pending

/-- A report gives its bytes to the slot. A clean READ or WRITE settles SUCCESS once its progress is its
length and goes STARTED before; a clean NOTICE_SEND settles SUCCESS; a clean COMPARE_SWAP settles SUCCESS
or MISMATCH with the old value; a RETRY raises the retry count and settles TARGET_BUSY beyond the ring's
limit, else the slot goes STARTED and DEFERRED, the flag clearing at once where its window is found fenced;
a failure settles the slot with its status. In FAILED the slot only takes the report. A settlement of a CHAIN
record gives the next record's slot, where it waits, the outcome SUCCESS after SUCCESS and FAILED after any
other status; one with SUCCESS begins a chain hold where that record is on its way (R17, R23, R26, R28, R36,
R37, R38, R40, R45, R58). That a
READ with acknowledged beats reports at once in FAILED, and that a failing report may be of a read that
could not be issued, are the model's choice (notes/assumptions/19.md and 37.md). -/
def Obligations.ReportsSettleOrContinueTheSlot : Prop :=
  ∀ (s : State) (c : Instr) (o : Operation) (k : Fin 8) (e : OperationEnd) (n : Nat),
    Reports s.part o k c e n → (s.part.slot k).preSettled = none →
    ∃ t, exec c s = .next t
      ∧ (s.part.engine.state = .failed → t.part.slot k = { s.part.slot k with
          state := .started, progress := (s.part.slot k).progress + n
          retries := (s.part.slot k).retries + if e = .retry then 1 else 0 })
      ∧ (s.part.engine.state ≠ .failed → e = .clean → o.opcode = .read ∨ o.opcode = .write →
        ((s.part.slot k).progress + n = recLength (s.part.slot k).record →
          SlotEnds s t k .success ((s.part.slot k).progress + n) (s.part.slot k).retries 0#32)
        ∧ ((s.part.slot k).progress + n ≠ recLength (s.part.slot k).record →
          t.part.slot k = { s.part.slot k with
            state := .started, progress := (s.part.slot k).progress + n, deferred := false }))
      ∧ (s.part.engine.state ≠ .failed → e = .clean → o.opcode = .noticeSend →
        SlotEnds s t k .success ((s.part.slot k).progress + n) (s.part.slot k).retries 0#32)
      ∧ (s.part.engine.state ≠ .failed → e = .clean → o.opcode = .compareSwap →
        SlotEnds s t k
          (if o.oldValue.getD 0#32 = recCompare (s.part.slot k).record then .success else .mismatch)
          ((s.part.slot k).progress + n) (s.part.slot k).retries (o.oldValue.getD 0#32))
      ∧ (s.part.engine.state ≠ .failed → e = .retry →
        ((s.part.ring (s.part.slot k).ring).retryLimit ≤ (s.part.slot k).retries →
          SlotEnds s t k .targetBusy ((s.part.slot k).progress + n) ((s.part.slot k).retries + 1)
            0#32)
        ∧ ((s.part.slot k).retries < (s.part.ring (s.part.slot k).ring).retryLimit →
          t.part.slot k = t.part.considered { s.part.slot k with
            state := .started, progress := (s.part.slot k).progress + n
            retries := (s.part.slot k).retries + 1, deferred := true }))
      ∧ (s.part.engine.state ≠ .failed →
        e = .fault ∨ e = .timeout ∨ e = .protocolFault ∨ e = .linkLost ∨ e = .grantLost
          ∨ e = .hostReadError →
        SlotEnds s t k e.failure ((s.part.slot k).progress + n) (s.part.slot k).retries
          (o.oldValue.getD 0#32))
      ∧ (e = .clean → ReportSettles s.part o k e n →
        (o.opcode = .compareSwap → o.oldValue.getD 0#32 = recCompare (s.part.slot k).record) →
        ChainGoesOn s t k)

/-- A READ that fails after acknowledged beats delivers them before it reports, with the failure kept;
the failures are FAULT, a RETRY to a read beat, wrong parity and the response limit. A delivery that fails
settles the slot HOST_WRITE_ERROR with those bytes (R54, R55, R63, R64, R65). That a failed delivery may be
one that could not be issued is the model's choice (notes/assumptions/37.md). -/
def Obligations.FailedReadsDeliverWhatWasAcknowledged : Prop :=
  (∀ (s : State) (c : Instr) (o : Operation) (k : Fin 8) (ph : Phase) (e : OperationEnd),
    Settled s.part → s.part.engine.state ≠ .failed → Driving s.part o k ph → o.opcode = .read →
    0 < o.acked → o.lockHeld = false →
    ((∃ ad, c = .targetAnswer .fault ad true) ∧ e = .fault)
      ∨ ((∃ ad, c = .targetAnswer .retry ad true) ∧ ph = .readBeat ∧ e = .protocolFault)
      ∨ ((∃ a ad, c = .targetAnswer a ad false) ∧ e = .protocolFault)
      ∨ (c = .responseLimitExpiry ∧ e = .timeout) →
    ∃ t, exec c s = .next t
      ∧ t.part.master = { s.part.master with
          state := .delivering, operation := some { o with phase := none, ending := e } }
      ∧ t.part.request .master = some (.write
          (recBuffer (s.part.slot k).record + BitVec.ofNat 64 o.start)
          (s.part.master.staging.take (o.acked * o.width)))
      ∧ t.part.out = s.part.out ++ (if e = .fault then [] else [.phase .abort 0#32 0])
      ∧ OnlyChanges [.master, .host, .out] s t)
  ∧ ∀ (s : State) (o : Operation) (k : Fin 8), s.part.writeFailable .master = true →
    s.part.engine.state ≠ .failed → s.part.master.state = .delivering →
    s.part.master.operation = some o → o.slot = some k → (s.part.slot k).preSettled = none →
    ∃ t, exec (.readDataWriteDone false) s = .next t ∧ t.part.master = Master.reset
      ∧ SlotEnds s t k .hostWriteError ((s.part.slot k).progress + o.acked * o.width)
          ((s.part.slot k).retries + if o.ending = .retry then 1 else 0) (o.oldValue.getD 0#32)

/-- A write-data read reaches the burst that asked for it: a stale one is discarded whatever it brings,
and the data of a FETCHING burst is staged and the burst drives its first phase, the one the page table
gives in a PAGED window and its address phase otherwise (R46, R48, R56, R57, R84, R85). -/
def Obligations.WriteDataReachesItsBurst : Prop :=
  (∀ (s : State) (r : Option BurstData), Settled s.part → s.part.readOutstanding .master = true →
    s.part.staleOutstanding = true →
    exec (.writeDataReadDone r) s = .next { s with part := { s.part with
      host := { s.part.host with outstanding := none } } })
  ∧ ∀ (s : State) (data : BurstData) (o : Operation) (k : Fin 8), Settled s.part →
    s.part.readOutstanding .master = true → s.part.staleOutstanding = false →
    s.part.master.state = .fetching → s.part.master.operation = some o → o.slot = some k →
    ∃ t, exec (.writeDataReadDone (some data)) s = .next t
      ∧ t.part.master.state = .driving
      ∧ t.part.master.staging = data.toList.take o.bytes
      ∧ t.part.master.operation = some { o with
          phase := some (s.part.openingPhase o), elapsed := 0, limit := s.part.burstLimit o }
      ∧ t.part.host.outstanding = none
      ∧ t.part.out = s.part.out ++ [.phase (s.part.openingPhase o).code
          (s.part.phaseAd o (s.part.openingPhase o)) ((s.part.openingPhase o).beatCount o)]
      ∧ t.part.stats = (s.part.countPage o).stats
      ∧ (∀ j, t.part.slot j = { s.part.slot j with deferred := false })
      ∧ t.part.windows = s.part.windows ∧ t.part.fetch = s.part.fetch
      ∧ t.part.compl.fifo = s.part.compl.fifo

/-- A timeout counts against the operation's window, and where the count then equals a fence limit other
than 0 an OPEN window goes FENCED, a DRAINING one takes the drain outcome FENCED, and the window joins the
pending WINDOW_FENCED event, whose entry is asked for at once where nothing earlier waits; every slot of the
window whose order conditions hold is considered at that event and loses DEFERRED (notes/assumptions/45.md,
the model's choice against R77's last words on slots); a window already fenced is not fenced again; at a
count of 15, and with any other count, the window's state stays (R27, R28, R64, R76, R77, R139, R140). That
a READ with acknowledged beats reports at once in FAILED, and that the entry carries the port state as the
event leaves it, are the model's choice (notes/assumptions/19.md and 9.md). -/
def Obligations.TimeoutsFenceTheWindow : Prop :=
  ∀ (s : State) (o : Operation) (ph : Phase) (w : Fin 16) (l : BitVec 16),
    s.part.waitingPhase = some (o, ph) → o.window = some w →
    o.slot = none ∨ o.opcode ≠ .read ∨ o.acked = 0 ∨ s.part.engine.state = .failed →
    (s.part.window w).timeouts ≤ 15 →
    l = s.part.notices.fenced.getD 0#16 ||| (1#16 <<< w.val) →
    ∃ t, exec .responseLimitExpiry s = .next t
      ∧ (t.part.window w).timeouts = min 15 ((s.part.window w).timeouts + 1)
      ∧ ((s.part.window w).timeouts < 15 →
          (s.part.window w).timeouts + 1 = (s.part.window w).fenceLimit →
        ((s.part.window w).state = .opened → (t.part.window w).state = .fenced)
        ∧ ((s.part.window w).state = .draining → (t.part.window w).state = .draining
          ∧ (t.part.window w).drain = .fenced)
        ∧ ((s.part.window w).state = .opened
            ∨ ((s.part.window w).state = .draining ∧ (s.part.window w).drain = .run) →
          (s.part.notices.write.isSome = true ∨ s.part.engine.state ≠ .running
              ∨ s.part.notices.ring.present = false ∨ s.part.notices.ring.freeEntries = 0
              ∨ s.part.notices.attached = true ∨ s.part.notices.detached.isSome = true →
            t.part.notices.fenced = some l)
          ∧ (s.part.notices.write = none → s.part.engine.state = .running →
            s.part.notices.ring.present = true → 1 ≤ s.part.notices.ring.freeEntries →
            s.part.notices.attached = false → s.part.notices.detached = none →
            t.part.notices.fenced = none
            ∧ t.part.notices.write = some { buffer := none, urgent := false }
            ∧ t.part.request .notices = some (.write
                (s.part.notices.ring.base
                  + BitVec.ofNat 64 (32 * s.part.notices.ring.producer))
                (noticeEntry s.part.notices.sourceNode (BitVec.ofNat 16 t.part.port.state.code) 3
                  true false none 0#32 0#32 l.toNat s.part.notices.ring.phase)))
          ∧ t.part.stats.merged =
            (if s.part.notices.fenced.isSome then satSucc s.part.stats.merged
              else s.part.stats.merged)
          ∧ (s.part.engine.state ≠ .failed → ∀ j, (t.part.slot j).window = some w →
            t.part.orderMet (t.part.slot j) = true → (t.part.slot j).deferred = false))
        ∧ ((s.part.window w).state = .fenced
            ∨ ((s.part.window w).state = .draining ∧ (s.part.window w).drain = .fenced) →
          (t.part.window w).state = (s.part.window w).state
          ∧ (t.part.window w).drain = (s.part.window w).drain
          ∧ t.part.stats.merged = s.part.stats.merged
          ∧ (s.part.notices.fenced = none → t.part.notices.fenced = none)))
      ∧ ((s.part.window w).timeouts = 15
          ∨ (s.part.window w).timeouts + 1 ≠ (s.part.window w).fenceLimit →
        (t.part.window w).state = (s.part.window w).state
        ∧ (t.part.window w).drain = (s.part.window w).drain)
      ∧ (∀ v, v ≠ w → (t.part.window v).state = (s.part.window v).state
        ∧ (t.part.window v).drain = (s.part.window v).drain)

/-- A settle-only slot settles with its status, the oldest first, with no burst and no part of the
Master; its bytes done are 0 where it was pre-settled or is SKIPPED and its progress otherwise. A MARKER
whose order is met is settle-only with SUCCESS unless it was pre-settled, skipped or read as fenced, and
is never bus-eligible. A settlement of a CHAIN record gives the next record's slot, where it waits, the
outcome SUCCESS after SUCCESS and FAILED after any other status; one with SUCCESS begins a chain hold where
that record is on its way. Which slots meet the order conditions, are settle-only and with which status, and
are bus-eligible, is as R27 to R30 say: DEFERRED bars every slot but one whose window is read as fenced;
the first that holds of a FAILED chain outcome, a pre-settled status, a fenced window and a MARKER gives the
status (R11, R26, R27, R28, R29, R30, R40, R41, R45, R62). That one slot settles at a time, the oldest
first, is the model's choice (notes/assumptions/31.md). -/
def Obligations.SettleOnlySlotsSettleOldestFirst : Prop :=
  (∀ (s : State) (k : Fin 8) (st : Status), s.part.engine.state = .running →
    k ∈ s.part.sched.age → s.part.settleStatus (s.part.slot k) = some st →
    (∀ j ∈ s.part.sched.age, (s.part.settleStatus (s.part.slot j)).isSome = true →
      s.part.sched.age.idxOf k ≤ s.part.sched.age.idxOf j) →
    ∃ t, exec .settleOnlySettlement s = .next t
      ∧ SlotEnds s t k st
          (if (s.part.slot k).preSettled.isSome ∨ st = .skipped then 0
            else (s.part.slot k).progress)
          (s.part.slot k).retries 0#32
      ∧ (st = .success → ChainGoesOn s t k)
      ∧ t.part.master = s.part.master ∧ t.part.stats.bursts = s.part.stats.bursts
      ∧ t.part.out = s.part.out ∧ t.pending = s.pending)
  ∧ (∀ s : State, s.part.engine.state ≠ .running
      ∨ (∀ j ∈ s.part.sched.age, s.part.settleStatus (s.part.slot j) = none) →
    exec .settleOnlySettlement s = .next s)
  ∧ (∀ (p : Part) (x : Slot),
    (p.orderMet x = true ↔ OrderMet p x)
    ∧ (p.settleStatus x = none ↔ ¬OrderMet p x ∨ (x.deferred = true ∧ ¬ReadsFenced p x)
      ∨ (x.chain ≠ .failed ∧ x.preSettled = none ∧ ¬ReadsFenced p x
        ∧ recOpcode x.record ≠ some .marker))
    ∧ (∀ st, OrderMet p x → x.deferred = false ∨ ReadsFenced p x → (p.settleStatus x = some st ↔
      (x.chain = .failed ∧ st = .skipped)
      ∨ (x.chain ≠ .failed ∧ x.preSettled = some st)
      ∨ (x.chain ≠ .failed ∧ x.preSettled = none ∧ ReadsFenced p x ∧ st = .windowFenced)
      ∨ (x.chain ≠ .failed ∧ x.preSettled = none ∧ ¬ReadsFenced p x
        ∧ recOpcode x.record = some .marker ∧ st = .success)))
    ∧ (p.busEligible x = true ↔ OrderMet p x ∧ x.deferred = false ∧ x.chain ≠ .failed
      ∧ x.preSettled = none ∧ ¬ReadsFenced p x ∧ recOpcode x.record ≠ some .marker))
  ∧ ∀ (p : Part) (x : Slot), recOpcode x.record = some .marker →
    p.busEligible x = false
    ∧ (p.orderMet x = true → x.deferred = false → x.chain ≠ .failed → x.preSettled = none →
      p.slotFenced x = false → p.settleStatus x = some .success)

/-- A settlement with an error status, of whatever cause, in an ACTIVE ring under HALT policy halts the
ring: halted-at is the settled index, every HELD slot of the ring is returned without a completion and
counted, the held count falls by them and the settled slot, F goes back to the returned position nearest to
C, a record of the ring in the admission register is discarded and a fetch in flight is marked for discard,
and the reservations of what is returned or discarded are released; slots of other rings stay, but for
DEFERRED where a tenure ends or a window is found fenced. In a HALTED ring halted-at is only set where it
was none (R5, R16, R17, R28, R30, R43, R116). That one settle-only slot settles at a time, and that a
failing report may be of an access that could not be issued, are the model's choice (notes/assumptions/31.md
and 37.md). -/
def Obligations.HaltByErrorReturnsHeldSlots : Prop :=
  ∀ (s : State) (c : Instr) (k : Fin 8) (st : Status) (r : Fin 8) (l : List (Fin 8)),
    ErrorSettles s.part c k st → (s.part.slot k).ring = r →
    l = ((List.finRange 8).filter fun j => j != k && (s.part.slot j).state == .held
      && (s.part.slot j).ring == r) →
    ((s.part.ring r).state = .active → (s.part.ring r).policy = .halt →
      ∃ t, exec c s = .next t
        ∧ (t.part.ring r).state = .halted
        ∧ (t.part.ring r).haltedAt = some (s.part.slot k).index
        ∧ (t.part.ring r).consumer = ((s.part.ring r).settleAt (s.part.slot k).index
            (linkOf (s.part.slot k).record st)).consumer
        ∧ (∀ j ∈ l, t.part.slot j = .empty)
        ∧ (∀ j, j ≠ k → (s.part.slot j).ring ≠ r → t.part.slot j = t.part.considered { s.part.slot j with
            deferred := if c = .gntDrop ∨ c = .linkLoss ∨ c = .backplaneReset then false
              else (s.part.slot j).deferred })
        ∧ (t.part.ring r).heldCount = (s.part.ring r).heldCount - 1 - l.length
        ∧ t.part.stats.returns = satSucc^[l.length] s.part.stats.returns
        ∧ (l = [] → (t.part.ring r).fetchIndex = (s.part.ring r).fetchIndex)
        ∧ (∀ j ∈ l, (∀ i ∈ l, (t.part.ring r).spanOffset (s.part.slot j).index
              ≤ (t.part.ring r).spanOffset (s.part.slot i).index) →
            (t.part.ring r).fetchIndex = (SubmissionRing.skipFetch { t.part.ring r with
              fetchIndex := ((t.part.ring r).consumer
                + (t.part.ring r).spanOffset (s.part.slot j).index) % (s.part.ring r).size
                }).fetchIndex)
        ∧ (∀ a, s.part.fetch.admission = some a → t.part.fetch.admission =
            if a.ring = r then none else some a)
        ∧ (∀ f, s.part.fetch.flight = some f → t.part.fetch.flight =
            some { f with discard := f.discard || f.ring == r })
        ∧ ((∀ f, s.part.admin.state ≠ .waiting (.flushRing f)) →
          ∀ d, (t.part.cring d).reserved = (s.part.cring d).reserved
            - (l.countP fun j => (s.part.slot j).reservation == some d)
            - (s.part.fetch.admission.toList.countP fun a => a.ring == r && a.reservation == d)))
    ∧ ((s.part.ring r).state = .halted →
      ∃ t, exec c s = .next t
        ∧ (t.part.ring r).state = .halted
        ∧ (t.part.ring r).haltedAt =
            some ((s.part.ring r).haltedAt.getD (s.part.slot k).index))

/-- An open timer that runs out marks its OPEN bank due-to-close with a close request, and does nothing
to any other bank. A close operation is taken by an IDLE Master: in OWNER for the first OPEN bank, by
window and then bank, that is marked and requested, in RELEASING for the first OPEN bank; it drives one
CLOSE. Where there is none, nothing happens (R68, R83, R88, R89, R90). -/
def Obligations.OpenTimersAskForCloses : Prop :=
  (∀ (s : State) (w : Fin 16) (b : Fin 4), ∃ t, exec (.openTimerExpiry w b) s = .next t
    ∧ (∀ x, (s.part.window w).banks[b.val]? = some x → x.state = .opened →
      (t.part.window w).banks[b.val]? =
        some { x with timer := 0, dueToClose := true, closeRequest := true })
    ∧ (∀ x, (s.part.window w).banks[b.val]? = some x → x.state ≠ .opened →
      (t.part.window w).banks[b.val]? = some x)
    ∧ (∀ v c, v ≠ w ∨ c ≠ b.val →
      (t.part.window v).banks[c]? = (s.part.window v).banks[c]?)
    ∧ OnlyChanges [.windows] s t)
  ∧ (∀ (s : State) (w : Fin 16) (b : Fin 4) (x : Bank), Settled s.part →
    s.part.master.state = .idle → (s.part.window w).banks[b.val]? = some x → x.state = .opened →
    ((s.part.port.state = .owner ∧ x.dueToClose = true ∧ x.closeRequest = true
        ∧ ∀ (v : Fin 16) (c : Fin 4) (y : Bank), (s.part.window v).banks[c.val]? = some y →
          y.state = .opened → y.dueToClose = true → y.closeRequest = true →
          w < v ∨ (w = v ∧ b ≤ c))
      ∨ (s.part.port.state = .releasing
        ∧ ∀ (v : Fin 16) (c : Fin 4) (y : Bank), (s.part.window v).banks[c.val]? = some y →
          y.state = .opened → w < v ∨ (w = v ∧ b ≤ c))) →
    ∃ t, exec .closeOperation s = .next t
      ∧ t.part.master.state = .closing
      ∧ (∃ o, t.part.master.operation = some o ∧ o.slot = none ∧ o.window = some w
        ∧ o.bank = b.val ∧ o.phase = some .closePage ∧ o.elapsed = 0
        ∧ o.limit = responseLimit (s.part.window w).limitClass)
      ∧ (t.part.window w).banks[b.val]? = some { x with closeRequest := false }
      ∧ (∀ v c, v ≠ w ∨ c ≠ b.val →
        (t.part.window v).banks[c]? = (s.part.window v).banks[c]?)
      ∧ t.part.out = s.part.out ++ [.phase .closePage ((s.part.window w).closeAddress b.val) 0]
      ∧ OnlyChanges [.windows, .master, .out] s t)
  ∧ ∀ s : State, s.part.master.state ≠ .idle
      ∨ (s.part.port.state ≠ .owner ∧ s.part.port.state ≠ .releasing)
      ∨ (s.part.port.state = .owner
        ∧ ∀ (w : Fin 16) (b : Fin 4) (x : Bank), (s.part.window w).banks[b.val]? = some x →
          ¬(x.state = .opened ∧ x.dueToClose = true ∧ x.closeRequest = true))
      ∨ (s.part.port.state = .releasing
        ∧ ∀ (w : Fin 16) (b : Fin 4) (x : Bank), (s.part.window w).banks[b.val]? = some x →
          x.state ≠ .opened) →
    exec .closeOperation s = .next s

/-- A close operation ends with the Master IDLE and no slot touched, but that slots of a window that its
timeout fences are considered and lose DEFERRED (R28, R77; notes/assumptions/45.md): ACK leaves the bank
CLOSED and is a clean end, FAULT leaves it UNKNOWN, and a timeout, a RETRY or wrong parity drives ABORT and
leaves it UNKNOWN, each with its counts; a protocol fault that brings the error count to 16 makes the port
leave, RELEASING under the mark ERROR_LIMIT, without a chain hold (R45, R67, R68, R83, R108). That a clean
close lowers the error count after the limit too is the model's choice (notes/assumptions/39.md). -/
def Obligations.CloseOperationsEnd : Prop :=
  ∀ (s : State) (o : Operation) (w : Fin 16) (c : Instr) (e : OperationEnd), Settled s.part →
    s.part.master.state = .closing → s.part.master.operation = some o → o.slot = none →
    o.phase = some .closePage → o.window = some w → o.lockHeld = false →
    s.part.port.errorCount ≤ 16 →
    ((∃ ad, c = .targetAnswer .ack ad true) ∧ e = .clean)
      ∨ ((∃ ad, c = .targetAnswer .fault ad true) ∧ e = .fault)
      ∨ ((∃ ad, c = .targetAnswer .retry ad true) ∧ e = .protocolFault)
      ∨ ((∃ a ad, c = .targetAnswer a ad false) ∧ e = .protocolFault)
      ∨ (c = .responseLimitExpiry ∧ e = .timeout) →
    ∃ t, exec c s = .next t
      ∧ t.part.master = Master.reset
      ∧ ((t.part.window w).state = (s.part.window w).state →
        (t.part.window w).drain = (s.part.window w).drain → t.part.sched = s.part.sched)
      ∧ ((t.part.window w).state ≠ (s.part.window w).state
          ∨ (t.part.window w).drain ≠ (s.part.window w).drain →
        (∀ j, t.part.slot j = t.part.considered (s.part.slot j))
        ∧ t.part.sched = { s.part.sched with slots := t.part.sched.slots })
      ∧ (t.part.window w).banks = (s.part.window w).banks.set o.bank
          (if e = .clean then Bank.closed else Bank.unknown)
      ∧ (t.part.window w).timeouts =
          (if e = .timeout then min 15 ((s.part.window w).timeouts + 1) else 0)
      ∧ (∀ v, v ≠ w → t.part.window v = s.part.window v)
      ∧ t.part.port.errorCount = (match e with
          | .clean => s.part.port.errorCount - 1
          | .protocolFault => min 16 (s.part.port.errorCount + 1)
          | _ => s.part.port.errorCount)
      ∧ (e = .protocolFault → s.part.port.errorCount = 15 → LeavesAtLimit s t)
      ∧ (e ≠ .protocolFault ∨ s.part.port.errorCount ≠ 15 →
        t.part.port.mark = s.part.port.mark)
      ∧ t.part.stats.bursts = s.part.stats.bursts
      ∧ t.part.out = s.part.out ++
          (if e = .timeout ∨ e = .protocolFault then [.phase .abort 0#32 0] else [])
      ∧ t.part.compl.fifo = s.part.compl.fifo

/-! ### Ownership and supervision -/

/-- A rise of GNT makes a REQUESTING port OWNER and begins a tenure; with WDR already asserted, and for
a late grant in IDLE, the port goes straight to RELEASING; a notice being received is dropped. In
DETACHED and JOINING only the line changes, and a GNT that is high does not rise (R99, R100, R102,
R132). -/
def Obligations.GrantsBeginTenures : Prop :=
  (∀ s : State, Settled s.part → s.part.port.gnt = false →
    (s.part.port.state = .requesting → s.part.port.wdr = false → exec .gntRise s =
      .next { s with part := { s.part with
        port := { s.part.port with gnt := true, state := .owner, tenure := true }
        notices := { s.part.notices with buffer := s.part.notices.buffer.map fun e =>
          if e.state = .receiving then .empty else e } } })
    ∧ ((s.part.port.state = .requesting ∧ s.part.port.wdr = true ∧ s.part.master.state = .idle)
        ∨ s.part.port.state = .idle → exec .gntRise s =
      .next { s with part := { s.part with
        port := { s.part.port with gnt := true, state := .releasing, tenure := true }
        notices := { s.part.notices with buffer := s.part.notices.buffer.map fun e =>
          if e.state = .receiving then .empty else e } } })
    ∧ (s.part.port.state = .detached ∨ s.part.port.state = .joining → exec .gntRise s =
      .next { s with part := { s.part with port := { s.part.port with gnt := true } } }))
  ∧ ∀ s : State, s.part.port.gnt = true → exec .gntRise s = .next s

/-- A release is complete, and REQ drops, once no bank is OPEN and the Master is IDLE in RELEASING. The
drop of GNT then ends the tenure: its flags and every DEFERRED flag clear and the port goes to DETACHED
under a detach mark or in FAILED, to REQUESTING where a slot is bus-eligible, and to IDLE otherwise. A
drop without a tenure changes the line, and lets an IDLE port request (R90, R93, R97, R99, R104, R106,
R108, R111). That DEFERRED clears in FAILED too is the model's choice (notes/assumptions/38.md). -/
def Obligations.TenuresEndWithTheGrant : Prop :=
  (∀ s : State, s.part.port.state = .releasing → s.part.master.state = .idle →
    s.part.anyBankOpen = false → exec .releaseComplete s =
      .next { s with part := { s.part with port := { s.part.port with req := false, lvl := 3 } } })
  ∧ (∀ s : State, s.part.port.state ≠ .releasing ∨ s.part.master.state ≠ .idle
      ∨ s.part.anyBankOpen = true → exec .releaseComplete s = .next s)
  ∧ (∀ s : State, s.part.port.gnt = true → s.part.port.tenure = true →
    s.part.port.state = .releasing → s.part.port.req = false →
    ∃ t, exec .gntDrop s = .next t
      ∧ t.part.port.gnt = false ∧ t.part.port.tenure = false ∧ t.part.port.chainHold = none
      ∧ (∀ k, t.part.slot k = { s.part.slot k with deferred := false })
      ∧ t.part.windows = s.part.windows ∧ t.part.port.errorCount = s.part.port.errorCount
      ∧ (s.part.engine.state = .failed →
          t.part.port.state = .detached ∧ t.part.notices.detached = s.part.notices.detached)
      ∧ (∀ cause, s.part.port.mark.cause = some cause → s.part.engine.state.alive = true →
          t.part.port.state = .detached ∧ t.part.port.mark = .none ∧ DetachTold s t cause
            ∧ DetachEnds s t cause)
      ∧ (s.part.port.mark = .none → s.part.engine.state ≠ .failed → t.part.reportedSet = [] →
          t.part.port.state = .idle ∧ t.part.port.req = false ∧ t.part.port.lvl = 3)
      ∧ (s.part.port.mark = .none → s.part.engine.state ≠ .failed → t.part.reportedSet ≠ [] →
          t.part.port.state = .requesting ∧ t.part.port.req = true
            ∧ some t.part.port.lvl = t.part.requestLevel)
      ∧ t.part.master = s.part.master ∧ t.part.out = s.part.out)
  ∧ (∀ s : State, Settled s.part → s.part.port.gnt = true → s.part.port.tenure = false →
    ∃ t, exec .gntDrop s = .next t ∧ t.part.port.gnt = false ∧ OnlyChanges [.port] s t
      ∧ (s.part.port.state = .idle → s.part.reportedSet ≠ [] →
          t.part.port.state = .requesting ∧ t.part.port.req = true)
      ∧ (s.part.port.state ≠ .idle ∨ s.part.reportedSet = [] →
          t.part.port = { s.part.port with gnt := false }))
  ∧ ∀ s : State, s.part.port.gnt = false → exec .gntDrop s = .next s

/-- A drop of GNT in OWNER, YIELDING, or RELEASING with REQ raised is an unexpected loss of grant: the
tenure is cut with BUS_ERROR, the error count rises by 1, and the port goes to DETACHED under a mark, in
FAILED or where the count comes to 16, and otherwise to REQUESTING or IDLE as the bus-eligible set has it.
That FAILED goes to DETACHED, that an unissued read of an abandoned burst keeps waiting, stale, and that
DEFERRED clears in FAILED too, is the model's choice (notes/assumptions/22.md, 6.md and 38.md) (R56, R66,
R91, R105, R108, R111). -/
def Obligations.UnexpectedLossOfGrant : Prop :=
  ∀ s : State, s.part.port.gnt = true → s.part.port.tenure = true →
    s.part.port.state = .owner ∨ s.part.port.state = .yielding
      ∨ (s.part.port.state = .releasing ∧ s.part.port.req = true) →
    s.part.port.errorCount ≤ 16 →
    ∃ t, exec .gntDrop s = .next t
      ∧ OwnershipCut s t .grantLost
      ∧ t.part.port.gnt = false
      ∧ t.part.port.errorCount = min 16 (s.part.port.errorCount + 1)
      ∧ (s.part.engine.state = .failed → t.part.port.state = .detached)
      ∧ (s.part.engine.state.alive = true → s.part.port.errorCount = 15 →
          t.part.port.state = .detached ∧ t.part.port.req = false ∧ DetachTold s t .errorLimit
            ∧ DetachEnds s t .errorLimit)
      ∧ (∀ cause, s.part.port.mark.cause = some cause → s.part.engine.state.alive = true →
          s.part.port.errorCount ≠ 15 →
          t.part.port.state = .detached ∧ DetachTold s t cause ∧ DetachEnds s t cause)
      ∧ (s.part.port.mark = .none → s.part.engine.state ≠ .failed → s.part.port.errorCount ≠ 15 →
          (t.part.reportedSet ≠ [] → t.part.port.state = .requesting ∧ t.part.port.req = true)
          ∧ (t.part.reportedSet = [] → t.part.port.state = .idle ∧ t.part.port.req = false))

/-- Link loss and the assertion of RST bring a port in any state but DETACHED to DETACHED, with REQ low,
LVL 3, the join timer stopped, the mark clear, the error count unchanged, ownership cut with LINK_LOST,
the local event told with its cause and a waiting DETACH ended, save in FAILED; a DETACHED port sees only
the line change. CLK returning and RST released change only their line. That an unissued read of an
abandoned burst keeps waiting, stale, and that DEFERRED clears in FAILED too, is the model's choice
(notes/assumptions/6.md and 38.md) (R56, R66, R91, R94, R109, R111). -/
def Obligations.LinkLossAndResetDetachThePort : Prop :=
  (∀ (s : State) (c : Instr) (cause : DetachCause), s.part.port.state ≠ .detached →
    (c = .linkLoss ∧ cause = .linkLost ∧ s.part.port.clockPresent = true)
      ∨ (c = .backplaneReset ∧ cause = .backplaneReset ∧ s.part.port.rst = false) →
    ∃ t, exec c s = .next t
      ∧ t.part.port = { s.part.port with
          state := .detached, mark := .none, joinTimer := 0, tenure := false, chainHold := none,
          req := false, lvl := 3
          clockPresent := if c = .linkLoss then false else s.part.port.clockPresent
          rst := if c = .linkLoss then s.part.port.rst else true }
      ∧ OwnershipCut s t .linkLost
      ∧ (∀ b, (t.part.entry b).state ≠ .receiving)
      ∧ (s.part.engine.state.alive = true → DetachTold s t cause ∧ DetachEnds s t cause)
      ∧ (s.part.engine.state = .failed → t.part.notices.detached = s.part.notices.detached))
  ∧ (∀ s : State, s.part.port.state = .detached →
    exec .linkLoss s = .next { s with part := { s.part with
      port := { s.part.port with clockPresent := false } } }
    ∧ ∃ t, exec .backplaneReset s = .next t
      ∧ t.part.port = { s.part.port with rst := true } ∧ OnlyChanges [.port, .notices] s t
      ∧ t.part.notices.detached = s.part.notices.detached)
  ∧ ∀ s : State,
    exec .clockReturn s = .next { s with part := { s.part with
      port := { s.part.port with clockPresent := true } } }
    ∧ exec .rstReleased s = .next { s with part := { s.part with
      port := { s.part.port with rst := false } } }

/-- A withdraw makes an OWNER release: at once with the Master IDLE, at once after abandoning a write
burst still FETCHING, and through YIELDING while an operation is in flight, which goes on. In every other
state, and when WDR is deasserted, only the line changes. That an unissued read of the abandoned burst
keeps waiting, stale, is the model's choice (notes/assumptions/6.md) (R35, R56, R102). -/
def Obligations.WithdrawActsOnAnOwner : Prop :=
  (∀ s : State, Settled s.part → s.part.port.state = .owner →
    (s.part.master.state = .idle → exec .withdraw s = .next { s with part := { s.part with
      port := { s.part.port with wdr := true, state := .releasing } } })
    ∧ (s.part.master.state = .driving ∨ s.part.master.state = .delivering
        ∨ s.part.master.state = .closing →
      exec .withdraw s = .next { s with part := { s.part with
        port := { s.part.port with wdr := true, state := .yielding } } })
    ∧ (∀ o k, s.part.master.state = .fetching → s.part.master.operation = some o →
      o.slot = some k →
      ∃ t, exec .withdraw s = .next t
        ∧ t.part.port.state = .releasing ∧ t.part.port.wdr = true
        ∧ t.part.master = Master.reset
        ∧ t.part.slot k = { s.part.slot k with state := .started }
        ∧ (∀ j, j ≠ k → t.part.slot j = s.part.slot j)
        ∧ t.part.request .master = none
        ∧ t.part.host.abandoned =
            s.part.host.abandoned ++ (s.part.request .master).toList
        ∧ (∀ x, s.part.host.outstanding = some x → t.part.host.outstanding =
            some { x with stale := x.stale || x.source == .master })
        ∧ OnlyChanges [.host, .sched, .master, .port] s t))
  ∧ (∀ s : State, s.part.port.state ≠ .owner → exec .withdraw s =
      .next { s with part := { s.part with port := { s.part.port with wdr := true } } })
  ∧ ∀ s : State, exec .wdrDeasserted s =
      .next { s with part := { s.part with port := { s.part.port with wdr := false } } }

/-- Phase activity reloads the join timer in JOINING with 32 µs, and a phase other than DATA ends a
notice reception. When the join timer runs out the port goes to IDLE, with ATTACHED pending, and from
there at once to REQUESTING where a slot is bus-eligible and GNT is low, the last at one event as the model
has chosen (notes/assumptions/23.md) (R96, R97, R132). -/
def Obligations.JoiningWaitsForQuiet : Prop :=
  (∀ (s : State) (code : PhaseCode), exec (.phaseActivity code) s =
    .next { s with part := { s.part with
      port := { s.part.port with joinTimer :=
        if s.part.port.state = .joining then 32 else s.part.port.joinTimer }
      notices := { s.part.notices with buffer := s.part.notices.buffer.map fun e =>
        if code ≠ .data ∧ e.state = .receiving then .empty else e } } })
  ∧ (∀ s : State, s.part.port.state = .joining → s.part.engine.state.alive = true →
    ∃ t, exec .joinTimerExpiry s = .next t
      ∧ t.part.port.joinTimer = 0
      ∧ (s.part.reportedSet = [] ∨ s.part.port.gnt = true → t.part.port.state = .idle)
      ∧ (s.part.reportedSet ≠ [] → s.part.port.gnt = false →
          t.part.port.state = .requesting ∧ t.part.port.req = true)
      ∧ (t.part.notices.attached = true
          ∨ (s.part.notices.write = none
            ∧ t.part.notices.write = some { buffer := none, urgent := false }))
      ∧ t.part.sched = s.part.sched ∧ t.part.master = s.part.master ∧ t.part.out = s.part.out)
  ∧ ∀ s : State, s.part.port.state ≠ .joining → exec .joinTimerExpiry s = .next s

/-! ### Notices -/

/-- A NOTICE phase addressed to the part, with right parity, in IDLE or REQUESTING is answered: FAULT
where its beat count is not 4, ACK with the lowest-numbered free entry RECEIVING, RETRY and one more
notice refused where no entry is free; any other NOTICE phase draws no answer. A reception in hand ends
with it. Beats 0 to 2 are taken and answered ACK, a wrong parity only remembered. 1024 µs after the
address phase a RECEIVING entry becomes FREE (R131, R132). That the entry of a reception that the phase
ends is free for the phase is the model's choice (notes/assumptions/42.md). -/
def Obligations.InboundNoticesAreReceived : Prop :=
  (∀ (s : State) (ad : BusWord) (beats : Nat) (node : BitVec 5),
    s.part.port.state = .idle ∨ s.part.port.state = .requesting →
    s.part.notices.nodeId = some node → ad = node.setWidth 32 →
    (beats ≠ 4 → ∃ t, exec (.inboundNoticePhase ad beats true) s = .next t
      ∧ t.part.out = s.part.out ++ [.answer .fault]
      ∧ (∀ b, t.part.entry b =
          if (s.part.entry b).state = .receiving then .empty else s.part.entry b)
      ∧ OnlyChanges [.notices, .out] s t)
    ∧ (∀ b : Fin 4,
      (s.part.entry b).state = .free ∨ (s.part.entry b).state = .receiving →
      (∀ a, a < b → (s.part.entry a).state ≠ .free ∧ (s.part.entry a).state ≠ .receiving) →
      ∃ t, exec (.inboundNoticePhase ad 4 true) s = .next t
        ∧ t.part.out = s.part.out ++ [.answer .ack]
        ∧ t.part.entry b = { BufferEntry.empty with state := .receiving }
        ∧ (∀ a, a ≠ b → t.part.entry a =
            if (s.part.entry a).state = .receiving then .empty else s.part.entry a)
        ∧ OnlyChanges [.notices, .out] s t)
    ∧ ((∀ b, (s.part.entry b).state ≠ .free ∧ (s.part.entry b).state ≠ .receiving) →
      exec (.inboundNoticePhase ad 4 true) s = .next { s with part := { s.part with
        stats := { s.part.stats with refused := satSucc s.part.stats.refused }
        out := s.part.out ++ [.answer .retry] } }))
  ∧ (∀ (s : State) (ad : BusWord) (beats : Nat) (good : Bool),
    good = false ∨ (s.part.port.state ≠ .idle ∧ s.part.port.state ≠ .requesting)
      ∨ (∀ node, s.part.notices.nodeId = some node → ad ≠ node.setWidth 32) →
    exec (.inboundNoticePhase ad beats good) s = exec (.phaseActivity .notice) s
    ∧ ∃ t, exec (.phaseActivity .notice) s = .next t ∧ t.part.out = s.part.out)
  ∧ (∀ (s : State) (b : Fin 4) (ad : BusWord) (good : Bool),
    s.part.port.state = .idle ∨ s.part.port.state = .requesting →
    (∀ a, (s.part.entry a).state = .receiving ↔ a = b) → (s.part.entry b).beats < 3 →
    ∃ t, exec (.inboundNoticeBeat ad good) s = .next t
      ∧ t.part.out = s.part.out ++ [.answer .ack]
      ∧ (∀ a, a ≠ b → t.part.entry a = s.part.entry a)
      ∧ ((s.part.entry b).beats = 0 → t.part.entry b = { s.part.entry b with
          code := ad.extractLsb' 0 16, source := ad.extractLsb' 16 16, beats := 1
          bad := (s.part.entry b).bad || !good })
      ∧ ((s.part.entry b).beats = 1 → t.part.entry b = { s.part.entry b with
          payloadLow := ad, beats := 2, bad := (s.part.entry b).bad || !good })
      ∧ ((s.part.entry b).beats = 2 → t.part.entry b = { s.part.entry b with
          payloadHigh := ad, beats := 3, bad := (s.part.entry b).bad || !good })
      ∧ OnlyChanges [.notices, .out] s t)
  ∧ ∀ s : State, exec .noticeReceiveTimeout s = .next { s with part := { s.part with
      notices := { s.part.notices with buffer := s.part.notices.buffer.map fun e =>
        if e.state = .receiving then .empty else e } } }

/-- Beat 3 of a notice whose beats all had right parity and whose check word is the inverse of the
exclusive-or of beats 0 to 2 is answered ACK and the filter decides: the lowest-numbered enabled entry
that matches gives the action, the default action where none does; a rejected notice frees its entry and
is counted, an accepted one takes the arrival number and is counted. A wrong check word or parity is
answered FAULT, frees the entry and raises the port error count (R107, R133, R134, R135). -/
def Obligations.CheckWordAndFilterDecideANotice : Prop :=
  ∀ (s : State) (b : Fin 4) (ad : BusWord) (good : Bool) (e : BufferEntry), Settled s.part →
    s.part.port.state = .idle ∨ s.part.port.state = .requesting →
    (∀ a, (s.part.entry a).state = .receiving ↔ a = b) → e = s.part.entry b → e.beats = 3 →
    s.part.port.errorCount ≤ 16 →
    (good = true → e.bad = false →
      ad = ~~~((e.source ++ e.code) ^^^ e.payloadLow ^^^ e.payloadHigh) →
      ∀ (action : FilterAction) (f : Option (Fin 16)),
      ((∃ i, f = some i ∧ (s.part.notices.filters.get i).matches e = true
          ∧ (∀ j, j < i → (s.part.notices.filters.get j).matches e = false)
          ∧ action = (s.part.notices.filters.get i).action)
        ∨ (f = none ∧ (∀ i, (s.part.notices.filters.get i).matches e = false)
          ∧ action = if s.part.notices.defaultAccept then .accept else .reject)) →
      ∃ t, exec (.inboundCheckWord ad good) s = .next t
        ∧ t.part.out = s.part.out ++ [.answer .ack] ∧ t.part.port = s.part.port
        ∧ (∀ a, a ≠ b → (t.part.entry a).source = (s.part.entry a).source
          ∧ (t.part.entry a).code = (s.part.entry a).code)
        ∧ (action = .reject → t.part.entry b = .empty
          ∧ t.part.stats = { s.part.stats with rejected := satSucc s.part.stats.rejected }
          ∧ t.part.notices.arrival = s.part.notices.arrival)
        ∧ (action = .accept ∨ action = .urgent →
          (∃ st, (st = .accepted ∨ st = .writing) ∧ t.part.entry b = { e with
            state := st, filter := f, urgent := action == .urgent
            arrival := s.part.notices.arrival })
          ∧ t.part.notices.arrival = s.part.notices.arrival + 1#32
          ∧ t.part.stats = { s.part.stats with
              accepted := satSucc s.part.stats.accepted
              urgent := if action = .urgent then satSucc s.part.stats.urgent
                else s.part.stats.urgent }))
    ∧ (good = false ∨ e.bad = true
        ∨ ad ≠ ~~~((e.source ++ e.code) ^^^ e.payloadLow ^^^ e.payloadHigh) →
      ∃ t, exec (.inboundCheckWord ad good) s = .next t
        ∧ t.part.out = s.part.out ++ [.answer .fault] ∧ t.part.entry b = .empty
        ∧ t.part.port.errorCount = min 16 (s.part.port.errorCount + 1)
        ∧ (s.part.port.errorCount = 15 → t.part.port.state = .detached)
        ∧ (s.part.port.errorCount ≠ 15 → t.part.port.state = s.part.port.state)
        ∧ t.part.stats.accepted = s.part.stats.accepted
        ∧ t.part.stats.rejected = s.part.stats.rejected
        ∧ t.part.notices.arrival = s.part.notices.arrival)

/-! ### Posting -/

/-- What has waited longest for the posting FIFO enters it where it has room and the engine is RUNNING,
QUIESCING or QUIESCED: a POSTING slot hands its completion over and goes FREE and every eviction bar
clears; a FLUSHED completion only enters. A completion entry write that is done takes its completion off
the FIFO and consumes its reservation; the ring's producer index advances, its phase inverts on the wrap,
and an armed ring is disarmed with its one signal, a message or, for a vector held back, its pending flag;
the next entry is asked for, 32 bytes with the
fields of R177 and the submission ring's consumer index and the phase of that moment (R14, R41, R42, R118,
R119, R120, R121, R124, R177). -/
def Obligations.CompletionsAreHandedOverAndPosted : Prop :=
  (∀ (s : State) (k : Fin 8) (rest : List Waiter), s.part.engine.state.alive = true →
    s.part.compl.fifo.length < 8 → s.part.sched.waiters = .slot k :: rest →
    ∃ t, exec .postingHandover s = .next t
      ∧ t.part.slot k = .empty ∧ t.part.sched.waiters = rest
      ∧ (∀ j, j ≠ k → t.part.slot j = s.part.slot j)
      ∧ t.part.compl.fifo = s.part.compl.fifo ++
        [{ tag := recTag (s.part.slot k).record, ring := (s.part.slot k).ring,
           index := (s.part.slot k).index,
           status := (s.part.slot k).finalStatus.getD .success,
           bytesDone := if (s.part.slot k).preSettled.isSome = true
               ∨ (s.part.slot k).finalStatus = some .skipped then 0
             else (s.part.slot k).progress,
           retries := (s.part.slot k).retries, result := (s.part.slot k).result,
           reservation := (s.part.slot k).reservation.getD 0 }]
      ∧ (∀ r, t.part.ring r = { s.part.ring r with evictionBar := false })
      ∧ OnlyChanges [.host, .fetch, .sched, .port, .admin, .notices, .compl] s t)
  ∧ (∀ (s : State) (c : Completion) (rest : List Waiter), s.part.engine.state.alive = true →
    s.part.compl.fifo.length < 8 → s.part.sched.waiters = .flushed c :: rest →
    ∃ t, exec .postingHandover s = .next t
      ∧ t.part.compl.fifo = s.part.compl.fifo ++ [c]
      ∧ t.part.sched = { s.part.sched with waiters := rest }
      ∧ OnlyChanges [.host, .sched, .port, .admin, .notices, .compl] s t)
  ∧ (∀ s : State, s.part.engine.state.alive = false ∨ 8 ≤ s.part.compl.fifo.length
      ∨ s.part.sched.waiters = [] → exec .postingHandover s = .next s)
  ∧ (∀ (s : State) (c : Completion) (rest : List Completion), Settled s.part →
    s.part.writeOutstanding .posting = true → s.part.compl.fifo = c :: rest →
    ∃ t, exec (.completionEntryWriteDone true) s = .next t
      ∧ t.part.compl.fifo = rest
      ∧ t.part.cring c.reservation = { s.part.cring c.reservation with
          producer := succIndex (s.part.cring c.reservation).size
            (s.part.cring c.reservation).producer
          phase := if succIndex (s.part.cring c.reservation).size
                (s.part.cring c.reservation).producer = 0
            then !(s.part.cring c.reservation).phase else (s.part.cring c.reservation).phase
          reserved := (s.part.cring c.reservation).reserved - 1
          armed := false }
      ∧ (∀ d, d ≠ c.reservation → t.part.cring d = s.part.cring d)
      ∧ Signalled s t (if (s.part.cring c.reservation).armed
          then [(s.part.cring c.reservation).vector] else [])
      ∧ (s.part.engine.state.working = true → rest ≠ [] →
          (t.part.request .posting).isSome = true)
      ∧ (rest = [] → t.part.request .posting = s.part.request .posting)
      ∧ OnlyChanges [.host, .admin, .compl, .out] s t)
  ∧ ∀ (p : Part) (c : Completion) (rest : List Completion), p.engine.state.working = true →
    p.hasAccess .posting = false → p.compl.fifo = c :: rest →
    ∃ data, p.askPosting.request .posting = some (.write
        ((p.cring c.reservation).base
          + BitVec.ofNat 64 (32 * (p.cring c.reservation).producer)) data)
      ∧ data.length = 32
      ∧ (data.take 2 = leBytes 2 c.tag.toNat ∧ data[2]? = some (BitVec.ofNat 8 c.ring.val)
        ∧ data[3]? = some c.status.code ∧ (data.drop 4).take 2 = leBytes 2 c.index
        ∧ (data.drop 6).take 2 = leBytes 2 (p.ring c.ring).consumer
        ∧ (data.drop 8).take 2 = leBytes 2 c.bytesDone
        ∧ data[10]? = some (BitVec.ofNat 8 c.retries) ∧ data[11]? = some 0#8
        ∧ (data.drop 12).take 4 = leBytes 4 c.result.toNat
        ∧ (data.drop 16).take 15 = List.replicate 15 0#8
        ∧ data[31]? = some (BitVec.ofNat 8 (p.cring c.reservation).phase.toNat))

/-- An admin completion write that is done advances the admin completion ring, disarms it with a signal on
vector 0 where it was armed, and takes the unit to IDLE, from where it fetches the next command at once in
RUNNING where one waits and an entry is free. A notice entry write that is done frees its buffer entry,
advances the notice ring, keeps an urgent entry's position, and sends and disarms the signals that are
armed: the normal one at any entry, the urgent one at an urgent entry, one message where both go to one
vector; that the normal one goes first is the model's choice (notes/assumptions/24.md). A vector held back
takes its pending flag instead. A SET_NOTICE_RING that waited for the report then takes effect (R127, R128,
R138, R140, R143, R148, R151). -/
def Obligations.AdminAndNoticeEntriesArePosted : Prop :=
  (∀ s : State, Settled s.part → s.part.writeOutstanding .adminPosting = true →
    ∃ t, exec (.adminCompletionWriteDone true) s = .next t
      ∧ t.part.compl = { s.part.compl with
          adminHeld := none
          adminRing := { s.part.compl.adminRing with
            producer := succIndex s.part.engine.areaSize s.part.compl.adminRing.producer
            phase := if succIndex s.part.engine.areaSize s.part.compl.adminRing.producer = 0
              then !s.part.compl.adminRing.phase else s.part.compl.adminRing.phase
            armed := false } }
      ∧ Signalled s t (if s.part.compl.adminRing.armed then [0] else [])
      ∧ (s.part.engine.state = .running → s.part.admin.producer ≠ s.part.admin.consumer →
          1 ≤ t.part.adminFree → t.part.admin = { s.part.admin with state := .fetching }
            ∧ t.part.request .administration = some (.read
              (s.part.engine.areaBase + BitVec.ofNat 64 (64 * s.part.admin.consumer)) 64))
      ∧ (s.part.engine.state ≠ .running ∨ s.part.admin.producer = s.part.admin.consumer
          ∨ t.part.adminFree = 0 → t.part.admin = { s.part.admin with state := .idle })
      ∧ OnlyChanges [.host, .admin, .compl, .out] s t)
  ∧ ∀ (s : State) (w : NoticeWrite) (n : NoticeRing) (l : List (Fin 16)),
    s.part.writeOutstanding .notices = true →
    s.part.notices.write = some w → n = s.part.notices.ring → s.part.engine.state.working = true →
    l = (if n.normalArmed then [n.normalVector] else [])
      ++ (if w.urgent && n.urgentArmed && !(n.normalArmed && n.normalVector == n.urgentVector)
        then [n.urgentVector] else []) →
    ((∀ base size normal urgent, s.part.admin.state ≠ .waiting (.noticeRing base size normal urgent)) →
      ∃ t, exec (.noticeEntryWriteDone true) s = .next t
        ∧ t.part.notices.ring = { n with
            producer := succIndex n.size n.producer
            phase := if succIndex n.size n.producer = 0 then !n.phase else n.phase
            lastUrgent := if w.urgent then some n.producer else n.lastUrgent
            normalArmed := false
            urgentArmed := n.urgentArmed && !w.urgent }
        ∧ (∀ b, w.buffer = some b → t.part.entry b = .empty)
        ∧ Signalled s t l)
    ∧ (∀ base size normal urgent,
      s.part.admin.state = .waiting (.noticeRing base size normal urgent) →
      ∃ t, exec (.noticeEntryWriteDone true) s = .next t
        ∧ t.part.notices.ring =
            { present := true, base := base, size := size, normalVector := normal,
              urgentVector := urgent, producer := 0, consumer := 0, phase := true,
              normalArmed := false, urgentArmed := false, armPending := false, lastUrgent := none }
        ∧ (∀ b, w.buffer = some b → t.part.entry b = .empty)
        ∧ Signalled s t l
        ∧ t.part.admin.state = .completing
        ∧ t.part.admin.consumer = succIndex s.part.engine.areaSize s.part.admin.consumer
        ∧ t.part.compl.adminHeld = some
            { tag := s.part.admin.tag, index := s.part.admin.consumer, status := .success,
              result := 0#32 })

/-! ### Admin commands -/

/-- An unknown command ends with UNKNOWN_COMMAND and no other effect. CREATE_CRING and DELETE_CRING end
with the status of the first failing check of R153, result 0 and no effect, or with SUCCESS: the ring is
PRESENT with the base, size and vector given, indices 0, phase 1, nothing reserved and not armed; or it
is ABSENT (R112, R113, R114, R150, R151, R153). -/
def Obligations.CompletionRingCommands : Prop :=
  ∀ (s : State) (rec : Block), Settled s.part → Arrives s.part →
    (∃ t, exec (.unknownCommand rec) s = .next t ∧ CommandEnds s t rec .unknownCommand 0#32
      ∧ (∀ c, t.part.cring c = s.part.cring c) ∧ t.part.compl.fifo = s.part.compl.fifo
      ∧ OnlyChanges [.host, .admin, .compl] s t)
    ∧ (7 < cmdTarget rec →
      (∃ t, exec (.createCring rec) s = .next t ∧ CommandEnds s t rec .invalidField 0#32
        ∧ (∀ c, t.part.cring c = s.part.cring c) ∧ OnlyChanges [.host, .admin, .compl] s t)
      ∧ ∃ t, exec (.deleteCring rec) s = .next t ∧ CommandEnds s t rec .invalidField 0#32
        ∧ (∀ c, t.part.cring c = s.part.cring c) ∧ OnlyChanges [.host, .admin, .compl] s t)
    ∧ ∀ (c : Fin 8), cmdTarget rec = c.val →
      (∃ t st, exec (.createCring rec) s = .next t
        ∧ st = (if (s.part.cring c).present = true then Status.alreadyExists
          else if isPowerOfTwo 16 4096 (cmdHalf rec 0x10) = false then .invalidField
          else if (longAt rec 0x08).toNat % 4096 ≠ 0 then .invalidField
          else if cmdByte rec 0x12 < 1 ∨ 15 < cmdByte rec 0x12 then .invalidField
          else .success)
        ∧ CommandEnds s t rec st 0#32 ∧ OnlyChanges [.host, .admin, .compl] s t
        ∧ (∀ d, d ≠ c → t.part.cring d = s.part.cring d)
        ∧ (st ≠ .success → t.part.cring c = s.part.cring c)
        ∧ (st = .success → t.part.cring c =
            { present := true, base := longAt rec 0x08, size := cmdHalf rec 0x10,
              vector := Fin.ofNat 16 (cmdByte rec 0x12), producer := 0, consumer := 0,
              phase := true, reserved := 0, armed := false, armPending := false }))
      ∧ ∃ t st, exec (.deleteCring rec) s = .next t
        ∧ st = (if (s.part.cring c).present = false then Status.notFound
          else if ∃ r, (s.part.ring r).state ≠ .absent ∧ (s.part.ring r).bound = c then .inUse
          else .success)
        ∧ CommandEnds s t rec st 0#32 ∧ OnlyChanges [.host, .admin, .compl] s t
        ∧ (∀ d, d ≠ c → t.part.cring d = s.part.cring d)
        ∧ (st ≠ .success → t.part.cring c = s.part.cring c)
        ∧ (st = .success → t.part.cring c = .absent)

/-- Every submission ring command with a target above 7 ends with INVALID_FIELD and no other effect.
CREATE_SRING, HALT_SRING and RESUME_SRING end at once with the first failing check's status or with
SUCCESS: a new ring is ACTIVE with the fields given, its indices, held count and span table clear; a
halted ring returns every HELD slot, which goes FREE with its reservation released, its window's in-flight
count down and its position NOT_ADMITTED, gives their number as its result and goes back to the returned
position nearest to C; a resumed ring is ACTIVE with halted-at none, which is its result as found. The port
moves with none but a settle-only settlement still to come, for which it looks ahead
(notes/assumptions/8.md, the model's choice); a creation clears every ring's eviction bar
(notes/assumptions/44.md, the model's reading) (R1, R14, R16, R18, R19, R43, R154, R155). -/
def Obligations.SubmissionRingCommands : Prop :=
  ∀ (s : State) (rec : Block), Settled s.part → Arrives s.part →
    (7 < cmdTarget rec → ∀ c, c = .createSring rec ∨ c = .deleteSring rec ∨ c = .haltSring rec
        ∨ c = .resumeSring rec ∨ c = .flushSring rec →
      ∃ t, exec c s = .next t ∧ CommandEnds s t rec .invalidField 0#32
        ∧ OnlyChanges [.host, .admin, .compl] s t)
    ∧ ∀ r : Fin 8, cmdTarget rec = r.val →
      (∃ t st, exec (.createSring rec) s = .next t
          ∧ st = (if isPowerOfTwo 16 4096 (cmdHalf rec 0x10) = false
                ∨ (longAt rec 0x08).toNat % 4096 ≠ 0 ∨ 3 < cmdByte rec 0x12
                ∨ cmdByte rec 0x13 < 1 ∨ 8 < cmdByte rec 0x13 ∨ 1 < cmdByte rec 0x14
                ∨ 15 < cmdByte rec 0x15 ∨ 1 < cmdByte rec 0x16 ∨ 7 < cmdByte rec 0x17
              then Status.invalidField
            else if (s.part.cring (Fin.ofNat 8 (cmdByte rec 0x17))).present = false then .notFound
            else if (s.part.ring r).state ≠ .absent then .alreadyExists
            else .success)
          ∧ CommandEnds s t rec st 0#32 ∧ OnlyChanges [.host, .admin, .fetch, .port, .compl] s t
          ∧ (st ≠ .success → OnlyChanges [.host, .admin, .compl] s t)
          ∧ ((∀ k, (s.part.slot k).ring = r → (s.part.slot k).state = .free) →
              s.part.settleNext = none ∨ s.part.reportedSet ≠ [] → t.part.port = s.part.port)
          ∧ t.part.fetch = { s.part.fetch with rings := t.part.fetch.rings }
          ∧ (∀ q, q ≠ r → t.part.ring q = if st = .success
              then { s.part.ring q with evictionBar := false } else s.part.ring q)
          ∧ (st = .success → t.part.ring r =
              { state := .active, base := longAt rec 0x08, size := cmdHalf rec 0x10,
                cls := Fin.ofNat 4 (cmdByte rec 0x12), quota := cmdByte rec 0x13,
                order := if cmdByte rec 0x14 = 0 then .ordered else .relaxed,
                retryLimit := cmdByte rec 0x15,
                policy := if cmdByte rec 0x16 = 0 then .continue else .halt,
                bound := Fin.ofNat 8 (cmdByte rec 0x17), producer := 0, fetchIndex := 0,
                consumer := 0, heldCount := 0, haltedAt := none, evictionBar := false,
                span := List.replicate 64 .notAdmitted, links := List.replicate 64 .none,
                linkBefore := .none }))
      ∧ (∃ t st l, exec (.haltSring rec) s = .next t
        ∧ st = (if (s.part.ring r).state = .absent then Status.notFound
            else if (s.part.ring r).state ≠ .active then .wrongState else .success)
        ∧ l = ((List.finRange 8).filter fun k => (s.part.slot k).state == .held
            && (s.part.slot k).ring == r)
        ∧ CommandEnds s t rec st (if st = .success then BitVec.ofNat 32 l.length else 0#32)
        ∧ (st ≠ .success → OnlyChanges [.host, .admin, .compl] s t)
        ∧ (st = .success → (t.part.ring r).state = .halted ∧ (t.part.ring r).haltedAt = none
          ∧ ReturnsHeld s t r l ∧ PositionsReturned s t r l
          ∧ OnlyChanges [.host, .admin, .fetch, .sched, .windows, .port, .compl, .stats] s t
          ∧ (l = [] → (t.part.ring r).fetchIndex = (s.part.ring r).fetchIndex)
          ∧ (∀ k ∈ l,
            (∀ j ∈ l, (s.part.ring r).spanOffset (s.part.slot k).index
                ≤ (s.part.ring r).spanOffset (s.part.slot j).index) →
            (t.part.ring r).fetchIndex = (SubmissionRing.skipFetch { t.part.ring r with
              fetchIndex := ((s.part.ring r).consumer
                + (s.part.ring r).spanOffset (s.part.slot k).index) % (s.part.ring r).size
                }).fetchIndex)))
      ∧ (∃ t st, exec (.resumeSring rec) s = .next t
        ∧ st = (if (s.part.ring r).state = .absent then Status.notFound
            else if (s.part.ring r).state ≠ .halted then .wrongState else .success)
        ∧ CommandEnds s t rec st (if st = .success then
            (match (s.part.ring r).haltedAt with
              | some i => BitVec.ofNat 32 i
              | none => 0xFFFFFFFF#32) else 0#32)
        ∧ OnlyChanges [.host, .admin, .fetch, .port, .compl] s t
        ∧ (st ≠ .success → OnlyChanges [.host, .admin, .compl] s t)
        ∧ (s.part.settleNext = none ∨ s.part.reportedSet ≠ [] → t.part.port = s.part.port)
        ∧ t.part.fetch = { s.part.fetch with rings := t.part.fetch.rings }
        ∧ (∀ q, q ≠ r → t.part.ring q = s.part.ring q)
        ∧ t.part.ring r = if st = .success
            then { s.part.ring r with state := .active, haltedAt := none } else s.part.ring r)

/-- DELETE_SRING returns every HELD slot without moving F (kept in DELETING, the model's choice,
notes/assumptions/33.md), discards the ring's record in the admission register, marks its fetch in flight
for discard and makes the ring DELETING, waiting with the number returned as its result; the ring goes
ABSENT, and the command ends, once its held count is 0, none of its completions awaits posting and no fetch
of it is in flight, at once where that already holds. Where several rings are due the lowest ends, the
model's choice (notes/assumptions/31.md) (R16, R21, R43, R152, R154). -/
def Obligations.DeletionWaitsForTheRingToDrain : Prop :=
  (∀ (s : State) (rec : Block) (r : Fin 8) (l : List (Fin 8)) (n : Nat), Settled s.part →
    Arrives s.part → cmdTarget rec = r.val → (∀ k, Waiter.slot k ∈ s.part.sched.waiters →
      (s.part.slot k).state = .posting) →
    l = ((List.finRange 8).filter fun k => (s.part.slot k).state == .held
        && (s.part.slot k).ring == r) → n = l.length →
    ((s.part.ring r).state = .absent ∨ (s.part.ring r).state = .deleting →
      ∃ t, exec (.deleteSring rec) s = .next t
        ∧ CommandEnds s t rec (if (s.part.ring r).state = .absent then .notFound else .wrongState)
            0#32
        ∧ OnlyChanges [.host, .admin, .compl] s t)
    ∧ ((s.part.ring r).state = .active ∨ (s.part.ring r).state = .halted →
      ∃ t, exec (.deleteSring rec) s = .next t
        ∧ ReturnsHeld s t r l
        ∧ OnlyChanges [.host, .admin, .fetch, .sched, .windows, .port, .compl, .stats] s t
        ∧ ((s.part.ring r).heldCount ≤ n → s.part.awaitsPosting r = false →
            s.part.fetching r = false →
            t.part.ring r = .absent ∧ CommandEnds s t rec .success (BitVec.ofNat 32 n))
        ∧ (n < (s.part.ring r).heldCount ∨ s.part.awaitsPosting r = true
            ∨ s.part.fetching r = true →
            (t.part.ring r).state = .deleting
            ∧ (t.part.ring r).fetchIndex = (s.part.ring r).fetchIndex
            ∧ PositionsReturned s t r l
            ∧ t.part.admin.state = .waiting (.deleteRing r)
            ∧ t.part.admin.result = BitVec.ofNat 32 n
            ∧ t.part.admin.consumer = s.part.admin.consumer)))
  ∧ (∀ (s : State) (r : Fin 8), s.part.engine.state.alive = true →
    (s.part.ring r).state = .deleting → (s.part.ring r).heldCount = 0 →
    s.part.awaitsPosting r = false → s.part.fetching r = false →
    (∀ q, q < r → s.part.deletionEnds q = false) →
    ∃ t, exec .sringDeletionEnd s = .next t
      ∧ t.part.ring r = .absent ∧ (∀ q, q ≠ r → t.part.ring q = s.part.ring q)
      ∧ (s.part.admin.state = .waiting (.deleteRing r) →
          t.part.admin.state = .completing
          ∧ t.part.admin.consumer = succIndex s.part.engine.areaSize s.part.admin.consumer
          ∧ t.part.compl.adminHeld = some
              { tag := s.part.admin.tag, index := s.part.admin.consumer, status := .success,
                result := s.part.admin.result })
      ∧ t.part.sched = s.part.sched ∧ t.part.compl.rings = s.part.compl.rings)
  ∧ ∀ s : State, s.part.engine.state.alive = false ∨ (∀ q, s.part.deletionEnds q = false) →
    exec .sringDeletionEnd s = .next s

/-- FLUSH_SRING for a HALTED ring with nothing held and P equal to F ends at once with result 0 and the
ring ACTIVE; otherwise it waits, with P as its end once nothing is held. Each step of its walk passes
DONE positions without an entry and gives any other position FLUSHED with a reservation of its own, with
tag, bytes, retries and result 0. At its end the ring goes ACTIVE with a clear span table, with FLUSHED
entries still to be written too, and the command ends once the last of them is written. With no free entry
and none granted the walk waits. The model's choices: the span table's links clear at the end
(notes/assumptions/25.md); F and C pass a position as its completion is made, also where that waits for the
FIFO, and no further one is made while one waits (notes/assumptions/43.md); the port looks ahead
(notes/assumptions/8.md) (R4, R20, R25, R115, R118, R155). -/
def Obligations.FlushWalksToItsEnd : Prop :=
  (∀ (s : State) (rec : Block) (r : Fin 8), Settled s.part → Arrives s.part →
    cmdTarget rec = r.val →
    ((s.part.ring r).state ≠ .halted → ∃ t, exec (.flushSring rec) s = .next t
      ∧ CommandEnds s t rec (if (s.part.ring r).state = .absent then .notFound else .wrongState) 0#32
      ∧ OnlyChanges [.host, .admin, .compl] s t)
    ∧ ((s.part.ring r).state = .halted → (s.part.ring r).heldCount = 0 →
        (s.part.ring r).producer = (s.part.ring r).fetchIndex →
      ∃ t, exec (.flushSring rec) s = .next t ∧ CommandEnds s t rec .success 0#32
        ∧ t.part.ring r = { s.part.ring r with
            state := .active, haltedAt := none, span := List.replicate 64 .notAdmitted
            links := List.replicate 64 .none }
        ∧ (∀ q, q ≠ r → t.part.ring q = s.part.ring q)
        ∧ (s.part.settleNext = none ∨ s.part.reportedSet ≠ [] → t.part.port = s.part.port)
        ∧ OnlyChanges [.host, .admin, .fetch, .port, .compl] s t)
    ∧ ((s.part.ring r).state = .halted → (s.part.ring r).heldCount ≠ 0
        ∨ (s.part.ring r).producer ≠ (s.part.ring r).fetchIndex →
      ∃ t, exec (.flushSring rec) s = .next t
        ∧ t.part.admin.state = .waiting (.flushRing
            { ring := r
              stop := if (s.part.ring r).heldCount = 0 then some (s.part.ring r).producer else none
              made := 0, unwritten := 0, walked := false, granted := false })
        ∧ t.part.admin.command = some (rec, s.part.admin.consumer)
        ∧ OnlyChanges [.host, .admin] s t))
  ∧ (∀ (s : State) (f : Flush) (stop : Nat) (x : SubmissionRing),
    s.part.engine.state.alive = true → s.part.admin.state = .waiting (.flushRing f) →
    f.stop = some stop → f.walked = false → x = s.part.ring f.ring → x.fetchIndex = x.consumer →
    (x.fetchIndex = stop →
      ∃ t, exec .flushWalk s = .next t ∧ WalkGoesOn s t f x stop
        ∧ (t.part.ring f.ring).consumer = x.consumer
        ∧ t.part.compl.fifo = s.part.compl.fifo ∧ t.part.sched = s.part.sched
        ∧ (∀ c, t.part.cring c = s.part.cring c))
    ∧ (x.fetchIndex ≠ stop → x.spanMark x.fetchIndex = .done →
      ∃ t, exec .flushWalk s = .next t ∧ WalkGoesOn s t f x stop
        ∧ (t.part.ring f.ring).consumer =
            (x.consumer + min x.doneRun (distance x.size x.consumer stop)) % x.size
        ∧ t.part.compl.fifo = s.part.compl.fifo ∧ t.part.sched = s.part.sched
        ∧ (∀ c, t.part.cring c = s.part.cring c))
    ∧ (x.fetchIndex ≠ stop → x.spanMark x.fetchIndex ≠ .done →
      (f.granted = true ∨ 1 ≤ (s.part.cring x.bound).freeEntries) → s.part.flushedWaits = false →
      ∀ c : Completion, c =
        { tag := 0#16, ring := f.ring, index := x.fetchIndex, status := .flushed,
          bytesDone := 0, retries := 0, result := 0#32, reservation := x.bound } →
      ∃ t, exec .flushWalk s = .next t
        ∧ WalkGoesOn s t
            { f with made := f.made + 1, unwritten := f.unwritten + 1, granted := false } x stop
        ∧ (t.part.ring f.ring).consumer = (succIndex x.size x.consumer
            + min ((x.span.drop 1).takeWhile fun m => m == .done).length
                (distance x.size (succIndex x.size x.consumer) stop)) % x.size
        ∧ ((x.span.drop 1).head? ≠ some .done → (t.part.ring f.ring).linkBefore = .none)
        ∧ (s.part.fifoOpen = true → t.part.compl.fifo = s.part.compl.fifo ++ [c]
            ∧ t.part.sched = s.part.sched)
        ∧ (s.part.fifoOpen = false → t.part.compl.fifo = s.part.compl.fifo
            ∧ t.part.sched = { s.part.sched with waiters := s.part.sched.waiters ++ [.flushed c] })
        ∧ (∀ d, t.part.cring d = { s.part.cring d with reserved := (s.part.cring d).reserved
            + (if d = x.bound ∧ f.granted = false then 1 else 0) }))
    ∧ (x.fetchIndex ≠ stop → x.spanMark x.fetchIndex ≠ .done →
      (f.granted = false ∧ (s.part.cring x.bound).freeEntries = 0) ∨ s.part.flushedWaits = true →
      exec .flushWalk s = .next s))
  ∧ (∀ s : State, s.part.engine.state.alive = false
      ∨ (∀ f, s.part.admin.state = .waiting (.flushRing f) → f.stop = none ∨ f.walked = true) →
    exec .flushWalk s = .next s)
  ∧ ∀ (s : State) (f : Flush) (c : Completion) (rest : List Completion),
    s.part.engine.state.working = true → s.part.writeOutstanding .posting = true →
    s.part.compl.fifo = c :: rest → s.part.admin.state = .waiting (.flushRing f) →
    f.stop.isSome = true → c.status = .flushed → c.ring = f.ring →
    ∃ t, exec (.completionEntryWriteDone true) s = .next t
      ∧ t.part.compl.fifo = rest
      ∧ (f.walked = true → f.unwritten ≤ 1 →
          t.part.admin.state = .completing ∧ t.part.admin.command = none
          ∧ t.part.admin.consumer = succIndex s.part.engine.areaSize s.part.admin.consumer
          ∧ t.part.compl.adminHeld = some
              { tag := s.part.admin.tag, index := s.part.admin.consumer, status := .success,
                result := BitVec.ofNat 32 f.made })
      ∧ (f.walked = false ∨ 2 ≤ f.unwritten →
          t.part.admin = { s.part.admin with
            state := .waiting (.flushRing { f with unwritten := f.unwritten - 1 }) })

/-- SET_WINDOW writes an UNUSED entry that overlaps no other, OPEN with the fields given, page fields 0
for a DIRECT window, its banks UNKNOWN; REOPEN_WINDOW makes a FENCED window OPEN with its timeout count
0. Each ends at once with the first failing check's status or SUCCESS, and each window command with a
target above 15 with INVALID_FIELD and no other effect (R78, R79, R156, R157). -/
def Obligations.WindowsAreSetAndReopened : Prop :=
  (∀ (s : State) (rec : Block) (c : Instr), Settled s.part → Arrives s.part → 15 < cmdTarget rec →
    c = .setWindow rec ∨ c = .clearWindow rec ∨ c = .reopenWindow rec →
    ∃ t, exec c s = .next t ∧ CommandEnds s t rec .invalidField 0#32
      ∧ OnlyChanges [.host, .admin, .compl] s t)
  ∧ ∀ (s : State) (rec : Block) (w : Fin 16), Settled s.part → Arrives s.part →
    cmdTarget rec = w.val →
    (∃ t st, exec (.setWindow rec) s = .next t
      ∧ st = (if isPowerOfTwo 4096 (2 ^ 30) (wordAt rec 0x0C).toNat = false
            ∨ (wordAt rec 0x08).toNat % (wordAt rec 0x0C).toNat ≠ 0 then Status.invalidField
          else if 1 < cmdByte rec 0x10 ∨ cmdByte rec 0x11 ∉ [1, 2, 4]
            ∨ cmdByte rec 0x12 ∉ [1, 2, 4, 8] ∨ 2 < cmdByte rec 0x13 ∨ 3 < cmdByte rec 0x15
            ∨ 15 < cmdByte rec 0x16 then .invalidField
          else if cmdByte rec 0x10 = 1 ∧ (cmdHalf rec 0x18 ∉ [1024, 2048, 4096, 8192]
            ∨ cmdByte rec 0x1A ∉ [1, 2, 4]
            ∨ (wordAt rec 0x0C).toNat < cmdHalf rec 0x18 * cmdByte rec 0x1A
            ∨ 1 < cmdByte rec 0x1B ∨ cmdByte rec 0x1C < 1) then .invalidField
          else if (s.part.window w).state ≠ .unused then .inUse
          else if ∃ v, v ≠ w ∧ (s.part.window v).state ≠ .unused
            ∧ (wordAt rec 0x08).toNat < (s.part.window v).base.toNat + (s.part.window v).size
            ∧ (s.part.window v).base.toNat < (wordAt rec 0x08).toNat + (wordAt rec 0x0C).toNat
            then .overlap
          else .success)
      ∧ CommandEnds s t rec st 0#32 ∧ OnlyChanges [.host, .admin, .windows, .compl] s t
      ∧ (∀ v, v ≠ w → t.part.window v = s.part.window v)
      ∧ (st ≠ .success → t.part.window w = s.part.window w)
      ∧ (st = .success →
          (t.part.window w).state = .opened ∧ (t.part.window w).drain = .run
          ∧ (t.part.window w).base = wordAt rec 0x08
          ∧ (t.part.window w).size = (wordAt rec 0x0C).toNat
          ∧ (t.part.window w).portWidth = cmdByte rec 0x11
          ∧ (t.part.window w).maxBurst = cmdByte rec 0x12
          ∧ ((t.part.window w).access = .readWrite ↔ cmdByte rec 0x13 = 0)
          ∧ ((t.part.window w).access = .readOnly ↔ cmdByte rec 0x13 = 1)
          ∧ (t.part.window w).lockPermitted = (byteAt rec 0x14).getLsbD 0
          ∧ (t.part.window w).limitClass.val = cmdByte rec 0x15
          ∧ (t.part.window w).fenceLimit = cmdByte rec 0x16
          ∧ (t.part.window w).inFlight = 0 ∧ (t.part.window w).timeouts = 0
          ∧ (cmdByte rec 0x10 = 0 → (t.part.window w).kind = .direct
            ∧ (t.part.window w).pageSize = 0 ∧ (t.part.window w).bankCount = 0
            ∧ (t.part.window w).openLimit = 0 ∧ (t.part.window w).banks = [])
          ∧ (cmdByte rec 0x10 = 1 → (t.part.window w).kind = .paged
            ∧ (t.part.window w).pageSize = cmdHalf rec 0x18
            ∧ (t.part.window w).bankCount = cmdByte rec 0x1A
            ∧ ((t.part.window w).policy = .close ↔ cmdByte rec 0x1B = 1)
            ∧ (t.part.window w).openLimit = cmdByte rec 0x1C
            ∧ (t.part.window w).banks = List.replicate (cmdByte rec 0x1A) .unknown)))
    ∧ ∃ t st, exec (.reopenWindow rec) s = .next t
      ∧ st = (if (s.part.window w).state = .fenced then Status.success else .wrongState)
      ∧ CommandEnds s t rec st 0#32 ∧ OnlyChanges [.host, .admin, .windows, .port, .compl] s t
      ∧ (∀ v, v ≠ w → t.part.window v = s.part.window v)
      ∧ t.part.window w = if st = .success
          then { s.part.window w with state := .opened, timeouts := 0 } else s.part.window w

/-- CLEAR_WINDOW of an OPEN or FENCED window makes it UNUSED and ends at once where no slot is in flight
to it and no close operation is on its banks; otherwise the window is DRAINING, read as FENCED only if it
was, and the command waits for the end of draining, which makes the window UNUSED and ends the command.
Where several windows are due the lowest ends, the model's choice (notes/assumptions/31.md) (R80, R81,
R152, R157). -/
def Obligations.WindowsDrainBeforeTheyClear : Prop :=
  (∀ (s : State) (rec : Block) (w : Fin 16), Settled s.part → Arrives s.part →
    cmdTarget rec = w.val →
    ((s.part.window w).state ≠ .opened → (s.part.window w).state ≠ .fenced →
      ∃ t, exec (.clearWindow rec) s = .next t ∧ CommandEnds s t rec .wrongState 0#32
        ∧ OnlyChanges [.host, .admin, .compl] s t)
    ∧ ((s.part.window w).state = .opened ∨ (s.part.window w).state = .fenced →
      ((s.part.window w).inFlight = 0 → s.part.closingWindow w = false →
        ∃ t, exec (.clearWindow rec) s = .next t ∧ CommandEnds s t rec .success 0#32
          ∧ t.part.window w = .unused
          ∧ (∀ v, v ≠ w → t.part.window v = s.part.window v)
          ∧ OnlyChanges [.host, .admin, .windows, .port, .compl] s t)
      ∧ ((s.part.window w).inFlight ≠ 0 ∨ s.part.closingWindow w = true →
        ∃ t, exec (.clearWindow rec) s = .next t
          ∧ t.part.window w = { s.part.window w with
              state := .draining
              drain := if (s.part.window w).state = .fenced then .fenced else .run }
          ∧ (∀ v, v ≠ w → t.part.window v = s.part.window v)
          ∧ t.part.admin.state = .waiting (.clearWindow w)
          ∧ t.part.admin.command = some (rec, s.part.admin.consumer)
          ∧ OnlyChanges [.host, .admin, .windows] s t)))
  ∧ (∀ (s : State) (w : Fin 16), s.part.engine.state.alive = true →
    s.part.drainingEnds w = true → (∀ v, v < w → s.part.drainingEnds v = false) →
    ∃ t, exec .endOfDraining s = .next t
      ∧ t.part.window w = .unused ∧ (∀ v, v ≠ w → t.part.window v = s.part.window v)
      ∧ (s.part.admin.state = .waiting (.clearWindow w) →
          t.part.admin.state = .completing
          ∧ t.part.admin.consumer = succIndex s.part.engine.areaSize s.part.admin.consumer
          ∧ t.part.compl.adminHeld = some
              { tag := s.part.admin.tag, index := s.part.admin.consumer, status := .success,
                result := 0#32 })
      ∧ t.part.sched = s.part.sched ∧ t.part.master = s.part.master)
  ∧ (∀ (p : Part) (w : Fin 16), p.drainingEnds w = true ↔ (p.window w).state = .draining
      ∧ (p.window w).inFlight = 0 ∧ p.closingWindow w = false)
  ∧ ∀ s : State, s.part.engine.state.alive = false ∨ (∀ v, s.part.drainingEnds v = false) →
    exec .endOfDraining s = .next s

/-- SET_NODE and SET_NOTICE_RING are refused with PORT_ACTIVE unless the port is DETACHED; SET_NODE then
sets the node id, SET_NOTICE_RING a fresh ring, after an outstanding entry write has been reported.
SET_FILTER writes one filter entry, or the default action for target FFh, in every port state (R130,
R138, R158, R159). -/
def Obligations.NoticeConfigurationCommands : Prop :=
  ∀ (s : State) (rec : Block), Settled s.part → Arrives s.part →
    (∃ t st, exec (.setNode rec) s = .next t
      ∧ st = (if s.part.port.state ≠ .detached then Status.portActive
          else if 31 < cmdTarget rec then .invalidField else .success)
      ∧ CommandEnds s t rec st 0#32 ∧ OnlyChanges [.host, .admin, .notices, .compl] s t
      ∧ t.part.notices = if st = .success
          then { s.part.notices with nodeId := some (BitVec.ofNat 5 (cmdTarget rec)) }
          else s.part.notices)
    ∧ (∃ t st, exec (.setFilter rec) s = .next t
      ∧ st = (if 15 < cmdTarget rec ∧ cmdTarget rec ≠ 0xFF then Status.invalidField
          else if cmdTarget rec = 0xFF ∧ cmdByte rec 0x12 ≠ 0 ∧ cmdByte rec 0x12 ≠ 2
            then .invalidField
          else if cmdTarget rec ≠ 0xFF ∧ 2 < cmdByte rec 0x12 then .invalidField
          else .success)
      ∧ CommandEnds s t rec st 0#32 ∧ OnlyChanges [.host, .admin, .notices, .compl] s t
      ∧ (st ≠ .success → t.part.notices = s.part.notices)
      ∧ (st = .success → cmdTarget rec = 0xFF →
          t.part.notices = { s.part.notices with
            defaultAccept := decide (cmdByte rec 0x12 = 0) })
      ∧ (st = .success → ∀ f : Fin 16, cmdTarget rec = f.val →
          t.part.notices.filters.get f =
            { enabled := (byteAt rec 0x08).getLsbD 0, sourceValue := halfAt rec 0x0A,
              sourceMask := halfAt rec 0x0C, codeValue := halfAt rec 0x0E,
              codeMask := halfAt rec 0x10,
              action := if cmdByte rec 0x12 = 0 then .accept
                else if cmdByte rec 0x12 = 1 then .urgent else .reject }
          ∧ (∀ g, g ≠ f → t.part.notices.filters.get g = s.part.notices.filters.get g)
          ∧ t.part.notices.defaultAccept = s.part.notices.defaultAccept))
    ∧ ∀ st : Status, st = (if s.part.port.state ≠ .detached then Status.portActive
          else if ∃ b, (s.part.entry b).state ≠ .free then .inUse
          else if isPowerOfTwo 16 1024 (cmdHalf rec 0x10) = false
            ∨ (longAt rec 0x08).toNat % 4096 ≠ 0 ∨ cmdByte rec 0x12 < 1 ∨ 15 < cmdByte rec 0x12
            ∨ cmdByte rec 0x13 < 1 ∨ 15 < cmdByte rec 0x13 then .invalidField
          else .success) →
      (st ≠ .success → ∃ t, exec (.setNoticeRing rec) s = .next t
        ∧ CommandEnds s t rec st 0#32 ∧ OnlyChanges [.host, .admin, .compl] s t)
      ∧ (st = .success → s.part.notices.write = none →
        ∃ t, exec (.setNoticeRing rec) s = .next t ∧ CommandEnds s t rec st 0#32
          ∧ t.part.notices.ring =
            { present := true, base := longAt rec 0x08, size := cmdHalf rec 0x10,
              normalVector := Fin.ofNat 16 (cmdByte rec 0x12),
              urgentVector := Fin.ofNat 16 (cmdByte rec 0x13), producer := 0, consumer := 0,
              phase := true, normalArmed := false, urgentArmed := false, armPending := false,
              lastUrgent := none }
          ∧ OnlyChanges [.host, .admin, .notices, .compl] s t)
      ∧ (st = .success → s.part.notices.write.isSome = true →
        ∃ t, exec (.setNoticeRing rec) s = .next t
          ∧ t.part.notices = s.part.notices
          ∧ t.part.admin.state = .waiting (.noticeRing (longAt rec 0x08) (cmdHalf rec 0x10)
              (Fin.ofNat 16 (cmdByte rec 0x12)) (Fin.ofNat 16 (cmdByte rec 0x13)))
          ∧ OnlyChanges [.host, .admin] s t)

/-- ATTACH, for a DETACHED port with a node id and a notice ring set, the clock present and RST not
asserted, makes it JOINING with error count 0, no mark and the join timer at 32 µs, and ends at once.
DETACH makes a port without ownership DETACHED at once and ends with the cause COMMAND; an owning port is
marked and releases, through YIELDING where the Master is busy, and the command waits. That the mark COMMAND
replaces ERROR_LIMIT is the model's choice (notes/assumptions/21.md) (R95, R106, R152, R160, R161). -/
def Obligations.AttachAndDetach : Prop :=
  ∀ (s : State) (rec : Block), Settled s.part → Arrives s.part →
    (∃ t st, exec (.attach rec) s = .next t
      ∧ st = (if s.part.port.state ≠ .detached then Status.wrongState
          else if s.part.notices.nodeId = none ∨ s.part.notices.ring.present = false then .notReady
          else if s.part.port.clockPresent = false ∨ s.part.port.rst = true then .wrongState
          else .success)
      ∧ CommandEnds s t rec st 0#32 ∧ OnlyChanges [.host, .admin, .port, .compl] s t
      ∧ t.part.port = if st = .success
          then { s.part.port with state := .joining, errorCount := 0, mark := .none, joinTimer := 32 }
          else s.part.port)
    ∧ (s.part.port.state = .detached → ∃ t, exec (.detach rec) s = .next t
      ∧ CommandEnds s t rec .wrongState 0#32 ∧ OnlyChanges [.host, .admin, .compl] s t)
    ∧ (s.part.port.state = .joining ∨ s.part.port.state = .idle ∨ s.part.port.state = .requesting →
      ∃ t, exec (.detach rec) s = .next t ∧ CommandEnds s t rec .success 1#32
        ∧ t.part.port = { s.part.port with
            state := .detached, mark := .none, joinTimer := 0, tenure := false, chainHold := none,
            req := false, lvl := 3 }
        ∧ DetachTold s t .command ∧ t.part.sched = s.part.sched)
    ∧ (s.part.port.state = .owner ∨ s.part.port.state = .yielding
        ∨ s.part.port.state = .releasing →
      ∃ t, exec (.detach rec) s = .next t
        ∧ t.part.port = { s.part.port with
            mark := .command, chainHold := none
            state := if s.part.port.state ≠ .owner then s.part.port.state
              else if s.part.master.state = .idle then .releasing else .yielding }
        ∧ t.part.admin.state = .waiting .detach
        ∧ t.part.admin.command = some (rec, s.part.admin.consumer)
        ∧ OnlyChanges [.host, .admin, .port] s t)

/-- QUERY takes its snapshot at arrival, clears the counters only for a STATISTICS query that asks for
it, and asks for one write of the 64-byte report at the buffer address; it ends with SUCCESS and result
64 once the write is done, and with HOST_WRITE_ERROR and result 0 where it fails or cannot be issued. Both
reports have the layout of the tables in 10, every byte (R151, R162, R163, R169). How a write that cannot
be issued is reported, and the bits the tables leave open at 0, are the model's choice
(notes/assumptions/37.md and 47.md). -/
def Obligations.QueryWritesItsReport : Prop :=
  (∀ (s : State) (rec : Block) (st : Status), Settled s.part → Arrives s.part →
    st = (if 1 < cmdByte rec 0x10 then Status.invalidField
      else if cmdByte rec 0x10 = 1 ∧ 15 < cmdTarget rec then .invalidField
      else if (longAt rec 0x08).toNat % 64 ≠ 0 then .invalidField else .success) →
    (st ≠ .success → ∃ t, exec (.query rec) s = .next t
      ∧ CommandEnds s t rec st 0#32 ∧ OnlyChanges [.host, .admin, .compl] s t)
    ∧ (st = .success → ∃ t data, exec (.query rec) s = .next t
      ∧ t.part.admin.state = .writing ∧ t.part.admin.command = some (rec, s.part.admin.consumer)
      ∧ t.part.request .administration = some (.write (longAt rec 0x08) data)
      ∧ data = (if cmdByte rec 0x10 = 0 then statisticsReport s.part
          else windowReport (s.part.window (Fin.ofNat 16 (cmdTarget rec))))
      ∧ t.part.stats = (if cmdByte rec 0x10 = 0 ∧ (byteAt rec 0x11).getLsbD 0 = true
          then Stats.zero else s.part.stats)
      ∧ OnlyChanges [.host, .admin, .stats] s t))
  ∧ (∀ (s : State) (rec : Block) (i : Nat) (done : Bool), Settled s.part →
    s.part.engine.state.working = true → s.part.admin.state = .writing →
    s.part.writeOutstanding .administration = true
      ∨ (done = false ∧ s.part.writeFailable .administration = true) →
    s.part.admin.command = some (rec, i) →
    ∃ t, exec (.queryReportWriteDone done) s = .next t
      ∧ CommandEnds s t rec (if done then .success else .hostWriteError)
          (if done then 64#32 else 0#32)
      ∧ OnlyChanges [.host, .admin, .compl] s t)
  ∧ (∀ (p : Part) (c : Stats), c = p.stats →
    (statisticsReport p).length = 64
    ∧ (∀ (i : Nat) (x : BitVec 32), [c.admitted, c.evictions, c.returns, c.bursts, c.pageHits,
        c.pageMisses, c.retries, c.timeouts, c.targetFaults, c.busErrors, c.accepted, c.urgent,
        c.rejected, c.refused, c.merged][i]? = some x →
      ((statisticsReport p).drop (4 * i)).take 4 = leBytes 4 x.toNat)
    ∧ (statisticsReport p)[0x3C]? = some (BitVec.ofNat 8 p.port.state.code)
    ∧ (statisticsReport p)[0x3D]? = some (BitVec.ofNat 8 p.port.errorCount)
    ∧ (statisticsReport p)[0x3E]? = some (0#6 ++ BitVec.ofBool p.port.rst
        ++ BitVec.ofBool p.port.clockPresent)
    ∧ (statisticsReport p)[0x3F]? = some 0#8)
  ∧ ∀ (w : Window) (data : List Byte), data = windowReport w →
    data.length = 64
    ∧ data[0x00]? = some (if w.state = .unused then 0#8 else if w.state = .opened then 1#8
        else if w.state = .fenced then 2#8 else 3#8)
    ∧ data[0x01]? = some (if w.drain = .run then 0#8 else 1#8)
    ∧ data[0x02]? = some (BitVec.ofNat 8 w.inFlight)
    ∧ data[0x03]? = some (BitVec.ofNat 8 w.timeouts)
    ∧ (data.drop 0x04).take 4 = List.replicate 4 0#8
    ∧ (data.drop 0x08).take 4 = leBytes 4 w.base.toNat
    ∧ (data.drop 0x0C).take 4 = leBytes 4 w.size
    ∧ data[0x10]? = some (if w.kind = .direct then 0#8 else 1#8)
    ∧ data[0x11]? = some (BitVec.ofNat 8 w.portWidth)
    ∧ data[0x12]? = some (BitVec.ofNat 8 w.maxBurst)
    ∧ data[0x13]? = some (if w.access = .readWrite then 0#8 else if w.access = .readOnly then 1#8
        else 2#8)
    ∧ data[0x14]? = some (if w.lockPermitted then 1#8 else 0#8)
    ∧ data[0x15]? = some (BitVec.ofNat 8 w.limitClass.val)
    ∧ data[0x16]? = some (BitVec.ofNat 8 w.fenceLimit)
    ∧ data[0x17]? = some 0#8
    ∧ (data.drop 0x18).take 2 = leBytes 2 w.pageSize
    ∧ data[0x1A]? = some (BitVec.ofNat 8 w.bankCount)
    ∧ data[0x1B]? = some (if w.policy = .keep then 0#8 else 1#8)
    ∧ data[0x1C]? = some (BitVec.ofNat 8 w.openLimit)
    ∧ (data.drop 0x1D).take 3 = List.replicate 3 0#8
    ∧ ∀ k : Nat, k < 4 →
      (∀ b, w.banks[k]? = some b → (data.drop (0x20 + 8 * k)).take 8 =
        [if b.state = .closed then 0#8 else if b.state = .opened then 1#8 else 2#8,
          if b.dueToClose then 1#8 else 0#8, 0#8, 0#8]
          ++ leBytes 4 (if b.state = .opened then b.page else 0))
      ∧ (w.banks[k]? = none → (data.drop (0x20 + 8 * k)).take 8 = 0xFF#8 :: List.replicate 7 0#8)
end

