-- ==== Sys2Proof/Laws/State.lean ====
section
/-! SUPPORT. What each update of the part's state does to each block, one lemma per field and update, all
by rfl and tagged simp, so that no later proof unfolds a record update; and how the table accessors read
an updated table. -/

namespace Sys2Proof.Machine

/-! ### Block updates -/

@[simp] theorem Part.onEngine_engine (p : Part) (f : Engine → Engine) :
    (p.onEngine f).engine = f p.engine := rfl

@[simp] theorem Part.onEngine_host (p : Part) (f : Engine → Engine) :
    (p.onEngine f).host = p.host := rfl

@[simp] theorem Part.onEngine_admin (p : Part) (f : Engine → Engine) :
    (p.onEngine f).admin = p.admin := rfl

@[simp] theorem Part.onEngine_fetch (p : Part) (f : Engine → Engine) :
    (p.onEngine f).fetch = p.fetch := rfl

@[simp] theorem Part.onEngine_sched (p : Part) (f : Engine → Engine) :
    (p.onEngine f).sched = p.sched := rfl

@[simp] theorem Part.onEngine_windows (p : Part) (f : Engine → Engine) :
    (p.onEngine f).windows = p.windows := rfl

@[simp] theorem Part.onEngine_master (p : Part) (f : Engine → Engine) :
    (p.onEngine f).master = p.master := rfl

@[simp] theorem Part.onEngine_port (p : Part) (f : Engine → Engine) :
    (p.onEngine f).port = p.port := rfl

@[simp] theorem Part.onEngine_notices (p : Part) (f : Engine → Engine) :
    (p.onEngine f).notices = p.notices := rfl

@[simp] theorem Part.onEngine_compl (p : Part) (f : Engine → Engine) :
    (p.onEngine f).compl = p.compl := rfl

@[simp] theorem Part.onEngine_stats (p : Part) (f : Engine → Engine) :
    (p.onEngine f).stats = p.stats := rfl

@[simp] theorem Part.onEngine_out (p : Part) (f : Engine → Engine) :
    (p.onEngine f).out = p.out := rfl

@[simp] theorem Part.onEngine_ring (p : Part) (f : Engine → Engine) (r : Fin 8) :
    (p.onEngine f).ring r = p.ring r := rfl

@[simp] theorem Part.onEngine_slot (p : Part) (f : Engine → Engine) (k : Fin 8) :
    (p.onEngine f).slot k = p.slot k := rfl

@[simp] theorem Part.onEngine_window (p : Part) (f : Engine → Engine) (w : Fin 16) :
    (p.onEngine f).window w = p.window w := rfl

@[simp] theorem Part.onEngine_cring (p : Part) (f : Engine → Engine) (c : Fin 8) :
    (p.onEngine f).cring c = p.cring c := rfl

@[simp] theorem Part.onEngine_entry (p : Part) (f : Engine → Engine) (b : Fin 4) :
    (p.onEngine f).entry b = p.entry b := rfl

@[simp] theorem Part.onEngine_request (p : Part) (f : Engine → Engine) (q : Source) :
    (p.onEngine f).request q = p.request q := rfl

@[simp] theorem Part.onHost_engine (p : Part) (f : HostPort → HostPort) :
    (p.onHost f).engine = p.engine := rfl

@[simp] theorem Part.onHost_host (p : Part) (f : HostPort → HostPort) :
    (p.onHost f).host = f p.host := rfl

@[simp] theorem Part.onHost_admin (p : Part) (f : HostPort → HostPort) :
    (p.onHost f).admin = p.admin := rfl

@[simp] theorem Part.onHost_fetch (p : Part) (f : HostPort → HostPort) :
    (p.onHost f).fetch = p.fetch := rfl

@[simp] theorem Part.onHost_sched (p : Part) (f : HostPort → HostPort) :
    (p.onHost f).sched = p.sched := rfl

@[simp] theorem Part.onHost_windows (p : Part) (f : HostPort → HostPort) :
    (p.onHost f).windows = p.windows := rfl

@[simp] theorem Part.onHost_master (p : Part) (f : HostPort → HostPort) :
    (p.onHost f).master = p.master := rfl

@[simp] theorem Part.onHost_port (p : Part) (f : HostPort → HostPort) :
    (p.onHost f).port = p.port := rfl

@[simp] theorem Part.onHost_notices (p : Part) (f : HostPort → HostPort) :
    (p.onHost f).notices = p.notices := rfl

@[simp] theorem Part.onHost_compl (p : Part) (f : HostPort → HostPort) :
    (p.onHost f).compl = p.compl := rfl

@[simp] theorem Part.onHost_stats (p : Part) (f : HostPort → HostPort) :
    (p.onHost f).stats = p.stats := rfl

@[simp] theorem Part.onHost_out (p : Part) (f : HostPort → HostPort) :
    (p.onHost f).out = p.out := rfl

@[simp] theorem Part.onHost_ring (p : Part) (f : HostPort → HostPort) (r : Fin 8) :
    (p.onHost f).ring r = p.ring r := rfl

@[simp] theorem Part.onHost_slot (p : Part) (f : HostPort → HostPort) (k : Fin 8) :
    (p.onHost f).slot k = p.slot k := rfl

@[simp] theorem Part.onHost_window (p : Part) (f : HostPort → HostPort) (w : Fin 16) :
    (p.onHost f).window w = p.window w := rfl

@[simp] theorem Part.onHost_cring (p : Part) (f : HostPort → HostPort) (c : Fin 8) :
    (p.onHost f).cring c = p.cring c := rfl

@[simp] theorem Part.onHost_entry (p : Part) (f : HostPort → HostPort) (b : Fin 4) :
    (p.onHost f).entry b = p.entry b := rfl

@[simp] theorem Part.onAdmin_engine (p : Part) (f : AdminUnit → AdminUnit) :
    (p.onAdmin f).engine = p.engine := rfl

@[simp] theorem Part.onAdmin_host (p : Part) (f : AdminUnit → AdminUnit) :
    (p.onAdmin f).host = p.host := rfl

@[simp] theorem Part.onAdmin_admin (p : Part) (f : AdminUnit → AdminUnit) :
    (p.onAdmin f).admin = f p.admin := rfl

@[simp] theorem Part.onAdmin_fetch (p : Part) (f : AdminUnit → AdminUnit) :
    (p.onAdmin f).fetch = p.fetch := rfl

@[simp] theorem Part.onAdmin_sched (p : Part) (f : AdminUnit → AdminUnit) :
    (p.onAdmin f).sched = p.sched := rfl

@[simp] theorem Part.onAdmin_windows (p : Part) (f : AdminUnit → AdminUnit) :
    (p.onAdmin f).windows = p.windows := rfl

@[simp] theorem Part.onAdmin_master (p : Part) (f : AdminUnit → AdminUnit) :
    (p.onAdmin f).master = p.master := rfl

@[simp] theorem Part.onAdmin_port (p : Part) (f : AdminUnit → AdminUnit) :
    (p.onAdmin f).port = p.port := rfl

@[simp] theorem Part.onAdmin_notices (p : Part) (f : AdminUnit → AdminUnit) :
    (p.onAdmin f).notices = p.notices := rfl

@[simp] theorem Part.onAdmin_compl (p : Part) (f : AdminUnit → AdminUnit) :
    (p.onAdmin f).compl = p.compl := rfl

@[simp] theorem Part.onAdmin_stats (p : Part) (f : AdminUnit → AdminUnit) :
    (p.onAdmin f).stats = p.stats := rfl

@[simp] theorem Part.onAdmin_out (p : Part) (f : AdminUnit → AdminUnit) :
    (p.onAdmin f).out = p.out := rfl

@[simp] theorem Part.onAdmin_ring (p : Part) (f : AdminUnit → AdminUnit) (r : Fin 8) :
    (p.onAdmin f).ring r = p.ring r := rfl

@[simp] theorem Part.onAdmin_slot (p : Part) (f : AdminUnit → AdminUnit) (k : Fin 8) :
    (p.onAdmin f).slot k = p.slot k := rfl

@[simp] theorem Part.onAdmin_window (p : Part) (f : AdminUnit → AdminUnit) (w : Fin 16) :
    (p.onAdmin f).window w = p.window w := rfl

@[simp] theorem Part.onAdmin_cring (p : Part) (f : AdminUnit → AdminUnit) (c : Fin 8) :
    (p.onAdmin f).cring c = p.cring c := rfl

@[simp] theorem Part.onAdmin_entry (p : Part) (f : AdminUnit → AdminUnit) (b : Fin 4) :
    (p.onAdmin f).entry b = p.entry b := rfl

@[simp] theorem Part.onAdmin_request (p : Part) (f : AdminUnit → AdminUnit) (q : Source) :
    (p.onAdmin f).request q = p.request q := rfl

@[simp] theorem Part.onFetch_engine (p : Part) (f : FetchUnit → FetchUnit) :
    (p.onFetch f).engine = p.engine := rfl

@[simp] theorem Part.onFetch_host (p : Part) (f : FetchUnit → FetchUnit) :
    (p.onFetch f).host = p.host := rfl

@[simp] theorem Part.onFetch_admin (p : Part) (f : FetchUnit → FetchUnit) :
    (p.onFetch f).admin = p.admin := rfl

@[simp] theorem Part.onFetch_fetch (p : Part) (f : FetchUnit → FetchUnit) :
    (p.onFetch f).fetch = f p.fetch := rfl

@[simp] theorem Part.onFetch_sched (p : Part) (f : FetchUnit → FetchUnit) :
    (p.onFetch f).sched = p.sched := rfl

@[simp] theorem Part.onFetch_windows (p : Part) (f : FetchUnit → FetchUnit) :
    (p.onFetch f).windows = p.windows := rfl

@[simp] theorem Part.onFetch_master (p : Part) (f : FetchUnit → FetchUnit) :
    (p.onFetch f).master = p.master := rfl

@[simp] theorem Part.onFetch_port (p : Part) (f : FetchUnit → FetchUnit) :
    (p.onFetch f).port = p.port := rfl

@[simp] theorem Part.onFetch_notices (p : Part) (f : FetchUnit → FetchUnit) :
    (p.onFetch f).notices = p.notices := rfl

@[simp] theorem Part.onFetch_compl (p : Part) (f : FetchUnit → FetchUnit) :
    (p.onFetch f).compl = p.compl := rfl

@[simp] theorem Part.onFetch_stats (p : Part) (f : FetchUnit → FetchUnit) :
    (p.onFetch f).stats = p.stats := rfl

@[simp] theorem Part.onFetch_out (p : Part) (f : FetchUnit → FetchUnit) :
    (p.onFetch f).out = p.out := rfl

@[simp] theorem Part.onFetch_slot (p : Part) (f : FetchUnit → FetchUnit) (k : Fin 8) :
    (p.onFetch f).slot k = p.slot k := rfl

@[simp] theorem Part.onFetch_window (p : Part) (f : FetchUnit → FetchUnit) (w : Fin 16) :
    (p.onFetch f).window w = p.window w := rfl

@[simp] theorem Part.onFetch_cring (p : Part) (f : FetchUnit → FetchUnit) (c : Fin 8) :
    (p.onFetch f).cring c = p.cring c := rfl

@[simp] theorem Part.onFetch_entry (p : Part) (f : FetchUnit → FetchUnit) (b : Fin 4) :
    (p.onFetch f).entry b = p.entry b := rfl

@[simp] theorem Part.onFetch_request (p : Part) (f : FetchUnit → FetchUnit) (q : Source) :
    (p.onFetch f).request q = p.request q := rfl

@[simp] theorem Part.onSched_engine (p : Part) (f : Scheduler → Scheduler) :
    (p.onSched f).engine = p.engine := rfl

@[simp] theorem Part.onSched_host (p : Part) (f : Scheduler → Scheduler) :
    (p.onSched f).host = p.host := rfl

@[simp] theorem Part.onSched_admin (p : Part) (f : Scheduler → Scheduler) :
    (p.onSched f).admin = p.admin := rfl

@[simp] theorem Part.onSched_fetch (p : Part) (f : Scheduler → Scheduler) :
    (p.onSched f).fetch = p.fetch := rfl

@[simp] theorem Part.onSched_sched (p : Part) (f : Scheduler → Scheduler) :
    (p.onSched f).sched = f p.sched := rfl

@[simp] theorem Part.onSched_windows (p : Part) (f : Scheduler → Scheduler) :
    (p.onSched f).windows = p.windows := rfl

@[simp] theorem Part.onSched_master (p : Part) (f : Scheduler → Scheduler) :
    (p.onSched f).master = p.master := rfl

@[simp] theorem Part.onSched_port (p : Part) (f : Scheduler → Scheduler) :
    (p.onSched f).port = p.port := rfl

@[simp] theorem Part.onSched_notices (p : Part) (f : Scheduler → Scheduler) :
    (p.onSched f).notices = p.notices := rfl

@[simp] theorem Part.onSched_compl (p : Part) (f : Scheduler → Scheduler) :
    (p.onSched f).compl = p.compl := rfl

@[simp] theorem Part.onSched_stats (p : Part) (f : Scheduler → Scheduler) :
    (p.onSched f).stats = p.stats := rfl

@[simp] theorem Part.onSched_out (p : Part) (f : Scheduler → Scheduler) :
    (p.onSched f).out = p.out := rfl

@[simp] theorem Part.onSched_ring (p : Part) (f : Scheduler → Scheduler) (r : Fin 8) :
    (p.onSched f).ring r = p.ring r := rfl

@[simp] theorem Part.onSched_window (p : Part) (f : Scheduler → Scheduler) (w : Fin 16) :
    (p.onSched f).window w = p.window w := rfl

@[simp] theorem Part.onSched_cring (p : Part) (f : Scheduler → Scheduler) (c : Fin 8) :
    (p.onSched f).cring c = p.cring c := rfl

@[simp] theorem Part.onSched_entry (p : Part) (f : Scheduler → Scheduler) (b : Fin 4) :
    (p.onSched f).entry b = p.entry b := rfl

@[simp] theorem Part.onSched_request (p : Part) (f : Scheduler → Scheduler) (q : Source) :
    (p.onSched f).request q = p.request q := rfl

@[simp] theorem Part.onWindows_engine (p : Part) (f : Vector Window 16 → Vector Window 16) :
    (p.onWindows f).engine = p.engine := rfl

@[simp] theorem Part.onWindows_host (p : Part) (f : Vector Window 16 → Vector Window 16) :
    (p.onWindows f).host = p.host := rfl

@[simp] theorem Part.onWindows_admin (p : Part) (f : Vector Window 16 → Vector Window 16) :
    (p.onWindows f).admin = p.admin := rfl

@[simp] theorem Part.onWindows_fetch (p : Part) (f : Vector Window 16 → Vector Window 16) :
    (p.onWindows f).fetch = p.fetch := rfl

@[simp] theorem Part.onWindows_sched (p : Part) (f : Vector Window 16 → Vector Window 16) :
    (p.onWindows f).sched = p.sched := rfl

@[simp] theorem Part.onWindows_windows (p : Part) (f : Vector Window 16 → Vector Window 16) :
    (p.onWindows f).windows = f p.windows := rfl

@[simp] theorem Part.onWindows_master (p : Part) (f : Vector Window 16 → Vector Window 16) :
    (p.onWindows f).master = p.master := rfl

@[simp] theorem Part.onWindows_port (p : Part) (f : Vector Window 16 → Vector Window 16) :
    (p.onWindows f).port = p.port := rfl

@[simp] theorem Part.onWindows_notices (p : Part) (f : Vector Window 16 → Vector Window 16) :
    (p.onWindows f).notices = p.notices := rfl

@[simp] theorem Part.onWindows_compl (p : Part) (f : Vector Window 16 → Vector Window 16) :
    (p.onWindows f).compl = p.compl := rfl

@[simp] theorem Part.onWindows_stats (p : Part) (f : Vector Window 16 → Vector Window 16) :
    (p.onWindows f).stats = p.stats := rfl

@[simp] theorem Part.onWindows_out (p : Part) (f : Vector Window 16 → Vector Window 16) :
    (p.onWindows f).out = p.out := rfl

@[simp] theorem Part.onWindows_ring (p : Part) (f : Vector Window 16 → Vector Window 16) (r : Fin 8) :
    (p.onWindows f).ring r = p.ring r := rfl

@[simp] theorem Part.onWindows_slot (p : Part) (f : Vector Window 16 → Vector Window 16) (k : Fin 8) :
    (p.onWindows f).slot k = p.slot k := rfl

@[simp] theorem Part.onWindows_cring (p : Part) (f : Vector Window 16 → Vector Window 16) (c : Fin 8) :
    (p.onWindows f).cring c = p.cring c := rfl

@[simp] theorem Part.onWindows_entry (p : Part) (f : Vector Window 16 → Vector Window 16) (b : Fin 4) :
    (p.onWindows f).entry b = p.entry b := rfl

@[simp] theorem Part.onWindows_request (p : Part) (f : Vector Window 16 → Vector Window 16) (q : Source) :
    (p.onWindows f).request q = p.request q := rfl

@[simp] theorem Part.onMaster_engine (p : Part) (f : Master → Master) :
    (p.onMaster f).engine = p.engine := rfl

@[simp] theorem Part.onMaster_host (p : Part) (f : Master → Master) :
    (p.onMaster f).host = p.host := rfl

@[simp] theorem Part.onMaster_admin (p : Part) (f : Master → Master) :
    (p.onMaster f).admin = p.admin := rfl

@[simp] theorem Part.onMaster_fetch (p : Part) (f : Master → Master) :
    (p.onMaster f).fetch = p.fetch := rfl

@[simp] theorem Part.onMaster_sched (p : Part) (f : Master → Master) :
    (p.onMaster f).sched = p.sched := rfl

@[simp] theorem Part.onMaster_windows (p : Part) (f : Master → Master) :
    (p.onMaster f).windows = p.windows := rfl

@[simp] theorem Part.onMaster_master (p : Part) (f : Master → Master) :
    (p.onMaster f).master = f p.master := rfl

@[simp] theorem Part.onMaster_port (p : Part) (f : Master → Master) :
    (p.onMaster f).port = p.port := rfl

@[simp] theorem Part.onMaster_notices (p : Part) (f : Master → Master) :
    (p.onMaster f).notices = p.notices := rfl

@[simp] theorem Part.onMaster_compl (p : Part) (f : Master → Master) :
    (p.onMaster f).compl = p.compl := rfl

@[simp] theorem Part.onMaster_stats (p : Part) (f : Master → Master) :
    (p.onMaster f).stats = p.stats := rfl

@[simp] theorem Part.onMaster_out (p : Part) (f : Master → Master) :
    (p.onMaster f).out = p.out := rfl

@[simp] theorem Part.onMaster_ring (p : Part) (f : Master → Master) (r : Fin 8) :
    (p.onMaster f).ring r = p.ring r := rfl

@[simp] theorem Part.onMaster_slot (p : Part) (f : Master → Master) (k : Fin 8) :
    (p.onMaster f).slot k = p.slot k := rfl

@[simp] theorem Part.onMaster_window (p : Part) (f : Master → Master) (w : Fin 16) :
    (p.onMaster f).window w = p.window w := rfl

@[simp] theorem Part.onMaster_cring (p : Part) (f : Master → Master) (c : Fin 8) :
    (p.onMaster f).cring c = p.cring c := rfl

@[simp] theorem Part.onMaster_entry (p : Part) (f : Master → Master) (b : Fin 4) :
    (p.onMaster f).entry b = p.entry b := rfl

@[simp] theorem Part.onMaster_request (p : Part) (f : Master → Master) (q : Source) :
    (p.onMaster f).request q = p.request q := rfl

@[simp] theorem Part.onPort_engine (p : Part) (f : Port → Port) :
    (p.onPort f).engine = p.engine := rfl

@[simp] theorem Part.onPort_host (p : Part) (f : Port → Port) :
    (p.onPort f).host = p.host := rfl

@[simp] theorem Part.onPort_admin (p : Part) (f : Port → Port) :
    (p.onPort f).admin = p.admin := rfl

@[simp] theorem Part.onPort_fetch (p : Part) (f : Port → Port) :
    (p.onPort f).fetch = p.fetch := rfl

@[simp] theorem Part.onPort_sched (p : Part) (f : Port → Port) :
    (p.onPort f).sched = p.sched := rfl

@[simp] theorem Part.onPort_windows (p : Part) (f : Port → Port) :
    (p.onPort f).windows = p.windows := rfl

@[simp] theorem Part.onPort_master (p : Part) (f : Port → Port) :
    (p.onPort f).master = p.master := rfl

@[simp] theorem Part.onPort_port (p : Part) (f : Port → Port) :
    (p.onPort f).port = f p.port := rfl

@[simp] theorem Part.onPort_notices (p : Part) (f : Port → Port) :
    (p.onPort f).notices = p.notices := rfl

@[simp] theorem Part.onPort_compl (p : Part) (f : Port → Port) :
    (p.onPort f).compl = p.compl := rfl

@[simp] theorem Part.onPort_stats (p : Part) (f : Port → Port) :
    (p.onPort f).stats = p.stats := rfl

@[simp] theorem Part.onPort_out (p : Part) (f : Port → Port) :
    (p.onPort f).out = p.out := rfl

@[simp] theorem Part.onPort_ring (p : Part) (f : Port → Port) (r : Fin 8) :
    (p.onPort f).ring r = p.ring r := rfl

@[simp] theorem Part.onPort_slot (p : Part) (f : Port → Port) (k : Fin 8) :
    (p.onPort f).slot k = p.slot k := rfl

@[simp] theorem Part.onPort_window (p : Part) (f : Port → Port) (w : Fin 16) :
    (p.onPort f).window w = p.window w := rfl

@[simp] theorem Part.onPort_cring (p : Part) (f : Port → Port) (c : Fin 8) :
    (p.onPort f).cring c = p.cring c := rfl

@[simp] theorem Part.onPort_entry (p : Part) (f : Port → Port) (b : Fin 4) :
    (p.onPort f).entry b = p.entry b := rfl

@[simp] theorem Part.onPort_request (p : Part) (f : Port → Port) (q : Source) :
    (p.onPort f).request q = p.request q := rfl

@[simp] theorem Part.onNotices_engine (p : Part) (f : NoticeUnit → NoticeUnit) :
    (p.onNotices f).engine = p.engine := rfl

@[simp] theorem Part.onNotices_host (p : Part) (f : NoticeUnit → NoticeUnit) :
    (p.onNotices f).host = p.host := rfl

@[simp] theorem Part.onNotices_admin (p : Part) (f : NoticeUnit → NoticeUnit) :
    (p.onNotices f).admin = p.admin := rfl

@[simp] theorem Part.onNotices_fetch (p : Part) (f : NoticeUnit → NoticeUnit) :
    (p.onNotices f).fetch = p.fetch := rfl

@[simp] theorem Part.onNotices_sched (p : Part) (f : NoticeUnit → NoticeUnit) :
    (p.onNotices f).sched = p.sched := rfl

@[simp] theorem Part.onNotices_windows (p : Part) (f : NoticeUnit → NoticeUnit) :
    (p.onNotices f).windows = p.windows := rfl

@[simp] theorem Part.onNotices_master (p : Part) (f : NoticeUnit → NoticeUnit) :
    (p.onNotices f).master = p.master := rfl

@[simp] theorem Part.onNotices_port (p : Part) (f : NoticeUnit → NoticeUnit) :
    (p.onNotices f).port = p.port := rfl

@[simp] theorem Part.onNotices_notices (p : Part) (f : NoticeUnit → NoticeUnit) :
    (p.onNotices f).notices = f p.notices := rfl

@[simp] theorem Part.onNotices_compl (p : Part) (f : NoticeUnit → NoticeUnit) :
    (p.onNotices f).compl = p.compl := rfl

@[simp] theorem Part.onNotices_stats (p : Part) (f : NoticeUnit → NoticeUnit) :
    (p.onNotices f).stats = p.stats := rfl

@[simp] theorem Part.onNotices_out (p : Part) (f : NoticeUnit → NoticeUnit) :
    (p.onNotices f).out = p.out := rfl

@[simp] theorem Part.onNotices_ring (p : Part) (f : NoticeUnit → NoticeUnit) (r : Fin 8) :
    (p.onNotices f).ring r = p.ring r := rfl

@[simp] theorem Part.onNotices_slot (p : Part) (f : NoticeUnit → NoticeUnit) (k : Fin 8) :
    (p.onNotices f).slot k = p.slot k := rfl

@[simp] theorem Part.onNotices_window (p : Part) (f : NoticeUnit → NoticeUnit) (w : Fin 16) :
    (p.onNotices f).window w = p.window w := rfl

@[simp] theorem Part.onNotices_cring (p : Part) (f : NoticeUnit → NoticeUnit) (c : Fin 8) :
    (p.onNotices f).cring c = p.cring c := rfl

@[simp] theorem Part.onNotices_request (p : Part) (f : NoticeUnit → NoticeUnit) (q : Source) :
    (p.onNotices f).request q = p.request q := rfl

@[simp] theorem Part.onCompl_engine (p : Part) (f : CompletionUnit → CompletionUnit) :
    (p.onCompl f).engine = p.engine := rfl

@[simp] theorem Part.onCompl_host (p : Part) (f : CompletionUnit → CompletionUnit) :
    (p.onCompl f).host = p.host := rfl

@[simp] theorem Part.onCompl_admin (p : Part) (f : CompletionUnit → CompletionUnit) :
    (p.onCompl f).admin = p.admin := rfl

@[simp] theorem Part.onCompl_fetch (p : Part) (f : CompletionUnit → CompletionUnit) :
    (p.onCompl f).fetch = p.fetch := rfl

@[simp] theorem Part.onCompl_sched (p : Part) (f : CompletionUnit → CompletionUnit) :
    (p.onCompl f).sched = p.sched := rfl

@[simp] theorem Part.onCompl_windows (p : Part) (f : CompletionUnit → CompletionUnit) :
    (p.onCompl f).windows = p.windows := rfl

@[simp] theorem Part.onCompl_master (p : Part) (f : CompletionUnit → CompletionUnit) :
    (p.onCompl f).master = p.master := rfl

@[simp] theorem Part.onCompl_port (p : Part) (f : CompletionUnit → CompletionUnit) :
    (p.onCompl f).port = p.port := rfl

@[simp] theorem Part.onCompl_notices (p : Part) (f : CompletionUnit → CompletionUnit) :
    (p.onCompl f).notices = p.notices := rfl

@[simp] theorem Part.onCompl_compl (p : Part) (f : CompletionUnit → CompletionUnit) :
    (p.onCompl f).compl = f p.compl := rfl

@[simp] theorem Part.onCompl_stats (p : Part) (f : CompletionUnit → CompletionUnit) :
    (p.onCompl f).stats = p.stats := rfl

@[simp] theorem Part.onCompl_out (p : Part) (f : CompletionUnit → CompletionUnit) :
    (p.onCompl f).out = p.out := rfl

@[simp] theorem Part.onCompl_ring (p : Part) (f : CompletionUnit → CompletionUnit) (r : Fin 8) :
    (p.onCompl f).ring r = p.ring r := rfl

@[simp] theorem Part.onCompl_slot (p : Part) (f : CompletionUnit → CompletionUnit) (k : Fin 8) :
    (p.onCompl f).slot k = p.slot k := rfl

@[simp] theorem Part.onCompl_window (p : Part) (f : CompletionUnit → CompletionUnit) (w : Fin 16) :
    (p.onCompl f).window w = p.window w := rfl

@[simp] theorem Part.onCompl_entry (p : Part) (f : CompletionUnit → CompletionUnit) (b : Fin 4) :
    (p.onCompl f).entry b = p.entry b := rfl

@[simp] theorem Part.onCompl_request (p : Part) (f : CompletionUnit → CompletionUnit) (q : Source) :
    (p.onCompl f).request q = p.request q := rfl

@[simp] theorem Part.onStats_engine (p : Part) (f : Stats → Stats) :
    (p.onStats f).engine = p.engine := rfl

@[simp] theorem Part.onStats_host (p : Part) (f : Stats → Stats) :
    (p.onStats f).host = p.host := rfl

@[simp] theorem Part.onStats_admin (p : Part) (f : Stats → Stats) :
    (p.onStats f).admin = p.admin := rfl

@[simp] theorem Part.onStats_fetch (p : Part) (f : Stats → Stats) :
    (p.onStats f).fetch = p.fetch := rfl

@[simp] theorem Part.onStats_sched (p : Part) (f : Stats → Stats) :
    (p.onStats f).sched = p.sched := rfl

@[simp] theorem Part.onStats_windows (p : Part) (f : Stats → Stats) :
    (p.onStats f).windows = p.windows := rfl

@[simp] theorem Part.onStats_master (p : Part) (f : Stats → Stats) :
    (p.onStats f).master = p.master := rfl

@[simp] theorem Part.onStats_port (p : Part) (f : Stats → Stats) :
    (p.onStats f).port = p.port := rfl

@[simp] theorem Part.onStats_notices (p : Part) (f : Stats → Stats) :
    (p.onStats f).notices = p.notices := rfl

@[simp] theorem Part.onStats_compl (p : Part) (f : Stats → Stats) :
    (p.onStats f).compl = p.compl := rfl

@[simp] theorem Part.onStats_stats (p : Part) (f : Stats → Stats) :
    (p.onStats f).stats = f p.stats := rfl

@[simp] theorem Part.onStats_out (p : Part) (f : Stats → Stats) :
    (p.onStats f).out = p.out := rfl

@[simp] theorem Part.onStats_ring (p : Part) (f : Stats → Stats) (r : Fin 8) :
    (p.onStats f).ring r = p.ring r := rfl

@[simp] theorem Part.onStats_slot (p : Part) (f : Stats → Stats) (k : Fin 8) :
    (p.onStats f).slot k = p.slot k := rfl

@[simp] theorem Part.onStats_window (p : Part) (f : Stats → Stats) (w : Fin 16) :
    (p.onStats f).window w = p.window w := rfl

@[simp] theorem Part.onStats_cring (p : Part) (f : Stats → Stats) (c : Fin 8) :
    (p.onStats f).cring c = p.cring c := rfl

@[simp] theorem Part.onStats_entry (p : Part) (f : Stats → Stats) (b : Fin 4) :
    (p.onStats f).entry b = p.entry b := rfl

@[simp] theorem Part.onStats_request (p : Part) (f : Stats → Stats) (q : Source) :
    (p.onStats f).request q = p.request q := rfl

@[simp] theorem Part.emit_engine (p : Part) (o : Output) :
    (p.emit o).engine = p.engine := rfl

@[simp] theorem Part.emit_host (p : Part) (o : Output) :
    (p.emit o).host = p.host := rfl

@[simp] theorem Part.emit_admin (p : Part) (o : Output) :
    (p.emit o).admin = p.admin := rfl

@[simp] theorem Part.emit_fetch (p : Part) (o : Output) :
    (p.emit o).fetch = p.fetch := rfl

@[simp] theorem Part.emit_sched (p : Part) (o : Output) :
    (p.emit o).sched = p.sched := rfl

@[simp] theorem Part.emit_windows (p : Part) (o : Output) :
    (p.emit o).windows = p.windows := rfl

@[simp] theorem Part.emit_master (p : Part) (o : Output) :
    (p.emit o).master = p.master := rfl

@[simp] theorem Part.emit_port (p : Part) (o : Output) :
    (p.emit o).port = p.port := rfl

@[simp] theorem Part.emit_notices (p : Part) (o : Output) :
    (p.emit o).notices = p.notices := rfl

@[simp] theorem Part.emit_compl (p : Part) (o : Output) :
    (p.emit o).compl = p.compl := rfl

@[simp] theorem Part.emit_stats (p : Part) (o : Output) :
    (p.emit o).stats = p.stats := rfl

@[simp] theorem Part.emit_out (p : Part) (o : Output) :
    (p.emit o).out = p.out ++ [o] := rfl

@[simp] theorem Part.emit_ring (p : Part) (o : Output) (r : Fin 8) :
    (p.emit o).ring r = p.ring r := rfl

@[simp] theorem Part.emit_slot (p : Part) (o : Output) (k : Fin 8) :
    (p.emit o).slot k = p.slot k := rfl

@[simp] theorem Part.emit_window (p : Part) (o : Output) (w : Fin 16) :
    (p.emit o).window w = p.window w := rfl

@[simp] theorem Part.emit_cring (p : Part) (o : Output) (c : Fin 8) :
    (p.emit o).cring c = p.cring c := rfl

@[simp] theorem Part.emit_entry (p : Part) (o : Output) (b : Fin 4) :
    (p.emit o).entry b = p.entry b := rfl

@[simp] theorem Part.emit_request (p : Part) (o : Output) (q : Source) :
    (p.emit o).request q = p.request q := rfl

/-! ### Named updates keep the other blocks -/

@[simp] theorem Part.modRing_engine (p : Part) (i : Fin 8) (f : SubmissionRing → SubmissionRing) :
    (p.modRing i f).engine = p.engine := rfl

@[simp] theorem Part.modRing_host (p : Part) (i : Fin 8) (f : SubmissionRing → SubmissionRing) :
    (p.modRing i f).host = p.host := rfl

@[simp] theorem Part.modRing_admin (p : Part) (i : Fin 8) (f : SubmissionRing → SubmissionRing) :
    (p.modRing i f).admin = p.admin := rfl

@[simp] theorem Part.modRing_sched (p : Part) (i : Fin 8) (f : SubmissionRing → SubmissionRing) :
    (p.modRing i f).sched = p.sched := rfl

@[simp] theorem Part.modRing_windows (p : Part) (i : Fin 8) (f : SubmissionRing → SubmissionRing) :
    (p.modRing i f).windows = p.windows := rfl

@[simp] theorem Part.modRing_master (p : Part) (i : Fin 8) (f : SubmissionRing → SubmissionRing) :
    (p.modRing i f).master = p.master := rfl

@[simp] theorem Part.modRing_port (p : Part) (i : Fin 8) (f : SubmissionRing → SubmissionRing) :
    (p.modRing i f).port = p.port := rfl

@[simp] theorem Part.modRing_notices (p : Part) (i : Fin 8) (f : SubmissionRing → SubmissionRing) :
    (p.modRing i f).notices = p.notices := rfl

@[simp] theorem Part.modRing_compl (p : Part) (i : Fin 8) (f : SubmissionRing → SubmissionRing) :
    (p.modRing i f).compl = p.compl := rfl

@[simp] theorem Part.modRing_stats (p : Part) (i : Fin 8) (f : SubmissionRing → SubmissionRing) :
    (p.modRing i f).stats = p.stats := rfl

@[simp] theorem Part.modRing_out (p : Part) (i : Fin 8) (f : SubmissionRing → SubmissionRing) :
    (p.modRing i f).out = p.out := rfl

@[simp] theorem Part.modRing_slot (p : Part) (i : Fin 8) (f : SubmissionRing → SubmissionRing) (k : Fin 8) :
    (p.modRing i f).slot k = p.slot k := rfl

@[simp] theorem Part.modRing_window (p : Part) (i : Fin 8) (f : SubmissionRing → SubmissionRing) (w : Fin 16) :
    (p.modRing i f).window w = p.window w := rfl

@[simp] theorem Part.modRing_cring (p : Part) (i : Fin 8) (f : SubmissionRing → SubmissionRing) (c : Fin 8) :
    (p.modRing i f).cring c = p.cring c := rfl

@[simp] theorem Part.modRing_entry (p : Part) (i : Fin 8) (f : SubmissionRing → SubmissionRing) (b : Fin 4) :
    (p.modRing i f).entry b = p.entry b := rfl

@[simp] theorem Part.modRing_request (p : Part) (i : Fin 8) (f : SubmissionRing → SubmissionRing) (q : Source) :
    (p.modRing i f).request q = p.request q := rfl

@[simp] theorem Part.modSlot_engine (p : Part) (i : Fin 8) (f : Slot → Slot) :
    (p.modSlot i f).engine = p.engine := rfl

@[simp] theorem Part.modSlot_host (p : Part) (i : Fin 8) (f : Slot → Slot) :
    (p.modSlot i f).host = p.host := rfl

@[simp] theorem Part.modSlot_admin (p : Part) (i : Fin 8) (f : Slot → Slot) :
    (p.modSlot i f).admin = p.admin := rfl

@[simp] theorem Part.modSlot_fetch (p : Part) (i : Fin 8) (f : Slot → Slot) :
    (p.modSlot i f).fetch = p.fetch := rfl

@[simp] theorem Part.modSlot_windows (p : Part) (i : Fin 8) (f : Slot → Slot) :
    (p.modSlot i f).windows = p.windows := rfl

@[simp] theorem Part.modSlot_master (p : Part) (i : Fin 8) (f : Slot → Slot) :
    (p.modSlot i f).master = p.master := rfl

@[simp] theorem Part.modSlot_port (p : Part) (i : Fin 8) (f : Slot → Slot) :
    (p.modSlot i f).port = p.port := rfl

@[simp] theorem Part.modSlot_notices (p : Part) (i : Fin 8) (f : Slot → Slot) :
    (p.modSlot i f).notices = p.notices := rfl

@[simp] theorem Part.modSlot_compl (p : Part) (i : Fin 8) (f : Slot → Slot) :
    (p.modSlot i f).compl = p.compl := rfl

@[simp] theorem Part.modSlot_stats (p : Part) (i : Fin 8) (f : Slot → Slot) :
    (p.modSlot i f).stats = p.stats := rfl

@[simp] theorem Part.modSlot_out (p : Part) (i : Fin 8) (f : Slot → Slot) :
    (p.modSlot i f).out = p.out := rfl

@[simp] theorem Part.modSlot_ring (p : Part) (i : Fin 8) (f : Slot → Slot) (r : Fin 8) :
    (p.modSlot i f).ring r = p.ring r := rfl

@[simp] theorem Part.modSlot_window (p : Part) (i : Fin 8) (f : Slot → Slot) (w : Fin 16) :
    (p.modSlot i f).window w = p.window w := rfl

@[simp] theorem Part.modSlot_cring (p : Part) (i : Fin 8) (f : Slot → Slot) (c : Fin 8) :
    (p.modSlot i f).cring c = p.cring c := rfl

@[simp] theorem Part.modSlot_entry (p : Part) (i : Fin 8) (f : Slot → Slot) (b : Fin 4) :
    (p.modSlot i f).entry b = p.entry b := rfl

@[simp] theorem Part.modSlot_request (p : Part) (i : Fin 8) (f : Slot → Slot) (q : Source) :
    (p.modSlot i f).request q = p.request q := rfl

@[simp] theorem Part.modWindow_engine (p : Part) (i : Fin 16) (f : Window → Window) :
    (p.modWindow i f).engine = p.engine := rfl

@[simp] theorem Part.modWindow_host (p : Part) (i : Fin 16) (f : Window → Window) :
    (p.modWindow i f).host = p.host := rfl

@[simp] theorem Part.modWindow_admin (p : Part) (i : Fin 16) (f : Window → Window) :
    (p.modWindow i f).admin = p.admin := rfl

@[simp] theorem Part.modWindow_fetch (p : Part) (i : Fin 16) (f : Window → Window) :
    (p.modWindow i f).fetch = p.fetch := rfl

@[simp] theorem Part.modWindow_sched (p : Part) (i : Fin 16) (f : Window → Window) :
    (p.modWindow i f).sched = p.sched := rfl

@[simp] theorem Part.modWindow_master (p : Part) (i : Fin 16) (f : Window → Window) :
    (p.modWindow i f).master = p.master := rfl

@[simp] theorem Part.modWindow_port (p : Part) (i : Fin 16) (f : Window → Window) :
    (p.modWindow i f).port = p.port := rfl

@[simp] theorem Part.modWindow_notices (p : Part) (i : Fin 16) (f : Window → Window) :
    (p.modWindow i f).notices = p.notices := rfl

@[simp] theorem Part.modWindow_compl (p : Part) (i : Fin 16) (f : Window → Window) :
    (p.modWindow i f).compl = p.compl := rfl

@[simp] theorem Part.modWindow_stats (p : Part) (i : Fin 16) (f : Window → Window) :
    (p.modWindow i f).stats = p.stats := rfl

@[simp] theorem Part.modWindow_out (p : Part) (i : Fin 16) (f : Window → Window) :
    (p.modWindow i f).out = p.out := rfl

@[simp] theorem Part.modWindow_ring (p : Part) (i : Fin 16) (f : Window → Window) (r : Fin 8) :
    (p.modWindow i f).ring r = p.ring r := rfl

@[simp] theorem Part.modWindow_slot (p : Part) (i : Fin 16) (f : Window → Window) (k : Fin 8) :
    (p.modWindow i f).slot k = p.slot k := rfl

@[simp] theorem Part.modWindow_cring (p : Part) (i : Fin 16) (f : Window → Window) (c : Fin 8) :
    (p.modWindow i f).cring c = p.cring c := rfl

@[simp] theorem Part.modWindow_entry (p : Part) (i : Fin 16) (f : Window → Window) (b : Fin 4) :
    (p.modWindow i f).entry b = p.entry b := rfl

@[simp] theorem Part.modWindow_request (p : Part) (i : Fin 16) (f : Window → Window) (q : Source) :
    (p.modWindow i f).request q = p.request q := rfl

@[simp] theorem Part.modCring_engine (p : Part) (i : Fin 8) (f : CompletionRing → CompletionRing) :
    (p.modCring i f).engine = p.engine := rfl

@[simp] theorem Part.modCring_host (p : Part) (i : Fin 8) (f : CompletionRing → CompletionRing) :
    (p.modCring i f).host = p.host := rfl

@[simp] theorem Part.modCring_admin (p : Part) (i : Fin 8) (f : CompletionRing → CompletionRing) :
    (p.modCring i f).admin = p.admin := rfl

@[simp] theorem Part.modCring_fetch (p : Part) (i : Fin 8) (f : CompletionRing → CompletionRing) :
    (p.modCring i f).fetch = p.fetch := rfl

@[simp] theorem Part.modCring_sched (p : Part) (i : Fin 8) (f : CompletionRing → CompletionRing) :
    (p.modCring i f).sched = p.sched := rfl

@[simp] theorem Part.modCring_windows (p : Part) (i : Fin 8) (f : CompletionRing → CompletionRing) :
    (p.modCring i f).windows = p.windows := rfl

@[simp] theorem Part.modCring_master (p : Part) (i : Fin 8) (f : CompletionRing → CompletionRing) :
    (p.modCring i f).master = p.master := rfl

@[simp] theorem Part.modCring_port (p : Part) (i : Fin 8) (f : CompletionRing → CompletionRing) :
    (p.modCring i f).port = p.port := rfl

@[simp] theorem Part.modCring_notices (p : Part) (i : Fin 8) (f : CompletionRing → CompletionRing) :
    (p.modCring i f).notices = p.notices := rfl

@[simp] theorem Part.modCring_stats (p : Part) (i : Fin 8) (f : CompletionRing → CompletionRing) :
    (p.modCring i f).stats = p.stats := rfl

@[simp] theorem Part.modCring_out (p : Part) (i : Fin 8) (f : CompletionRing → CompletionRing) :
    (p.modCring i f).out = p.out := rfl

@[simp] theorem Part.modCring_ring (p : Part) (i : Fin 8) (f : CompletionRing → CompletionRing) (r : Fin 8) :
    (p.modCring i f).ring r = p.ring r := rfl

@[simp] theorem Part.modCring_slot (p : Part) (i : Fin 8) (f : CompletionRing → CompletionRing) (k : Fin 8) :
    (p.modCring i f).slot k = p.slot k := rfl

@[simp] theorem Part.modCring_window (p : Part) (i : Fin 8) (f : CompletionRing → CompletionRing) (w : Fin 16) :
    (p.modCring i f).window w = p.window w := rfl

@[simp] theorem Part.modCring_entry (p : Part) (i : Fin 8) (f : CompletionRing → CompletionRing) (b : Fin 4) :
    (p.modCring i f).entry b = p.entry b := rfl

@[simp] theorem Part.modCring_request (p : Part) (i : Fin 8) (f : CompletionRing → CompletionRing) (q : Source) :
    (p.modCring i f).request q = p.request q := rfl

@[simp] theorem Part.modEntry_engine (p : Part) (i : Fin 4) (f : BufferEntry → BufferEntry) :
    (p.modEntry i f).engine = p.engine := rfl

@[simp] theorem Part.modEntry_host (p : Part) (i : Fin 4) (f : BufferEntry → BufferEntry) :
    (p.modEntry i f).host = p.host := rfl

@[simp] theorem Part.modEntry_admin (p : Part) (i : Fin 4) (f : BufferEntry → BufferEntry) :
    (p.modEntry i f).admin = p.admin := rfl

@[simp] theorem Part.modEntry_fetch (p : Part) (i : Fin 4) (f : BufferEntry → BufferEntry) :
    (p.modEntry i f).fetch = p.fetch := rfl

@[simp] theorem Part.modEntry_sched (p : Part) (i : Fin 4) (f : BufferEntry → BufferEntry) :
    (p.modEntry i f).sched = p.sched := rfl

@[simp] theorem Part.modEntry_windows (p : Part) (i : Fin 4) (f : BufferEntry → BufferEntry) :
    (p.modEntry i f).windows = p.windows := rfl

@[simp] theorem Part.modEntry_master (p : Part) (i : Fin 4) (f : BufferEntry → BufferEntry) :
    (p.modEntry i f).master = p.master := rfl

@[simp] theorem Part.modEntry_port (p : Part) (i : Fin 4) (f : BufferEntry → BufferEntry) :
    (p.modEntry i f).port = p.port := rfl

@[simp] theorem Part.modEntry_compl (p : Part) (i : Fin 4) (f : BufferEntry → BufferEntry) :
    (p.modEntry i f).compl = p.compl := rfl

@[simp] theorem Part.modEntry_stats (p : Part) (i : Fin 4) (f : BufferEntry → BufferEntry) :
    (p.modEntry i f).stats = p.stats := rfl

@[simp] theorem Part.modEntry_out (p : Part) (i : Fin 4) (f : BufferEntry → BufferEntry) :
    (p.modEntry i f).out = p.out := rfl

@[simp] theorem Part.modEntry_ring (p : Part) (i : Fin 4) (f : BufferEntry → BufferEntry) (r : Fin 8) :
    (p.modEntry i f).ring r = p.ring r := rfl

@[simp] theorem Part.modEntry_slot (p : Part) (i : Fin 4) (f : BufferEntry → BufferEntry) (k : Fin 8) :
    (p.modEntry i f).slot k = p.slot k := rfl

@[simp] theorem Part.modEntry_window (p : Part) (i : Fin 4) (f : BufferEntry → BufferEntry) (w : Fin 16) :
    (p.modEntry i f).window w = p.window w := rfl

@[simp] theorem Part.modEntry_cring (p : Part) (i : Fin 4) (f : BufferEntry → BufferEntry) (c : Fin 8) :
    (p.modEntry i f).cring c = p.cring c := rfl

@[simp] theorem Part.modEntry_request (p : Part) (i : Fin 4) (f : BufferEntry → BufferEntry) (q : Source) :
    (p.modEntry i f).request q = p.request q := rfl

@[simp] theorem Part.modBank_engine (p : Part) (i : Fin 16) (j : Nat) (f : Bank → Bank) :
    (p.modBank i j f).engine = p.engine := rfl

@[simp] theorem Part.modBank_host (p : Part) (i : Fin 16) (j : Nat) (f : Bank → Bank) :
    (p.modBank i j f).host = p.host := rfl

@[simp] theorem Part.modBank_admin (p : Part) (i : Fin 16) (j : Nat) (f : Bank → Bank) :
    (p.modBank i j f).admin = p.admin := rfl

@[simp] theorem Part.modBank_fetch (p : Part) (i : Fin 16) (j : Nat) (f : Bank → Bank) :
    (p.modBank i j f).fetch = p.fetch := rfl

@[simp] theorem Part.modBank_sched (p : Part) (i : Fin 16) (j : Nat) (f : Bank → Bank) :
    (p.modBank i j f).sched = p.sched := rfl

@[simp] theorem Part.modBank_master (p : Part) (i : Fin 16) (j : Nat) (f : Bank → Bank) :
    (p.modBank i j f).master = p.master := rfl

@[simp] theorem Part.modBank_port (p : Part) (i : Fin 16) (j : Nat) (f : Bank → Bank) :
    (p.modBank i j f).port = p.port := rfl

@[simp] theorem Part.modBank_notices (p : Part) (i : Fin 16) (j : Nat) (f : Bank → Bank) :
    (p.modBank i j f).notices = p.notices := rfl

@[simp] theorem Part.modBank_compl (p : Part) (i : Fin 16) (j : Nat) (f : Bank → Bank) :
    (p.modBank i j f).compl = p.compl := rfl

@[simp] theorem Part.modBank_stats (p : Part) (i : Fin 16) (j : Nat) (f : Bank → Bank) :
    (p.modBank i j f).stats = p.stats := rfl

@[simp] theorem Part.modBank_out (p : Part) (i : Fin 16) (j : Nat) (f : Bank → Bank) :
    (p.modBank i j f).out = p.out := rfl

@[simp] theorem Part.modBank_ring (p : Part) (i : Fin 16) (j : Nat) (f : Bank → Bank) (r : Fin 8) :
    (p.modBank i j f).ring r = p.ring r := rfl

@[simp] theorem Part.modBank_slot (p : Part) (i : Fin 16) (j : Nat) (f : Bank → Bank) (k : Fin 8) :
    (p.modBank i j f).slot k = p.slot k := rfl

@[simp] theorem Part.modBank_cring (p : Part) (i : Fin 16) (j : Nat) (f : Bank → Bank) (c : Fin 8) :
    (p.modBank i j f).cring c = p.cring c := rfl

@[simp] theorem Part.modBank_entry (p : Part) (i : Fin 16) (j : Nat) (f : Bank → Bank) (b : Fin 4) :
    (p.modBank i j f).entry b = p.entry b := rfl

@[simp] theorem Part.modBank_request (p : Part) (i : Fin 16) (j : Nat) (f : Bank → Bank) (q : Source) :
    (p.modBank i j f).request q = p.request q := rfl

@[simp] theorem Part.modOperation_engine (p : Part) (f : Operation → Operation) :
    (p.modOperation f).engine = p.engine := rfl

@[simp] theorem Part.modOperation_host (p : Part) (f : Operation → Operation) :
    (p.modOperation f).host = p.host := rfl

@[simp] theorem Part.modOperation_admin (p : Part) (f : Operation → Operation) :
    (p.modOperation f).admin = p.admin := rfl

@[simp] theorem Part.modOperation_fetch (p : Part) (f : Operation → Operation) :
    (p.modOperation f).fetch = p.fetch := rfl

@[simp] theorem Part.modOperation_sched (p : Part) (f : Operation → Operation) :
    (p.modOperation f).sched = p.sched := rfl

@[simp] theorem Part.modOperation_windows (p : Part) (f : Operation → Operation) :
    (p.modOperation f).windows = p.windows := rfl

@[simp] theorem Part.modOperation_port (p : Part) (f : Operation → Operation) :
    (p.modOperation f).port = p.port := rfl

@[simp] theorem Part.modOperation_notices (p : Part) (f : Operation → Operation) :
    (p.modOperation f).notices = p.notices := rfl

@[simp] theorem Part.modOperation_compl (p : Part) (f : Operation → Operation) :
    (p.modOperation f).compl = p.compl := rfl

@[simp] theorem Part.modOperation_stats (p : Part) (f : Operation → Operation) :
    (p.modOperation f).stats = p.stats := rfl

@[simp] theorem Part.modOperation_out (p : Part) (f : Operation → Operation) :
    (p.modOperation f).out = p.out := rfl

@[simp] theorem Part.modOperation_ring (p : Part) (f : Operation → Operation) (r : Fin 8) :
    (p.modOperation f).ring r = p.ring r := rfl

@[simp] theorem Part.modOperation_slot (p : Part) (f : Operation → Operation) (k : Fin 8) :
    (p.modOperation f).slot k = p.slot k := rfl

@[simp] theorem Part.modOperation_window (p : Part) (f : Operation → Operation) (w : Fin 16) :
    (p.modOperation f).window w = p.window w := rfl

@[simp] theorem Part.modOperation_cring (p : Part) (f : Operation → Operation) (c : Fin 8) :
    (p.modOperation f).cring c = p.cring c := rfl

@[simp] theorem Part.modOperation_entry (p : Part) (f : Operation → Operation) (b : Fin 4) :
    (p.modOperation f).entry b = p.entry b := rfl

@[simp] theorem Part.modOperation_request (p : Part) (f : Operation → Operation) (q : Source) :
    (p.modOperation f).request q = p.request q := rfl

@[simp] theorem Part.reserve_engine (p : Part) (i : Fin 8) :
    (p.reserve i).engine = p.engine := rfl

@[simp] theorem Part.reserve_host (p : Part) (i : Fin 8) :
    (p.reserve i).host = p.host := rfl

@[simp] theorem Part.reserve_admin (p : Part) (i : Fin 8) :
    (p.reserve i).admin = p.admin := rfl

@[simp] theorem Part.reserve_fetch (p : Part) (i : Fin 8) :
    (p.reserve i).fetch = p.fetch := rfl

@[simp] theorem Part.reserve_sched (p : Part) (i : Fin 8) :
    (p.reserve i).sched = p.sched := rfl

@[simp] theorem Part.reserve_windows (p : Part) (i : Fin 8) :
    (p.reserve i).windows = p.windows := rfl

@[simp] theorem Part.reserve_master (p : Part) (i : Fin 8) :
    (p.reserve i).master = p.master := rfl

@[simp] theorem Part.reserve_port (p : Part) (i : Fin 8) :
    (p.reserve i).port = p.port := rfl

@[simp] theorem Part.reserve_notices (p : Part) (i : Fin 8) :
    (p.reserve i).notices = p.notices := rfl

@[simp] theorem Part.reserve_stats (p : Part) (i : Fin 8) :
    (p.reserve i).stats = p.stats := rfl

@[simp] theorem Part.reserve_out (p : Part) (i : Fin 8) :
    (p.reserve i).out = p.out := rfl

@[simp] theorem Part.reserve_ring (p : Part) (i : Fin 8) (r : Fin 8) :
    (p.reserve i).ring r = p.ring r := rfl

@[simp] theorem Part.reserve_slot (p : Part) (i : Fin 8) (k : Fin 8) :
    (p.reserve i).slot k = p.slot k := rfl

@[simp] theorem Part.reserve_window (p : Part) (i : Fin 8) (w : Fin 16) :
    (p.reserve i).window w = p.window w := rfl

@[simp] theorem Part.reserve_entry (p : Part) (i : Fin 8) (b : Fin 4) :
    (p.reserve i).entry b = p.entry b := rfl

@[simp] theorem Part.reserve_request (p : Part) (i : Fin 8) (q : Source) :
    (p.reserve i).request q = p.request q := rfl

@[simp] theorem Part.clearBars_engine (p : Part)  :
    (p.clearBars).engine = p.engine := rfl

@[simp] theorem Part.clearBars_host (p : Part)  :
    (p.clearBars).host = p.host := rfl

@[simp] theorem Part.clearBars_admin (p : Part)  :
    (p.clearBars).admin = p.admin := rfl

@[simp] theorem Part.clearBars_sched (p : Part)  :
    (p.clearBars).sched = p.sched := rfl

@[simp] theorem Part.clearBars_windows (p : Part)  :
    (p.clearBars).windows = p.windows := rfl

@[simp] theorem Part.clearBars_master (p : Part)  :
    (p.clearBars).master = p.master := rfl

@[simp] theorem Part.clearBars_port (p : Part)  :
    (p.clearBars).port = p.port := rfl

@[simp] theorem Part.clearBars_notices (p : Part)  :
    (p.clearBars).notices = p.notices := rfl

@[simp] theorem Part.clearBars_compl (p : Part)  :
    (p.clearBars).compl = p.compl := rfl

@[simp] theorem Part.clearBars_stats (p : Part)  :
    (p.clearBars).stats = p.stats := rfl

@[simp] theorem Part.clearBars_out (p : Part)  :
    (p.clearBars).out = p.out := rfl

@[simp] theorem Part.clearBars_slot (p : Part)  (k : Fin 8) :
    (p.clearBars).slot k = p.slot k := rfl

@[simp] theorem Part.clearBars_window (p : Part)  (w : Fin 16) :
    (p.clearBars).window w = p.window w := rfl

@[simp] theorem Part.clearBars_cring (p : Part)  (c : Fin 8) :
    (p.clearBars).cring c = p.cring c := rfl

@[simp] theorem Part.clearBars_entry (p : Part)  (b : Fin 4) :
    (p.clearBars).entry b = p.entry b := rfl

@[simp] theorem Part.clearBars_request (p : Part)  (q : Source) :
    (p.clearBars).request q = p.request q := rfl

@[simp] theorem Part.clearDeferred_engine (p : Part)  :
    (p.clearDeferred).engine = p.engine := rfl

@[simp] theorem Part.clearDeferred_host (p : Part)  :
    (p.clearDeferred).host = p.host := rfl

@[simp] theorem Part.clearDeferred_admin (p : Part)  :
    (p.clearDeferred).admin = p.admin := rfl

@[simp] theorem Part.clearDeferred_fetch (p : Part)  :
    (p.clearDeferred).fetch = p.fetch := rfl

@[simp] theorem Part.clearDeferred_windows (p : Part)  :
    (p.clearDeferred).windows = p.windows := rfl

@[simp] theorem Part.clearDeferred_master (p : Part)  :
    (p.clearDeferred).master = p.master := rfl

@[simp] theorem Part.clearDeferred_port (p : Part)  :
    (p.clearDeferred).port = p.port := rfl

@[simp] theorem Part.clearDeferred_notices (p : Part)  :
    (p.clearDeferred).notices = p.notices := rfl

@[simp] theorem Part.clearDeferred_compl (p : Part)  :
    (p.clearDeferred).compl = p.compl := rfl

@[simp] theorem Part.clearDeferred_stats (p : Part)  :
    (p.clearDeferred).stats = p.stats := rfl

@[simp] theorem Part.clearDeferred_out (p : Part)  :
    (p.clearDeferred).out = p.out := rfl

@[simp] theorem Part.clearDeferred_ring (p : Part)  (r : Fin 8) :
    (p.clearDeferred).ring r = p.ring r := rfl

@[simp] theorem Part.clearDeferred_window (p : Part)  (w : Fin 16) :
    (p.clearDeferred).window w = p.window w := rfl

@[simp] theorem Part.clearDeferred_cring (p : Part)  (c : Fin 8) :
    (p.clearDeferred).cring c = p.cring c := rfl

@[simp] theorem Part.clearDeferred_entry (p : Part)  (b : Fin 4) :
    (p.clearDeferred).entry b = p.entry b := rfl

@[simp] theorem Part.clearDeferred_request (p : Part)  (q : Source) :
    (p.clearDeferred).request q = p.request q := rfl

@[simp] theorem Part.considerSlots_engine (p : Part)  :
    (p.considerSlots).engine = p.engine := rfl

@[simp] theorem Part.considerSlots_host (p : Part)  :
    (p.considerSlots).host = p.host := rfl

@[simp] theorem Part.considerSlots_admin (p : Part)  :
    (p.considerSlots).admin = p.admin := rfl

@[simp] theorem Part.considerSlots_fetch (p : Part)  :
    (p.considerSlots).fetch = p.fetch := rfl

@[simp] theorem Part.considerSlots_windows (p : Part)  :
    (p.considerSlots).windows = p.windows := rfl

@[simp] theorem Part.considerSlots_master (p : Part)  :
    (p.considerSlots).master = p.master := rfl

@[simp] theorem Part.considerSlots_port (p : Part)  :
    (p.considerSlots).port = p.port := rfl

@[simp] theorem Part.considerSlots_notices (p : Part)  :
    (p.considerSlots).notices = p.notices := rfl

@[simp] theorem Part.considerSlots_compl (p : Part)  :
    (p.considerSlots).compl = p.compl := rfl

@[simp] theorem Part.considerSlots_stats (p : Part)  :
    (p.considerSlots).stats = p.stats := rfl

@[simp] theorem Part.considerSlots_out (p : Part)  :
    (p.considerSlots).out = p.out := rfl

@[simp] theorem Part.considerSlots_ring (p : Part)  (r : Fin 8) :
    (p.considerSlots).ring r = p.ring r := rfl

@[simp] theorem Part.considerSlots_window (p : Part)  (w : Fin 16) :
    (p.considerSlots).window w = p.window w := rfl

@[simp] theorem Part.considerSlots_cring (p : Part)  (c : Fin 8) :
    (p.considerSlots).cring c = p.cring c := rfl

@[simp] theorem Part.considerSlots_entry (p : Part)  (b : Fin 4) :
    (p.considerSlots).entry b = p.entry b := rfl

@[simp] theorem Part.considerSlots_request (p : Part)  (q : Source) :
    (p.considerSlots).request q = p.request q := rfl

@[simp] theorem Part.endHold_engine (p : Part)  :
    (p.endHold).engine = p.engine := rfl

@[simp] theorem Part.endHold_host (p : Part)  :
    (p.endHold).host = p.host := rfl

@[simp] theorem Part.endHold_admin (p : Part)  :
    (p.endHold).admin = p.admin := rfl

@[simp] theorem Part.endHold_fetch (p : Part)  :
    (p.endHold).fetch = p.fetch := rfl

@[simp] theorem Part.endHold_sched (p : Part)  :
    (p.endHold).sched = p.sched := rfl

@[simp] theorem Part.endHold_windows (p : Part)  :
    (p.endHold).windows = p.windows := rfl

@[simp] theorem Part.endHold_master (p : Part)  :
    (p.endHold).master = p.master := rfl

@[simp] theorem Part.endHold_notices (p : Part)  :
    (p.endHold).notices = p.notices := rfl

@[simp] theorem Part.endHold_compl (p : Part)  :
    (p.endHold).compl = p.compl := rfl

@[simp] theorem Part.endHold_stats (p : Part)  :
    (p.endHold).stats = p.stats := rfl

@[simp] theorem Part.endHold_out (p : Part)  :
    (p.endHold).out = p.out := rfl

@[simp] theorem Part.endHold_ring (p : Part)  (r : Fin 8) :
    (p.endHold).ring r = p.ring r := rfl

@[simp] theorem Part.endHold_slot (p : Part)  (k : Fin 8) :
    (p.endHold).slot k = p.slot k := rfl

@[simp] theorem Part.endHold_window (p : Part)  (w : Fin 16) :
    (p.endHold).window w = p.window w := rfl

@[simp] theorem Part.endHold_cring (p : Part)  (c : Fin 8) :
    (p.endHold).cring c = p.cring c := rfl

@[simp] theorem Part.endHold_entry (p : Part)  (b : Fin 4) :
    (p.endHold).entry b = p.entry b := rfl

@[simp] theorem Part.endHold_request (p : Part)  (q : Source) :
    (p.endHold).request q = p.request q := rfl

@[simp] theorem Part.markFlight_engine (p : Part) (i : Fin 8) :
    (p.markFlight i).engine = p.engine := rfl

@[simp] theorem Part.markFlight_host (p : Part) (i : Fin 8) :
    (p.markFlight i).host = p.host := rfl

@[simp] theorem Part.markFlight_admin (p : Part) (i : Fin 8) :
    (p.markFlight i).admin = p.admin := rfl

@[simp] theorem Part.markFlight_sched (p : Part) (i : Fin 8) :
    (p.markFlight i).sched = p.sched := rfl

@[simp] theorem Part.markFlight_windows (p : Part) (i : Fin 8) :
    (p.markFlight i).windows = p.windows := rfl

@[simp] theorem Part.markFlight_master (p : Part) (i : Fin 8) :
    (p.markFlight i).master = p.master := rfl

@[simp] theorem Part.markFlight_port (p : Part) (i : Fin 8) :
    (p.markFlight i).port = p.port := rfl

@[simp] theorem Part.markFlight_notices (p : Part) (i : Fin 8) :
    (p.markFlight i).notices = p.notices := rfl

@[simp] theorem Part.markFlight_compl (p : Part) (i : Fin 8) :
    (p.markFlight i).compl = p.compl := rfl

@[simp] theorem Part.markFlight_stats (p : Part) (i : Fin 8) :
    (p.markFlight i).stats = p.stats := rfl

@[simp] theorem Part.markFlight_out (p : Part) (i : Fin 8) :
    (p.markFlight i).out = p.out := rfl

@[simp] theorem Part.markFlight_slot (p : Part) (i : Fin 8) (k : Fin 8) :
    (p.markFlight i).slot k = p.slot k := rfl

@[simp] theorem Part.markFlight_window (p : Part) (i : Fin 8) (w : Fin 16) :
    (p.markFlight i).window w = p.window w := rfl

@[simp] theorem Part.markFlight_cring (p : Part) (i : Fin 8) (c : Fin 8) :
    (p.markFlight i).cring c = p.cring c := rfl

@[simp] theorem Part.markFlight_entry (p : Part) (i : Fin 8) (b : Fin 4) :
    (p.markFlight i).entry b = p.entry b := rfl

@[simp] theorem Part.markFlight_request (p : Part) (i : Fin 8) (q : Source) :
    (p.markFlight i).request q = p.request q := rfl

@[simp] theorem Part.ask_engine (p : Part) (i : Source) (a : Access) :
    (p.ask i a).engine = p.engine := rfl

@[simp] theorem Part.ask_admin (p : Part) (i : Source) (a : Access) :
    (p.ask i a).admin = p.admin := rfl

@[simp] theorem Part.ask_fetch (p : Part) (i : Source) (a : Access) :
    (p.ask i a).fetch = p.fetch := rfl

@[simp] theorem Part.ask_sched (p : Part) (i : Source) (a : Access) :
    (p.ask i a).sched = p.sched := rfl

@[simp] theorem Part.ask_windows (p : Part) (i : Source) (a : Access) :
    (p.ask i a).windows = p.windows := rfl

@[simp] theorem Part.ask_master (p : Part) (i : Source) (a : Access) :
    (p.ask i a).master = p.master := rfl

@[simp] theorem Part.ask_port (p : Part) (i : Source) (a : Access) :
    (p.ask i a).port = p.port := rfl

@[simp] theorem Part.ask_notices (p : Part) (i : Source) (a : Access) :
    (p.ask i a).notices = p.notices := rfl

@[simp] theorem Part.ask_compl (p : Part) (i : Source) (a : Access) :
    (p.ask i a).compl = p.compl := rfl

@[simp] theorem Part.ask_stats (p : Part) (i : Source) (a : Access) :
    (p.ask i a).stats = p.stats := rfl

@[simp] theorem Part.ask_out (p : Part) (i : Source) (a : Access) :
    (p.ask i a).out = p.out := rfl

@[simp] theorem Part.ask_ring (p : Part) (i : Source) (a : Access) (r : Fin 8) :
    (p.ask i a).ring r = p.ring r := rfl

@[simp] theorem Part.ask_slot (p : Part) (i : Source) (a : Access) (k : Fin 8) :
    (p.ask i a).slot k = p.slot k := rfl

@[simp] theorem Part.ask_window (p : Part) (i : Source) (a : Access) (w : Fin 16) :
    (p.ask i a).window w = p.window w := rfl

@[simp] theorem Part.ask_cring (p : Part) (i : Source) (a : Access) (c : Fin 8) :
    (p.ask i a).cring c = p.cring c := rfl

@[simp] theorem Part.ask_entry (p : Part) (i : Source) (a : Access) (b : Fin 4) :
    (p.ask i a).entry b = p.entry b := rfl

@[simp] theorem Part.withdrawRequest_engine (p : Part) (i : Source) :
    (p.withdrawRequest i).engine = p.engine := rfl

@[simp] theorem Part.withdrawRequest_admin (p : Part) (i : Source) :
    (p.withdrawRequest i).admin = p.admin := rfl

@[simp] theorem Part.withdrawRequest_fetch (p : Part) (i : Source) :
    (p.withdrawRequest i).fetch = p.fetch := rfl

@[simp] theorem Part.withdrawRequest_sched (p : Part) (i : Source) :
    (p.withdrawRequest i).sched = p.sched := rfl

@[simp] theorem Part.withdrawRequest_windows (p : Part) (i : Source) :
    (p.withdrawRequest i).windows = p.windows := rfl

@[simp] theorem Part.withdrawRequest_master (p : Part) (i : Source) :
    (p.withdrawRequest i).master = p.master := rfl

@[simp] theorem Part.withdrawRequest_port (p : Part) (i : Source) :
    (p.withdrawRequest i).port = p.port := rfl

@[simp] theorem Part.withdrawRequest_notices (p : Part) (i : Source) :
    (p.withdrawRequest i).notices = p.notices := rfl

@[simp] theorem Part.withdrawRequest_compl (p : Part) (i : Source) :
    (p.withdrawRequest i).compl = p.compl := rfl

@[simp] theorem Part.withdrawRequest_stats (p : Part) (i : Source) :
    (p.withdrawRequest i).stats = p.stats := rfl

@[simp] theorem Part.withdrawRequest_out (p : Part) (i : Source) :
    (p.withdrawRequest i).out = p.out := rfl

@[simp] theorem Part.withdrawRequest_ring (p : Part) (i : Source) (r : Fin 8) :
    (p.withdrawRequest i).ring r = p.ring r := rfl

@[simp] theorem Part.withdrawRequest_slot (p : Part) (i : Source) (k : Fin 8) :
    (p.withdrawRequest i).slot k = p.slot k := rfl

@[simp] theorem Part.withdrawRequest_window (p : Part) (i : Source) (w : Fin 16) :
    (p.withdrawRequest i).window w = p.window w := rfl

@[simp] theorem Part.withdrawRequest_cring (p : Part) (i : Source) (c : Fin 8) :
    (p.withdrawRequest i).cring c = p.cring c := rfl

@[simp] theorem Part.withdrawRequest_entry (p : Part) (i : Source) (b : Fin 4) :
    (p.withdrawRequest i).entry b = p.entry b := rfl

@[simp] theorem Part.closeAccess_engine (p : Part)  :
    (p.closeAccess).engine = p.engine := rfl

@[simp] theorem Part.closeAccess_admin (p : Part)  :
    (p.closeAccess).admin = p.admin := rfl

@[simp] theorem Part.closeAccess_fetch (p : Part)  :
    (p.closeAccess).fetch = p.fetch := rfl

@[simp] theorem Part.closeAccess_sched (p : Part)  :
    (p.closeAccess).sched = p.sched := rfl

@[simp] theorem Part.closeAccess_windows (p : Part)  :
    (p.closeAccess).windows = p.windows := rfl

@[simp] theorem Part.closeAccess_master (p : Part)  :
    (p.closeAccess).master = p.master := rfl

@[simp] theorem Part.closeAccess_port (p : Part)  :
    (p.closeAccess).port = p.port := rfl

@[simp] theorem Part.closeAccess_notices (p : Part)  :
    (p.closeAccess).notices = p.notices := rfl

@[simp] theorem Part.closeAccess_compl (p : Part)  :
    (p.closeAccess).compl = p.compl := rfl

@[simp] theorem Part.closeAccess_stats (p : Part)  :
    (p.closeAccess).stats = p.stats := rfl

@[simp] theorem Part.closeAccess_out (p : Part)  :
    (p.closeAccess).out = p.out := rfl

@[simp] theorem Part.closeAccess_ring (p : Part)  (r : Fin 8) :
    (p.closeAccess).ring r = p.ring r := rfl

@[simp] theorem Part.closeAccess_slot (p : Part)  (k : Fin 8) :
    (p.closeAccess).slot k = p.slot k := rfl

@[simp] theorem Part.closeAccess_window (p : Part)  (w : Fin 16) :
    (p.closeAccess).window w = p.window w := rfl

@[simp] theorem Part.closeAccess_cring (p : Part)  (c : Fin 8) :
    (p.closeAccess).cring c = p.cring c := rfl

@[simp] theorem Part.closeAccess_entry (p : Part)  (b : Fin 4) :
    (p.closeAccess).entry b = p.entry b := rfl

@[simp] theorem Part.dropReceiving_engine (p : Part)  :
    (p.dropReceiving).engine = p.engine := rfl

@[simp] theorem Part.dropReceiving_host (p : Part)  :
    (p.dropReceiving).host = p.host := rfl

@[simp] theorem Part.dropReceiving_admin (p : Part)  :
    (p.dropReceiving).admin = p.admin := rfl

@[simp] theorem Part.dropReceiving_fetch (p : Part)  :
    (p.dropReceiving).fetch = p.fetch := rfl

@[simp] theorem Part.dropReceiving_sched (p : Part)  :
    (p.dropReceiving).sched = p.sched := rfl

@[simp] theorem Part.dropReceiving_windows (p : Part)  :
    (p.dropReceiving).windows = p.windows := rfl

@[simp] theorem Part.dropReceiving_master (p : Part)  :
    (p.dropReceiving).master = p.master := rfl

@[simp] theorem Part.dropReceiving_port (p : Part)  :
    (p.dropReceiving).port = p.port := rfl

@[simp] theorem Part.dropReceiving_compl (p : Part)  :
    (p.dropReceiving).compl = p.compl := rfl

@[simp] theorem Part.dropReceiving_stats (p : Part)  :
    (p.dropReceiving).stats = p.stats := rfl

@[simp] theorem Part.dropReceiving_out (p : Part)  :
    (p.dropReceiving).out = p.out := rfl

@[simp] theorem Part.dropReceiving_ring (p : Part)  (r : Fin 8) :
    (p.dropReceiving).ring r = p.ring r := rfl

@[simp] theorem Part.dropReceiving_slot (p : Part)  (k : Fin 8) :
    (p.dropReceiving).slot k = p.slot k := rfl

@[simp] theorem Part.dropReceiving_window (p : Part)  (w : Fin 16) :
    (p.dropReceiving).window w = p.window w := rfl

@[simp] theorem Part.dropReceiving_cring (p : Part)  (c : Fin 8) :
    (p.dropReceiving).cring c = p.cring c := rfl

@[simp] theorem Part.dropReceiving_request (p : Part)  (q : Source) :
    (p.dropReceiving).request q = p.request q := rfl

@[simp] theorem Part.loseBanks_engine (p : Part)  :
    (p.loseBanks).engine = p.engine := rfl

@[simp] theorem Part.loseBanks_host (p : Part)  :
    (p.loseBanks).host = p.host := rfl

@[simp] theorem Part.loseBanks_admin (p : Part)  :
    (p.loseBanks).admin = p.admin := rfl

@[simp] theorem Part.loseBanks_fetch (p : Part)  :
    (p.loseBanks).fetch = p.fetch := rfl

@[simp] theorem Part.loseBanks_sched (p : Part)  :
    (p.loseBanks).sched = p.sched := rfl

@[simp] theorem Part.loseBanks_master (p : Part)  :
    (p.loseBanks).master = p.master := rfl

@[simp] theorem Part.loseBanks_port (p : Part)  :
    (p.loseBanks).port = p.port := rfl

@[simp] theorem Part.loseBanks_notices (p : Part)  :
    (p.loseBanks).notices = p.notices := rfl

@[simp] theorem Part.loseBanks_compl (p : Part)  :
    (p.loseBanks).compl = p.compl := rfl

@[simp] theorem Part.loseBanks_stats (p : Part)  :
    (p.loseBanks).stats = p.stats := rfl

@[simp] theorem Part.loseBanks_out (p : Part)  :
    (p.loseBanks).out = p.out := rfl

@[simp] theorem Part.loseBanks_ring (p : Part)  (r : Fin 8) :
    (p.loseBanks).ring r = p.ring r := rfl

@[simp] theorem Part.loseBanks_slot (p : Part)  (k : Fin 8) :
    (p.loseBanks).slot k = p.slot k := rfl

@[simp] theorem Part.loseBanks_cring (p : Part)  (c : Fin 8) :
    (p.loseBanks).cring c = p.cring c := rfl

@[simp] theorem Part.loseBanks_entry (p : Part)  (b : Fin 4) :
    (p.loseBanks).entry b = p.entry b := rfl

@[simp] theorem Part.loseBanks_request (p : Part)  (q : Source) :
    (p.loseBanks).request q = p.request q := rfl

@[simp] theorem Part.waitFor_engine (p : Part) (i : Waiting) :
    (p.waitFor i).engine = p.engine := rfl

@[simp] theorem Part.waitFor_host (p : Part) (i : Waiting) :
    (p.waitFor i).host = p.host := rfl

@[simp] theorem Part.waitFor_fetch (p : Part) (i : Waiting) :
    (p.waitFor i).fetch = p.fetch := rfl

@[simp] theorem Part.waitFor_sched (p : Part) (i : Waiting) :
    (p.waitFor i).sched = p.sched := rfl

@[simp] theorem Part.waitFor_windows (p : Part) (i : Waiting) :
    (p.waitFor i).windows = p.windows := rfl

@[simp] theorem Part.waitFor_master (p : Part) (i : Waiting) :
    (p.waitFor i).master = p.master := rfl

@[simp] theorem Part.waitFor_port (p : Part) (i : Waiting) :
    (p.waitFor i).port = p.port := rfl

@[simp] theorem Part.waitFor_notices (p : Part) (i : Waiting) :
    (p.waitFor i).notices = p.notices := rfl

@[simp] theorem Part.waitFor_compl (p : Part) (i : Waiting) :
    (p.waitFor i).compl = p.compl := rfl

@[simp] theorem Part.waitFor_stats (p : Part) (i : Waiting) :
    (p.waitFor i).stats = p.stats := rfl

@[simp] theorem Part.waitFor_out (p : Part) (i : Waiting) :
    (p.waitFor i).out = p.out := rfl

@[simp] theorem Part.waitFor_ring (p : Part) (i : Waiting) (r : Fin 8) :
    (p.waitFor i).ring r = p.ring r := rfl

@[simp] theorem Part.waitFor_slot (p : Part) (i : Waiting) (k : Fin 8) :
    (p.waitFor i).slot k = p.slot k := rfl

@[simp] theorem Part.waitFor_window (p : Part) (i : Waiting) (w : Fin 16) :
    (p.waitFor i).window w = p.window w := rfl

@[simp] theorem Part.waitFor_cring (p : Part) (i : Waiting) (c : Fin 8) :
    (p.waitFor i).cring c = p.cring c := rfl

@[simp] theorem Part.waitFor_entry (p : Part) (i : Waiting) (b : Fin 4) :
    (p.waitFor i).entry b = p.entry b := rfl

@[simp] theorem Part.waitFor_request (p : Part) (i : Waiting) (q : Source) :
    (p.waitFor i).request q = p.request q := rfl

@[simp] theorem Part.masterIdle_engine (p : Part)  :
    (p.masterIdle).engine = p.engine := rfl

@[simp] theorem Part.masterIdle_host (p : Part)  :
    (p.masterIdle).host = p.host := rfl

@[simp] theorem Part.masterIdle_admin (p : Part)  :
    (p.masterIdle).admin = p.admin := rfl

@[simp] theorem Part.masterIdle_fetch (p : Part)  :
    (p.masterIdle).fetch = p.fetch := rfl

@[simp] theorem Part.masterIdle_sched (p : Part)  :
    (p.masterIdle).sched = p.sched := rfl

@[simp] theorem Part.masterIdle_windows (p : Part)  :
    (p.masterIdle).windows = p.windows := rfl

@[simp] theorem Part.masterIdle_port (p : Part)  :
    (p.masterIdle).port = p.port := rfl

@[simp] theorem Part.masterIdle_notices (p : Part)  :
    (p.masterIdle).notices = p.notices := rfl

@[simp] theorem Part.masterIdle_compl (p : Part)  :
    (p.masterIdle).compl = p.compl := rfl

@[simp] theorem Part.masterIdle_stats (p : Part)  :
    (p.masterIdle).stats = p.stats := rfl

@[simp] theorem Part.masterIdle_out (p : Part)  :
    (p.masterIdle).out = p.out := rfl

@[simp] theorem Part.masterIdle_ring (p : Part)  (r : Fin 8) :
    (p.masterIdle).ring r = p.ring r := rfl

@[simp] theorem Part.masterIdle_slot (p : Part)  (k : Fin 8) :
    (p.masterIdle).slot k = p.slot k := rfl

@[simp] theorem Part.masterIdle_window (p : Part)  (w : Fin 16) :
    (p.masterIdle).window w = p.window w := rfl

@[simp] theorem Part.masterIdle_cring (p : Part)  (c : Fin 8) :
    (p.masterIdle).cring c = p.cring c := rfl

@[simp] theorem Part.masterIdle_entry (p : Part)  (b : Fin 4) :
    (p.masterIdle).entry b = p.entry b := rfl

@[simp] theorem Part.masterIdle_request (p : Part)  (q : Source) :
    (p.masterIdle).request q = p.request q := rfl

@[simp] theorem Part.lowerError_engine (p : Part)  :
    (p.lowerError).engine = p.engine := rfl

@[simp] theorem Part.lowerError_host (p : Part)  :
    (p.lowerError).host = p.host := rfl

@[simp] theorem Part.lowerError_admin (p : Part)  :
    (p.lowerError).admin = p.admin := rfl

@[simp] theorem Part.lowerError_fetch (p : Part)  :
    (p.lowerError).fetch = p.fetch := rfl

@[simp] theorem Part.lowerError_sched (p : Part)  :
    (p.lowerError).sched = p.sched := rfl

@[simp] theorem Part.lowerError_windows (p : Part)  :
    (p.lowerError).windows = p.windows := rfl

@[simp] theorem Part.lowerError_master (p : Part)  :
    (p.lowerError).master = p.master := rfl

@[simp] theorem Part.lowerError_notices (p : Part)  :
    (p.lowerError).notices = p.notices := rfl

@[simp] theorem Part.lowerError_compl (p : Part)  :
    (p.lowerError).compl = p.compl := rfl

@[simp] theorem Part.lowerError_stats (p : Part)  :
    (p.lowerError).stats = p.stats := rfl

@[simp] theorem Part.lowerError_out (p : Part)  :
    (p.lowerError).out = p.out := rfl

@[simp] theorem Part.lowerError_ring (p : Part)  (r : Fin 8) :
    (p.lowerError).ring r = p.ring r := rfl

@[simp] theorem Part.lowerError_slot (p : Part)  (k : Fin 8) :
    (p.lowerError).slot k = p.slot k := rfl

@[simp] theorem Part.lowerError_window (p : Part)  (w : Fin 16) :
    (p.lowerError).window w = p.window w := rfl

@[simp] theorem Part.lowerError_cring (p : Part)  (c : Fin 8) :
    (p.lowerError).cring c = p.cring c := rfl

@[simp] theorem Part.lowerError_entry (p : Part)  (b : Fin 4) :
    (p.lowerError).entry b = p.entry b := rfl

@[simp] theorem Part.lowerError_request (p : Part)  (q : Source) :
    (p.lowerError).request q = p.request q := rfl

@[simp] theorem Part.dropRequests_engine (p : Part)  :
    (p.dropRequests).engine = p.engine := rfl

@[simp] theorem Part.dropRequests_admin (p : Part)  :
    (p.dropRequests).admin = p.admin := rfl

@[simp] theorem Part.dropRequests_fetch (p : Part)  :
    (p.dropRequests).fetch = p.fetch := rfl

@[simp] theorem Part.dropRequests_sched (p : Part)  :
    (p.dropRequests).sched = p.sched := rfl

@[simp] theorem Part.dropRequests_windows (p : Part)  :
    (p.dropRequests).windows = p.windows := rfl

@[simp] theorem Part.dropRequests_master (p : Part)  :
    (p.dropRequests).master = p.master := rfl

@[simp] theorem Part.dropRequests_port (p : Part)  :
    (p.dropRequests).port = p.port := rfl

@[simp] theorem Part.dropRequests_notices (p : Part)  :
    (p.dropRequests).notices = p.notices := rfl

@[simp] theorem Part.dropRequests_compl (p : Part)  :
    (p.dropRequests).compl = p.compl := rfl

@[simp] theorem Part.dropRequests_stats (p : Part)  :
    (p.dropRequests).stats = p.stats := rfl

@[simp] theorem Part.dropRequests_out (p : Part)  :
    (p.dropRequests).out = p.out := rfl

@[simp] theorem Part.dropRequests_ring (p : Part)  (r : Fin 8) :
    (p.dropRequests).ring r = p.ring r := rfl

@[simp] theorem Part.dropRequests_slot (p : Part)  (k : Fin 8) :
    (p.dropRequests).slot k = p.slot k := rfl

@[simp] theorem Part.dropRequests_window (p : Part)  (w : Fin 16) :
    (p.dropRequests).window w = p.window w := rfl

@[simp] theorem Part.dropRequests_cring (p : Part)  (c : Fin 8) :
    (p.dropRequests).cring c = p.cring c := rfl

@[simp] theorem Part.dropRequests_entry (p : Part)  (b : Fin 4) :
    (p.dropRequests).entry b = p.entry b := rfl

@[simp] theorem Part.dropNotify_host (p : Part)  :
    (p.dropNotify).host = p.host := rfl

@[simp] theorem Part.dropNotify_admin (p : Part)  :
    (p.dropNotify).admin = p.admin := rfl

@[simp] theorem Part.dropNotify_fetch (p : Part)  :
    (p.dropNotify).fetch = p.fetch := rfl

@[simp] theorem Part.dropNotify_sched (p : Part)  :
    (p.dropNotify).sched = p.sched := rfl

@[simp] theorem Part.dropNotify_windows (p : Part)  :
    (p.dropNotify).windows = p.windows := rfl

@[simp] theorem Part.dropNotify_master (p : Part)  :
    (p.dropNotify).master = p.master := rfl

@[simp] theorem Part.dropNotify_port (p : Part)  :
    (p.dropNotify).port = p.port := rfl

@[simp] theorem Part.dropNotify_notices (p : Part)  :
    (p.dropNotify).notices = p.notices := rfl

@[simp] theorem Part.dropNotify_compl (p : Part)  :
    (p.dropNotify).compl = p.compl := rfl

@[simp] theorem Part.dropNotify_stats (p : Part)  :
    (p.dropNotify).stats = p.stats := rfl

@[simp] theorem Part.dropNotify_out (p : Part)  :
    (p.dropNotify).out = p.out := rfl

@[simp] theorem Part.dropNotify_ring (p : Part)  (r : Fin 8) :
    (p.dropNotify).ring r = p.ring r := rfl

@[simp] theorem Part.dropNotify_slot (p : Part)  (k : Fin 8) :
    (p.dropNotify).slot k = p.slot k := rfl

@[simp] theorem Part.dropNotify_window (p : Part)  (w : Fin 16) :
    (p.dropNotify).window w = p.window w := rfl

@[simp] theorem Part.dropNotify_cring (p : Part)  (c : Fin 8) :
    (p.dropNotify).cring c = p.cring c := rfl

@[simp] theorem Part.dropNotify_entry (p : Part)  (b : Fin 4) :
    (p.dropNotify).entry b = p.entry b := rfl

@[simp] theorem Part.dropNotify_request (p : Part)  (q : Source) :
    (p.dropNotify).request q = p.request q := rfl

@[simp] theorem Part.enterFifo_engine (p : Part) (i : Completion) :
    (p.enterFifo i).engine = p.engine := rfl

@[simp] theorem Part.enterFifo_host (p : Part) (i : Completion) :
    (p.enterFifo i).host = p.host := rfl

@[simp] theorem Part.enterFifo_admin (p : Part) (i : Completion) :
    (p.enterFifo i).admin = p.admin := rfl

@[simp] theorem Part.enterFifo_fetch (p : Part) (i : Completion) :
    (p.enterFifo i).fetch = p.fetch := rfl

@[simp] theorem Part.enterFifo_sched (p : Part) (i : Completion) :
    (p.enterFifo i).sched = p.sched := rfl

@[simp] theorem Part.enterFifo_windows (p : Part) (i : Completion) :
    (p.enterFifo i).windows = p.windows := rfl

@[simp] theorem Part.enterFifo_master (p : Part) (i : Completion) :
    (p.enterFifo i).master = p.master := rfl

@[simp] theorem Part.enterFifo_port (p : Part) (i : Completion) :
    (p.enterFifo i).port = p.port := rfl

@[simp] theorem Part.enterFifo_notices (p : Part) (i : Completion) :
    (p.enterFifo i).notices = p.notices := rfl

@[simp] theorem Part.enterFifo_stats (p : Part) (i : Completion) :
    (p.enterFifo i).stats = p.stats := rfl

@[simp] theorem Part.enterFifo_out (p : Part) (i : Completion) :
    (p.enterFifo i).out = p.out := rfl

@[simp] theorem Part.enterFifo_ring (p : Part) (i : Completion) (r : Fin 8) :
    (p.enterFifo i).ring r = p.ring r := rfl

@[simp] theorem Part.enterFifo_slot (p : Part) (i : Completion) (k : Fin 8) :
    (p.enterFifo i).slot k = p.slot k := rfl

@[simp] theorem Part.enterFifo_window (p : Part) (i : Completion) (w : Fin 16) :
    (p.enterFifo i).window w = p.window w := rfl

@[simp] theorem Part.enterFifo_entry (p : Part) (i : Completion) (b : Fin 4) :
    (p.enterFifo i).entry b = p.entry b := rfl

@[simp] theorem Part.enterFifo_request (p : Part) (i : Completion) (q : Source) :
    (p.enterFifo i).request q = p.request q := rfl

/-! ### Tables -/

theorem tabUpdate_get {α : Type} {n : Nat} (v : Vector α n) (i j : Fin n) (f : α → α) :
    (tabUpdate v i f).get j = if j = i then f (v.get j) else v.get j := by
  rcases eq_or_ne j i with rfl | h
  · simp [tabUpdate, Vector.get_eq_getElem]
  · have h' : (i : Nat) ≠ (j : Nat) := fun e => h (Fin.ext e.symm)
    simp [tabUpdate, Vector.get_eq_getElem, h, h']

@[simp] theorem tabUpdate_same {α : Type} {n : Nat} (v : Vector α n) (i : Fin n) (f : α → α) :
    (tabUpdate v i f).get i = f (v.get i) := by simp [tabUpdate_get]

theorem tabUpdate_other {α : Type} {n : Nat} (v : Vector α n) {i j : Fin n} (f : α → α) (h : j ≠ i) :
    (tabUpdate v i f).get j = v.get j := by simp [tabUpdate_get, h]

@[simp] theorem tabMap_get {α : Type} {n : Nat} (v : Vector α n) (f : α → α) (i : Fin n) :
    (tabMap v f).get i = f (v.get i) := by simp [tabMap, Vector.get_eq_getElem]

theorem tabMap_eq_map {α : Type} {n : Nat} (v : Vector α n) (f : α → α) : tabMap v f = v.map f :=
  Vector.ext fun i h => by simp [tabMap, Vector.get_eq_getElem]

@[simp] theorem Vector_map_get {α β : Type} {n : Nat} (v : Vector α n) (g : α → β) (i : Fin n) :
    (v.map g).get i = g (v.get i) := by simp [Vector.get_eq_getElem]

theorem Part.modRing_ring (p : Part) (i j : Fin 8) (f : SubmissionRing → SubmissionRing) :
    (p.modRing i f).ring j = if j = i then f (p.ring j) else p.ring j := tabUpdate_get _ _ _ _

theorem Part.modSlot_slot (p : Part) (i j : Fin 8) (f : Slot → Slot) :
    (p.modSlot i f).slot j = if j = i then f (p.slot j) else p.slot j := tabUpdate_get _ _ _ _

theorem Part.modWindow_window (p : Part) (i j : Fin 16) (f : Window → Window) :
    (p.modWindow i f).window j = if j = i then f (p.window j) else p.window j := tabUpdate_get _ _ _ _

theorem Part.modCring_cring (p : Part) (i j : Fin 8) (f : CompletionRing → CompletionRing) :
    (p.modCring i f).cring j = if j = i then f (p.cring j) else p.cring j := tabUpdate_get _ _ _ _

theorem Part.modEntry_entry (p : Part) (i j : Fin 4) (f : BufferEntry → BufferEntry) :
    (p.modEntry i f).entry j = if j = i then f (p.entry j) else p.entry j := tabUpdate_get _ _ _ _

/-- Every bar reads clear (R14, R41). -/
@[simp] theorem Part.clearBars_ring (p : Part) (r : Fin 8) :
    p.clearBars.ring r = { p.ring r with evictionBar := false } := tabMap_get _ _ _

/-- Every DEFERRED flag reads clear (R30). -/
@[simp] theorem Part.clearDeferred_slot (p : Part) (k : Fin 8) :
    p.clearDeferred.slot k = { p.slot k with deferred := false } := tabMap_get _ _ _

/-- Every slot reads as its consideration leaves it (R28). -/
@[simp] theorem Part.considerSlots_slot (p : Part) (k : Fin 8) :
    p.considerSlots.slot k = p.considered (p.slot k) := tabMap_get _ _ _

/-- Consideration changes nothing of a slot but DEFERRED, which stays only where the slot is not found
fenced (R28). -/
theorem Part.considered_eq (p : Part) (s : Slot) :
    p.considered s = { s with deferred := s.deferred && !p.foundFenced s } := by
  unfold Part.considered
  cases p.foundFenced s <;> simp

/-- A second consideration changes nothing. -/
@[simp] theorem Part.considered_considered (p : Part) (s : Slot) :
    p.considered (p.considered s) = p.considered s := by
  have h : p.foundFenced { s with deferred := s.deferred && !p.foundFenced s } = p.foundFenced s := rfl
  simp [Part.considered_eq, h]

@[simp] theorem Source.place_inj {a b : Source} : a.place = b.place ↔ a = b := by
  cases a <;> cases b <;> simp [Source.place]

theorem Part.ask_request (p : Part) (i j : Source) (a : Access) :
    (p.ask i a).request j = if j = i then some a else p.request j := by
  simp [Part.ask, Part.request, tabUpdate_get]

theorem Part.withdrawRequest_request (p : Part) (i j : Source) :
    (p.withdrawRequest i).request j = if j = i then none else p.request j := by
  simp [Part.withdrawRequest, Part.request, tabUpdate_get]

end Sys2Proof.Machine
end

