-- ==== Sys2Proof/Laws/Ops.lean ====
section
/-! SUPPORT. One lemma per shared operation that says once what it can do: which blocks and fields the
reaction at the end of an event leaves alone, that it leaves a settled state and does nothing in one, and
what a signal, a hand-over, an end of a command, the error limit, a page given back and a chain hold do. -/

namespace Sys2Proof.Machine

/-! ### Reservations: what a grant and a release leave alone (R115, R116) -/

@[simp] theorem Part.grantFlush_engine (p : Part) (c : Fin 8) : (p.grantFlush c).engine = p.engine := by
  unfold Part.grantFlush; split <;> rfl

@[simp] theorem Part.grantFlush_host (p : Part) (c : Fin 8) : (p.grantFlush c).host = p.host := by
  unfold Part.grantFlush; split <;> rfl

@[simp] theorem Part.grantFlush_fetch (p : Part) (c : Fin 8) : (p.grantFlush c).fetch = p.fetch := by
  unfold Part.grantFlush; split <;> rfl

@[simp] theorem Part.grantFlush_sched (p : Part) (c : Fin 8) : (p.grantFlush c).sched = p.sched := by
  unfold Part.grantFlush; split <;> rfl

@[simp] theorem Part.grantFlush_windows (p : Part) (c : Fin 8) : (p.grantFlush c).windows = p.windows := by
  unfold Part.grantFlush; split <;> rfl

@[simp] theorem Part.grantFlush_master (p : Part) (c : Fin 8) : (p.grantFlush c).master = p.master := by
  unfold Part.grantFlush; split <;> rfl

@[simp] theorem Part.grantFlush_port (p : Part) (c : Fin 8) : (p.grantFlush c).port = p.port := by
  unfold Part.grantFlush; split <;> rfl

@[simp] theorem Part.grantFlush_notices (p : Part) (c : Fin 8) : (p.grantFlush c).notices = p.notices := by
  unfold Part.grantFlush; split <;> rfl

@[simp] theorem Part.grantFlush_stats (p : Part) (c : Fin 8) : (p.grantFlush c).stats = p.stats := by
  unfold Part.grantFlush; split <;> rfl

@[simp] theorem Part.grantFlush_out (p : Part) (c : Fin 8) : (p.grantFlush c).out = p.out := by
  unfold Part.grantFlush; split <;> rfl

@[simp] theorem Part.grantFlush_admin_producer (p : Part) (c : Fin 8) :
    (p.grantFlush c).admin.producer = p.admin.producer := by
  unfold Part.grantFlush; split <;> rfl

@[simp] theorem Part.grantFlush_admin_consumer (p : Part) (c : Fin 8) :
    (p.grantFlush c).admin.consumer = p.admin.consumer := by
  unfold Part.grantFlush; split <;> rfl

@[simp] theorem Part.grantFlush_admin_command (p : Part) (c : Fin 8) :
    (p.grantFlush c).admin.command = p.admin.command := by
  unfold Part.grantFlush; split <;> rfl

@[simp] theorem Part.grantFlush_admin_status (p : Part) (c : Fin 8) :
    (p.grantFlush c).admin.status = p.admin.status := by
  unfold Part.grantFlush; split <;> rfl

@[simp] theorem Part.grantFlush_admin_result (p : Part) (c : Fin 8) :
    (p.grantFlush c).admin.result = p.admin.result := by
  unfold Part.grantFlush; split <;> rfl

@[simp] theorem Part.grantFlush_compl_fifo (p : Part) (c : Fin 8) :
    (p.grantFlush c).compl.fifo = p.compl.fifo := by
  unfold Part.grantFlush; split <;> rfl

@[simp] theorem Part.grantFlush_compl_adminHeld (p : Part) (c : Fin 8) :
    (p.grantFlush c).compl.adminHeld = p.compl.adminHeld := by
  unfold Part.grantFlush; split <;> rfl

@[simp] theorem Part.grantFlush_compl_adminRing (p : Part) (c : Fin 8) :
    (p.grantFlush c).compl.adminRing = p.compl.adminRing := by
  unfold Part.grantFlush; split <;> rfl

/-- Where no flush asks, a grant does nothing. -/
theorem Part.grantFlush_none {p : Part} {c : Fin 8} (h : p.flushAsks c = none) :
    p.grantFlush c = p := by
  simp only [Part.grantFlush, h]

/-- A flush that asks takes one entry and is granted. -/
theorem Part.grantFlush_some {p : Part} {c : Fin 8} {f : Flush} (h : p.flushAsks c = some f) :
    p.grantFlush c = (p.reserve c).waitFor (.flushRing { f with granted := true }) := by
  simp only [Part.grantFlush, h]

/-- No flush asks unless the command in progress is one that waits. -/
theorem Part.flushAsks_none {p : Part} (c : Fin 8)
    (h : ∀ f, p.admin.state ≠ .waiting (.flushRing f)) : p.flushAsks c = none := by
  unfold Part.flushAsks
  split
  · exact absurd ‹_› (h _)
  · rfl

@[simp] theorem Part.freed_engine (p q : Part) (c : Fin 8) : (p.freed q c).engine = q.engine := by
  unfold Part.freed; split <;> simp

@[simp] theorem Part.freed_host (p q : Part) (c : Fin 8) : (p.freed q c).host = q.host := by
  unfold Part.freed; split <;> simp

@[simp] theorem Part.freed_fetch (p q : Part) (c : Fin 8) : (p.freed q c).fetch = q.fetch := by
  unfold Part.freed; split <;> simp

@[simp] theorem Part.freed_sched (p q : Part) (c : Fin 8) : (p.freed q c).sched = q.sched := by
  unfold Part.freed; split <;> simp

@[simp] theorem Part.freed_windows (p q : Part) (c : Fin 8) : (p.freed q c).windows = q.windows := by
  unfold Part.freed; split <;> simp

@[simp] theorem Part.freed_master (p q : Part) (c : Fin 8) : (p.freed q c).master = q.master := by
  unfold Part.freed; split <;> simp

@[simp] theorem Part.freed_port (p q : Part) (c : Fin 8) : (p.freed q c).port = q.port := by
  unfold Part.freed; split <;> simp

@[simp] theorem Part.freed_notices (p q : Part) (c : Fin 8) : (p.freed q c).notices = q.notices := by
  unfold Part.freed; split <;> simp

@[simp] theorem Part.freed_stats (p q : Part) (c : Fin 8) : (p.freed q c).stats = q.stats := by
  unfold Part.freed; split <;> simp

@[simp] theorem Part.freed_out (p q : Part) (c : Fin 8) : (p.freed q c).out = q.out := by
  unfold Part.freed; split <;> simp

@[simp] theorem Part.freed_admin_producer (p q : Part) (c : Fin 8) :
    (p.freed q c).admin.producer = q.admin.producer := by
  unfold Part.freed; split <;> simp

@[simp] theorem Part.freed_admin_consumer (p q : Part) (c : Fin 8) :
    (p.freed q c).admin.consumer = q.admin.consumer := by
  unfold Part.freed; split <;> simp

@[simp] theorem Part.freed_admin_command (p q : Part) (c : Fin 8) :
    (p.freed q c).admin.command = q.admin.command := by
  unfold Part.freed; split <;> simp

@[simp] theorem Part.freed_admin_status (p q : Part) (c : Fin 8) :
    (p.freed q c).admin.status = q.admin.status := by
  unfold Part.freed; split <;> simp

@[simp] theorem Part.freed_admin_result (p q : Part) (c : Fin 8) :
    (p.freed q c).admin.result = q.admin.result := by
  unfold Part.freed; split <;> simp

@[simp] theorem Part.freed_compl_fifo (p q : Part) (c : Fin 8) :
    (p.freed q c).compl.fifo = q.compl.fifo := by
  unfold Part.freed; split <;> simp

@[simp] theorem Part.freed_compl_adminHeld (p q : Part) (c : Fin 8) :
    (p.freed q c).compl.adminHeld = q.compl.adminHeld := by
  unfold Part.freed; split <;> simp

@[simp] theorem Part.freed_compl_adminRing (p q : Part) (c : Fin 8) :
    (p.freed q c).compl.adminRing = q.compl.adminRing := by
  unfold Part.freed; split <;> simp

/-- Where no flush asks, a change that frees an entry grants nothing. -/
theorem Part.freed_none {p q : Part} {c : Fin 8} (h : q.flushAsks c = none) : p.freed q c = q := by
  unfold Part.freed; split
  · exact Part.grantFlush_none h
  · rfl

@[simp] theorem Part.unreserve_engine (p : Part) (c : Fin 8) : (p.unreserve c).engine = p.engine := by
  simp [Part.unreserve]

@[simp] theorem Part.unreserve_host (p : Part) (c : Fin 8) : (p.unreserve c).host = p.host := by
  simp [Part.unreserve]

@[simp] theorem Part.unreserve_fetch (p : Part) (c : Fin 8) : (p.unreserve c).fetch = p.fetch := by
  simp [Part.unreserve]

@[simp] theorem Part.unreserve_sched (p : Part) (c : Fin 8) : (p.unreserve c).sched = p.sched := by
  simp [Part.unreserve]

@[simp] theorem Part.unreserve_windows (p : Part) (c : Fin 8) : (p.unreserve c).windows = p.windows := by
  simp [Part.unreserve]

@[simp] theorem Part.unreserve_master (p : Part) (c : Fin 8) : (p.unreserve c).master = p.master := by
  simp [Part.unreserve]

@[simp] theorem Part.unreserve_port (p : Part) (c : Fin 8) : (p.unreserve c).port = p.port := by
  simp [Part.unreserve]

@[simp] theorem Part.unreserve_notices (p : Part) (c : Fin 8) : (p.unreserve c).notices = p.notices := by
  simp [Part.unreserve]

@[simp] theorem Part.unreserve_stats (p : Part) (c : Fin 8) : (p.unreserve c).stats = p.stats := by
  simp [Part.unreserve]

@[simp] theorem Part.unreserve_out (p : Part) (c : Fin 8) : (p.unreserve c).out = p.out := by
  simp [Part.unreserve]

@[simp] theorem Part.unreserve_admin_producer (p : Part) (c : Fin 8) :
    (p.unreserve c).admin.producer = p.admin.producer := by
  simp [Part.unreserve]

@[simp] theorem Part.unreserve_admin_consumer (p : Part) (c : Fin 8) :
    (p.unreserve c).admin.consumer = p.admin.consumer := by
  simp [Part.unreserve]

@[simp] theorem Part.unreserve_admin_command (p : Part) (c : Fin 8) :
    (p.unreserve c).admin.command = p.admin.command := by
  simp [Part.unreserve]

@[simp] theorem Part.unreserve_admin_status (p : Part) (c : Fin 8) :
    (p.unreserve c).admin.status = p.admin.status := by
  simp [Part.unreserve]

@[simp] theorem Part.unreserve_admin_result (p : Part) (c : Fin 8) :
    (p.unreserve c).admin.result = p.admin.result := by
  simp [Part.unreserve]

@[simp] theorem Part.unreserve_compl_fifo (p : Part) (c : Fin 8) :
    (p.unreserve c).compl.fifo = p.compl.fifo := by
  simp [Part.unreserve, Part.modCring]

@[simp] theorem Part.unreserve_compl_adminHeld (p : Part) (c : Fin 8) :
    (p.unreserve c).compl.adminHeld = p.compl.adminHeld := by
  simp [Part.unreserve, Part.modCring]

@[simp] theorem Part.unreserve_compl_adminRing (p : Part) (c : Fin 8) :
    (p.unreserve c).compl.adminRing = p.compl.adminRing := by
  simp [Part.unreserve, Part.modCring]

@[simp] theorem Part.unreserve_ring (p : Part) (c : Fin 8) (r : Fin 8) :
    (p.unreserve c).ring r = p.ring r := by
  simp [Part.ring]

@[simp] theorem Part.unreserve_slot (p : Part) (c : Fin 8) (k : Fin 8) :
    (p.unreserve c).slot k = p.slot k := by
  simp [Part.slot]

@[simp] theorem Part.unreserve_window (p : Part) (c : Fin 8) (w : Fin 16) :
    (p.unreserve c).window w = p.window w := by
  simp [Part.window]

@[simp] theorem Part.unreserve_entry (p : Part) (c : Fin 8) (b : Fin 4) :
    (p.unreserve c).entry b = p.entry b := by
  simp [Part.entry]

@[simp] theorem Part.unreserve_request (p : Part) (c : Fin 8) (q : Source) :
    (p.unreserve c).request q = p.request q := by
  simp [Part.request]

/-- Without a flush in WAITING a release only lowers the reserved count. -/
theorem Part.unreserve_eq {p : Part} (c : Fin 8)
    (h : ∀ f, p.admin.state ≠ .waiting (.flushRing f)) :
    p.unreserve c = p.modCring c fun x => { x with reserved := x.reserved - 1 } :=
  Part.freed_none (Part.flushAsks_none c h)

/-! ### The look-ahead of the port's moves (notes/assumptions/8.md) -/

/-- The look-ahead answers yes where its condition already holds. -/
theorem Part.settlesInto_of {f : Part → Bool} {n : Nat} {p : Part} (h : f p = true) :
    Part.settlesInto f n p = true := by
  cases n <;> simp [Part.settlesInto, h]

/-- With no settle-only slot due the look-ahead is its condition. -/
theorem Part.settlesInto_none {f : Part → Bool} {n : Nat} {p : Part} (h : p.settleNext = none) :
    Part.settlesInto f n p = f p := by
  cases n <;> simp [Part.settlesInto, h]

/-- Where the engine is not RUNNING nothing settles and the look-ahead is its condition. -/
theorem Part.settlesInto_still {f : Part → Bool} {n : Nat} {p : Part}
    (h : p.engine.state ≠ .running) : Part.settlesInto f n p = f p := by
  cases n <;> simp [Part.settlesInto, h]

/-- What the look-ahead starts from does not depend on the blocks it leaves out. -/
@[simp] theorem Part.onHost_settleView (p : Part) (f : HostPort → HostPort) :
    (p.onHost f).settleView = p.settleView := rfl

@[simp] theorem Part.onAdmin_settleView (p : Part) (f : AdminUnit → AdminUnit) :
    (p.onAdmin f).settleView = p.settleView := rfl

@[simp] theorem Part.onMaster_settleView (p : Part) (f : Master → Master) :
    (p.onMaster f).settleView = p.settleView := rfl

@[simp] theorem Part.onPort_settleView (p : Part) (f : Port → Port) :
    (p.onPort f).settleView = p.settleView := rfl

@[simp] theorem Part.onNotices_settleView (p : Part) (f : NoticeUnit → NoticeUnit) :
    (p.onNotices f).settleView = p.settleView := rfl

@[simp] theorem Part.onCompl_settleView (p : Part) (f : CompletionUnit → CompletionUnit) :
    (p.onCompl f).settleView = p.settleView := rfl

@[simp] theorem Part.onStats_settleView (p : Part) (f : Stats → Stats) :
    (p.onStats f).settleView = p.settleView := rfl

@[simp] theorem Part.emit_settleView (p : Part) (o : Output) :
    (p.emit o).settleView = p.settleView := rfl

/-- The look-ahead sees parts alike that agree on what it reads: the engine state, the Scheduler, the rings
but for P, and which windows are read as fenced. -/
theorem Part.settleView_congr {p q : Part} (he : p.engine.state = q.engine.state)
    (hs : p.sched = q.sched)
    (hr : ∀ r, { p.ring r with producer := 0 } = { q.ring r with producer := 0 })
    (hw : ∀ w, (p.window w).readsFenced = (q.window w).readsFenced) :
    p.settleView = q.settleView := by
  simp only [Part.settleView, he, hs, hr, hw]

/-- The look-ahead answers alike for parts it sees alike. -/
theorem Part.setStaysEmpty_congr {p q : Part} (h : p.settleView = q.settleView) :
    p.setStaysEmpty = q.setStaysEmpty := by
  simp only [Part.setStaysEmpty, h]

theorem Part.noHoldComes_congr {p q : Part} (h : p.settleView = q.settleView)
    (ha : p.fetch.admission = q.fetch.admission) (hf : p.fetch.flight = q.fetch.flight)
    (ht : p.port.tenure = q.port.tenure) (hc : p.port.chainHold = q.port.chainHold) :
    p.noHoldComes = q.noHoldComes := by
  simp only [Part.noHoldComes, Part.holdView, h, ha, hf, ht, hc]

/-! ### What follows at the same event: blocks it leaves alone -/

@[simp] theorem Part.movePort_engine (p : Part) : p.movePort.engine = p.engine := by
  unfold Part.movePort; (repeat' split) <;> rfl

@[simp] theorem Part.movePort_host (p : Part) : p.movePort.host = p.host := by
  unfold Part.movePort; (repeat' split) <;> rfl

@[simp] theorem Part.movePort_admin (p : Part) : p.movePort.admin = p.admin := by
  unfold Part.movePort; (repeat' split) <;> rfl

@[simp] theorem Part.movePort_fetch (p : Part) : p.movePort.fetch = p.fetch := by
  unfold Part.movePort; (repeat' split) <;> rfl

@[simp] theorem Part.movePort_sched (p : Part) : p.movePort.sched = p.sched := by
  unfold Part.movePort; (repeat' split) <;> rfl

@[simp] theorem Part.movePort_windows (p : Part) : p.movePort.windows = p.windows := by
  unfold Part.movePort; (repeat' split) <;> rfl

@[simp] theorem Part.movePort_master (p : Part) : p.movePort.master = p.master := by
  unfold Part.movePort; (repeat' split) <;> rfl

@[simp] theorem Part.movePort_notices (p : Part) : p.movePort.notices = p.notices := by
  unfold Part.movePort; (repeat' split) <;> rfl

@[simp] theorem Part.movePort_compl (p : Part) : p.movePort.compl = p.compl := by
  unfold Part.movePort; (repeat' split) <;> rfl

@[simp] theorem Part.movePort_stats (p : Part) : p.movePort.stats = p.stats := by
  unfold Part.movePort; (repeat' split) <;> rfl

@[simp] theorem Part.movePort_out (p : Part) : p.movePort.out = p.out := by
  unfold Part.movePort; (repeat' split) <;> rfl

@[simp] theorem Part.driveLevel_engine (p : Part) : p.driveLevel.engine = p.engine := rfl

@[simp] theorem Part.driveLevel_host (p : Part) : p.driveLevel.host = p.host := rfl

@[simp] theorem Part.driveLevel_admin (p : Part) : p.driveLevel.admin = p.admin := rfl

@[simp] theorem Part.driveLevel_fetch (p : Part) : p.driveLevel.fetch = p.fetch := rfl

@[simp] theorem Part.driveLevel_sched (p : Part) : p.driveLevel.sched = p.sched := rfl

@[simp] theorem Part.driveLevel_windows (p : Part) : p.driveLevel.windows = p.windows := rfl

@[simp] theorem Part.driveLevel_master (p : Part) : p.driveLevel.master = p.master := rfl

@[simp] theorem Part.driveLevel_notices (p : Part) : p.driveLevel.notices = p.notices := rfl

@[simp] theorem Part.driveLevel_compl (p : Part) : p.driveLevel.compl = p.compl := rfl

@[simp] theorem Part.driveLevel_stats (p : Part) : p.driveLevel.stats = p.stats := rfl

@[simp] theorem Part.driveLevel_out (p : Part) : p.driveLevel.out = p.out := rfl

@[simp] theorem Part.captureFlush_engine (p : Part) : p.captureFlush.engine = p.engine := by
  unfold Part.captureFlush; (repeat' split) <;> rfl

@[simp] theorem Part.captureFlush_host (p : Part) : p.captureFlush.host = p.host := by
  unfold Part.captureFlush; (repeat' split) <;> rfl

@[simp] theorem Part.captureFlush_fetch (p : Part) : p.captureFlush.fetch = p.fetch := by
  unfold Part.captureFlush; (repeat' split) <;> rfl

@[simp] theorem Part.captureFlush_sched (p : Part) : p.captureFlush.sched = p.sched := by
  unfold Part.captureFlush; (repeat' split) <;> rfl

@[simp] theorem Part.captureFlush_windows (p : Part) : p.captureFlush.windows = p.windows := by
  unfold Part.captureFlush; (repeat' split) <;> rfl

@[simp] theorem Part.captureFlush_master (p : Part) : p.captureFlush.master = p.master := by
  unfold Part.captureFlush; (repeat' split) <;> rfl

@[simp] theorem Part.captureFlush_port (p : Part) : p.captureFlush.port = p.port := by
  unfold Part.captureFlush; (repeat' split) <;> rfl

@[simp] theorem Part.captureFlush_notices (p : Part) : p.captureFlush.notices = p.notices := by
  unfold Part.captureFlush; (repeat' split) <;> rfl

@[simp] theorem Part.captureFlush_compl (p : Part) : p.captureFlush.compl = p.compl := by
  unfold Part.captureFlush; (repeat' split) <;> rfl

@[simp] theorem Part.captureFlush_stats (p : Part) : p.captureFlush.stats = p.stats := by
  unfold Part.captureFlush; (repeat' split) <;> rfl

@[simp] theorem Part.captureFlush_out (p : Part) : p.captureFlush.out = p.out := by
  unfold Part.captureFlush; (repeat' split) <;> rfl

@[simp] theorem Part.askPosting_engine (p : Part) : p.askPosting.engine = p.engine := by
  unfold Part.askPosting; (repeat' split) <;> rfl

@[simp] theorem Part.askPosting_admin (p : Part) : p.askPosting.admin = p.admin := by
  unfold Part.askPosting; (repeat' split) <;> rfl

@[simp] theorem Part.askPosting_fetch (p : Part) : p.askPosting.fetch = p.fetch := by
  unfold Part.askPosting; (repeat' split) <;> rfl

@[simp] theorem Part.askPosting_sched (p : Part) : p.askPosting.sched = p.sched := by
  unfold Part.askPosting; (repeat' split) <;> rfl

@[simp] theorem Part.askPosting_windows (p : Part) : p.askPosting.windows = p.windows := by
  unfold Part.askPosting; (repeat' split) <;> rfl

@[simp] theorem Part.askPosting_master (p : Part) : p.askPosting.master = p.master := by
  unfold Part.askPosting; (repeat' split) <;> rfl

@[simp] theorem Part.askPosting_port (p : Part) : p.askPosting.port = p.port := by
  unfold Part.askPosting; (repeat' split) <;> rfl

@[simp] theorem Part.askPosting_notices (p : Part) : p.askPosting.notices = p.notices := by
  unfold Part.askPosting; (repeat' split) <;> rfl

@[simp] theorem Part.askPosting_compl (p : Part) : p.askPosting.compl = p.compl := by
  unfold Part.askPosting; (repeat' split) <;> rfl

@[simp] theorem Part.askPosting_stats (p : Part) : p.askPosting.stats = p.stats := by
  unfold Part.askPosting; (repeat' split) <;> rfl

@[simp] theorem Part.askPosting_out (p : Part) : p.askPosting.out = p.out := by
  unfold Part.askPosting; (repeat' split) <;> rfl

@[simp] theorem Part.askAdminPosting_engine (p : Part) : p.askAdminPosting.engine = p.engine := by
  unfold Part.askAdminPosting; (repeat' split) <;> rfl

@[simp] theorem Part.askAdminPosting_admin (p : Part) : p.askAdminPosting.admin = p.admin := by
  unfold Part.askAdminPosting; (repeat' split) <;> rfl

@[simp] theorem Part.askAdminPosting_fetch (p : Part) : p.askAdminPosting.fetch = p.fetch := by
  unfold Part.askAdminPosting; (repeat' split) <;> rfl

@[simp] theorem Part.askAdminPosting_sched (p : Part) : p.askAdminPosting.sched = p.sched := by
  unfold Part.askAdminPosting; (repeat' split) <;> rfl

@[simp] theorem Part.askAdminPosting_windows (p : Part) : p.askAdminPosting.windows = p.windows := by
  unfold Part.askAdminPosting; (repeat' split) <;> rfl

@[simp] theorem Part.askAdminPosting_master (p : Part) : p.askAdminPosting.master = p.master := by
  unfold Part.askAdminPosting; (repeat' split) <;> rfl

@[simp] theorem Part.askAdminPosting_port (p : Part) : p.askAdminPosting.port = p.port := by
  unfold Part.askAdminPosting; (repeat' split) <;> rfl

@[simp] theorem Part.askAdminPosting_notices (p : Part) : p.askAdminPosting.notices = p.notices := by
  unfold Part.askAdminPosting; (repeat' split) <;> rfl

@[simp] theorem Part.askAdminPosting_compl (p : Part) : p.askAdminPosting.compl = p.compl := by
  unfold Part.askAdminPosting; (repeat' split) <;> rfl

@[simp] theorem Part.askAdminPosting_stats (p : Part) : p.askAdminPosting.stats = p.stats := by
  unfold Part.askAdminPosting; (repeat' split) <;> rfl

@[simp] theorem Part.askAdminPosting_out (p : Part) : p.askAdminPosting.out = p.out := by
  unfold Part.askAdminPosting; (repeat' split) <;> rfl

@[simp] theorem Part.askNotice_engine (p : Part) : p.askNotice.engine = p.engine := by
  simp only [Part.askNotice]; (repeat' split) <;> rfl

@[simp] theorem Part.askNotice_admin (p : Part) : p.askNotice.admin = p.admin := by
  simp only [Part.askNotice]; (repeat' split) <;> rfl

@[simp] theorem Part.askNotice_fetch (p : Part) : p.askNotice.fetch = p.fetch := by
  simp only [Part.askNotice]; (repeat' split) <;> rfl

@[simp] theorem Part.askNotice_sched (p : Part) : p.askNotice.sched = p.sched := by
  simp only [Part.askNotice]; (repeat' split) <;> rfl

@[simp] theorem Part.askNotice_windows (p : Part) : p.askNotice.windows = p.windows := by
  simp only [Part.askNotice]; (repeat' split) <;> rfl

@[simp] theorem Part.askNotice_master (p : Part) : p.askNotice.master = p.master := by
  simp only [Part.askNotice]; (repeat' split) <;> rfl

@[simp] theorem Part.askNotice_port (p : Part) : p.askNotice.port = p.port := by
  simp only [Part.askNotice]; (repeat' split) <;> rfl

@[simp] theorem Part.askNotice_compl (p : Part) : p.askNotice.compl = p.compl := by
  simp only [Part.askNotice]; (repeat' split) <;> rfl

@[simp] theorem Part.askNotice_stats (p : Part) : p.askNotice.stats = p.stats := by
  simp only [Part.askNotice]; (repeat' split) <;> rfl

@[simp] theorem Part.askNotice_out (p : Part) : p.askNotice.out = p.out := by
  simp only [Part.askNotice]; (repeat' split) <;> rfl

@[simp] theorem Part.askCommand_engine (p : Part) : p.askCommand.engine = p.engine := by
  unfold Part.askCommand; (repeat' split) <;> rfl

@[simp] theorem Part.askCommand_fetch (p : Part) : p.askCommand.fetch = p.fetch := by
  unfold Part.askCommand; (repeat' split) <;> rfl

@[simp] theorem Part.askCommand_sched (p : Part) : p.askCommand.sched = p.sched := by
  unfold Part.askCommand; (repeat' split) <;> rfl

@[simp] theorem Part.askCommand_windows (p : Part) : p.askCommand.windows = p.windows := by
  unfold Part.askCommand; (repeat' split) <;> rfl

@[simp] theorem Part.askCommand_master (p : Part) : p.askCommand.master = p.master := by
  unfold Part.askCommand; (repeat' split) <;> rfl

@[simp] theorem Part.askCommand_port (p : Part) : p.askCommand.port = p.port := by
  unfold Part.askCommand; (repeat' split) <;> rfl

@[simp] theorem Part.askCommand_notices (p : Part) : p.askCommand.notices = p.notices := by
  unfold Part.askCommand; (repeat' split) <;> rfl

@[simp] theorem Part.askCommand_compl (p : Part) : p.askCommand.compl = p.compl := by
  unfold Part.askCommand; (repeat' split) <;> rfl

@[simp] theorem Part.askCommand_stats (p : Part) : p.askCommand.stats = p.stats := by
  unfold Part.askCommand; (repeat' split) <;> rfl

@[simp] theorem Part.askCommand_out (p : Part) : p.askCommand.out = p.out := by
  unfold Part.askCommand; (repeat' split) <;> rfl

@[simp] theorem Part.react_engine (p : Part) : p.react.engine = p.engine := by simp [Part.react]

@[simp] theorem Part.react_fetch (p : Part) : p.react.fetch = p.fetch := by simp [Part.react]

@[simp] theorem Part.react_sched (p : Part) : p.react.sched = p.sched := by simp [Part.react]

@[simp] theorem Part.react_windows (p : Part) : p.react.windows = p.windows := by simp [Part.react]

@[simp] theorem Part.react_master (p : Part) : p.react.master = p.master := by simp [Part.react]

@[simp] theorem Part.react_compl (p : Part) : p.react.compl = p.compl := by simp [Part.react]

@[simp] theorem Part.react_stats (p : Part) : p.react.stats = p.stats := by simp [Part.react]

@[simp] theorem Part.react_out (p : Part) : p.react.out = p.out := by simp [Part.react]

@[simp] theorem Part.react_ring (p : Part) (r : Fin 8) : p.react.ring r = p.ring r := by
  simp [Part.ring]

@[simp] theorem Part.react_slot (p : Part) (k : Fin 8) : p.react.slot k = p.slot k := by
  simp [Part.slot]

@[simp] theorem Part.react_window (p : Part) (w : Fin 16) : p.react.window w = p.window w := by
  simp [Part.window]

@[simp] theorem Part.react_cring (p : Part) (c : Fin 8) : p.react.cring c = p.cring c := by
  simp [Part.cring]

/-! ### Fields it leaves alone within the blocks it may change -/

@[simp] theorem Part.movePort_port_errorCount (p : Part) : p.movePort.port.errorCount = p.port.errorCount := by
  unfold Part.movePort; (repeat' split) <;> rfl

@[simp] theorem Part.movePort_port_mark (p : Part) : p.movePort.port.mark = p.port.mark := by
  unfold Part.movePort; (repeat' split) <;> rfl

@[simp] theorem Part.movePort_port_joinTimer (p : Part) : p.movePort.port.joinTimer = p.port.joinTimer := by
  unfold Part.movePort; (repeat' split) <;> rfl

@[simp] theorem Part.movePort_port_clockPresent (p : Part) : p.movePort.port.clockPresent = p.port.clockPresent := by
  unfold Part.movePort; (repeat' split) <;> rfl

@[simp] theorem Part.movePort_port_tenure (p : Part) : p.movePort.port.tenure = p.port.tenure := by
  unfold Part.movePort; (repeat' split) <;> rfl

@[simp] theorem Part.movePort_port_chainHold (p : Part) : p.movePort.port.chainHold = p.port.chainHold := by
  unfold Part.movePort; (repeat' split) <;> rfl

@[simp] theorem Part.movePort_port_gnt (p : Part) : p.movePort.port.gnt = p.port.gnt := by
  unfold Part.movePort; (repeat' split) <;> rfl

@[simp] theorem Part.movePort_port_wdr (p : Part) : p.movePort.port.wdr = p.port.wdr := by
  unfold Part.movePort; (repeat' split) <;> rfl

@[simp] theorem Part.movePort_port_rst (p : Part) : p.movePort.port.rst = p.port.rst := by
  unfold Part.movePort; (repeat' split) <;> rfl

@[simp] theorem Part.driveLevel_port_errorCount (p : Part) : p.driveLevel.port.errorCount = p.port.errorCount := rfl

@[simp] theorem Part.driveLevel_port_mark (p : Part) : p.driveLevel.port.mark = p.port.mark := rfl

@[simp] theorem Part.driveLevel_port_joinTimer (p : Part) : p.driveLevel.port.joinTimer = p.port.joinTimer := rfl

@[simp] theorem Part.driveLevel_port_clockPresent (p : Part) : p.driveLevel.port.clockPresent = p.port.clockPresent := rfl

@[simp] theorem Part.driveLevel_port_tenure (p : Part) : p.driveLevel.port.tenure = p.port.tenure := rfl

@[simp] theorem Part.driveLevel_port_chainHold (p : Part) : p.driveLevel.port.chainHold = p.port.chainHold := rfl

@[simp] theorem Part.driveLevel_port_gnt (p : Part) : p.driveLevel.port.gnt = p.port.gnt := rfl

@[simp] theorem Part.driveLevel_port_wdr (p : Part) : p.driveLevel.port.wdr = p.port.wdr := rfl

@[simp] theorem Part.driveLevel_port_rst (p : Part) : p.driveLevel.port.rst = p.port.rst := rfl

@[simp] theorem Part.captureFlush_admin_producer (p : Part) : p.captureFlush.admin.producer = p.admin.producer := by
  unfold Part.captureFlush; (repeat' split) <;> rfl

@[simp] theorem Part.captureFlush_admin_consumer (p : Part) : p.captureFlush.admin.consumer = p.admin.consumer := by
  unfold Part.captureFlush; (repeat' split) <;> rfl

@[simp] theorem Part.captureFlush_admin_command (p : Part) : p.captureFlush.admin.command = p.admin.command := by
  unfold Part.captureFlush; (repeat' split) <;> rfl

@[simp] theorem Part.captureFlush_admin_status (p : Part) : p.captureFlush.admin.status = p.admin.status := by
  unfold Part.captureFlush; (repeat' split) <;> rfl

@[simp] theorem Part.captureFlush_admin_result (p : Part) : p.captureFlush.admin.result = p.admin.result := by
  unfold Part.captureFlush; (repeat' split) <;> rfl

@[simp] theorem Part.askPosting_host_outstanding (p : Part) : p.askPosting.host.outstanding = p.host.outstanding := by
  unfold Part.askPosting; (repeat' split) <;> rfl

@[simp] theorem Part.askPosting_host_abandoned (p : Part) : p.askPosting.host.abandoned = p.host.abandoned := by
  unfold Part.askPosting; (repeat' split) <;> rfl

@[simp] theorem Part.askPosting_host_lastServed (p : Part) : p.askPosting.host.lastServed = p.host.lastServed := by
  unfold Part.askPosting; (repeat' split) <;> rfl

@[simp] theorem Part.askPosting_host_vectorPending (p : Part) : p.askPosting.host.vectorPending = p.host.vectorPending := by
  unfold Part.askPosting; (repeat' split) <;> rfl

@[simp] theorem Part.askPosting_host_vectorMasked (p : Part) : p.askPosting.host.vectorMasked = p.host.vectorMasked := by
  unfold Part.askPosting; (repeat' split) <;> rfl

@[simp] theorem Part.askPosting_host_messagesEnabled (p : Part) : p.askPosting.host.messagesEnabled = p.host.messagesEnabled := by
  unfold Part.askPosting; (repeat' split) <;> rfl

@[simp] theorem Part.askAdminPosting_host_outstanding (p : Part) : p.askAdminPosting.host.outstanding = p.host.outstanding := by
  unfold Part.askAdminPosting; (repeat' split) <;> rfl

@[simp] theorem Part.askAdminPosting_host_abandoned (p : Part) : p.askAdminPosting.host.abandoned = p.host.abandoned := by
  unfold Part.askAdminPosting; (repeat' split) <;> rfl

@[simp] theorem Part.askAdminPosting_host_lastServed (p : Part) : p.askAdminPosting.host.lastServed = p.host.lastServed := by
  unfold Part.askAdminPosting; (repeat' split) <;> rfl

@[simp] theorem Part.askAdminPosting_host_vectorPending (p : Part) : p.askAdminPosting.host.vectorPending = p.host.vectorPending := by
  unfold Part.askAdminPosting; (repeat' split) <;> rfl

@[simp] theorem Part.askAdminPosting_host_vectorMasked (p : Part) : p.askAdminPosting.host.vectorMasked = p.host.vectorMasked := by
  unfold Part.askAdminPosting; (repeat' split) <;> rfl

@[simp] theorem Part.askAdminPosting_host_messagesEnabled (p : Part) : p.askAdminPosting.host.messagesEnabled = p.host.messagesEnabled := by
  unfold Part.askAdminPosting; (repeat' split) <;> rfl

@[simp] theorem Part.askNotice_host_outstanding (p : Part) : p.askNotice.host.outstanding = p.host.outstanding := by
  simp only [Part.askNotice]; (repeat' split) <;> rfl

@[simp] theorem Part.askNotice_host_abandoned (p : Part) : p.askNotice.host.abandoned = p.host.abandoned := by
  simp only [Part.askNotice]; (repeat' split) <;> rfl

@[simp] theorem Part.askNotice_host_lastServed (p : Part) : p.askNotice.host.lastServed = p.host.lastServed := by
  simp only [Part.askNotice]; (repeat' split) <;> rfl

@[simp] theorem Part.askNotice_host_vectorPending (p : Part) : p.askNotice.host.vectorPending = p.host.vectorPending := by
  simp only [Part.askNotice]; (repeat' split) <;> rfl

@[simp] theorem Part.askNotice_host_vectorMasked (p : Part) : p.askNotice.host.vectorMasked = p.host.vectorMasked := by
  simp only [Part.askNotice]; (repeat' split) <;> rfl

@[simp] theorem Part.askNotice_host_messagesEnabled (p : Part) : p.askNotice.host.messagesEnabled = p.host.messagesEnabled := by
  simp only [Part.askNotice]; (repeat' split) <;> rfl

@[simp] theorem Part.askNotice_notices_nodeId (p : Part) : p.askNotice.notices.nodeId = p.notices.nodeId := by
  simp only [Part.askNotice]; (repeat' split) <;> rfl

@[simp] theorem Part.askNotice_notices_arrival (p : Part) : p.askNotice.notices.arrival = p.notices.arrival := by
  simp only [Part.askNotice]; (repeat' split) <;> rfl

@[simp] theorem Part.askNotice_notices_filters (p : Part) : p.askNotice.notices.filters = p.notices.filters := by
  simp only [Part.askNotice]; (repeat' split) <;> rfl

@[simp] theorem Part.askNotice_notices_defaultAccept (p : Part) : p.askNotice.notices.defaultAccept = p.notices.defaultAccept := by
  simp only [Part.askNotice]; (repeat' split) <;> rfl

@[simp] theorem Part.askNotice_notices_ring (p : Part) : p.askNotice.notices.ring = p.notices.ring := by
  simp only [Part.askNotice]; (repeat' split) <;> rfl

@[simp] theorem Part.askCommand_host_outstanding (p : Part) : p.askCommand.host.outstanding = p.host.outstanding := by
  unfold Part.askCommand; (repeat' split) <;> rfl

@[simp] theorem Part.askCommand_host_abandoned (p : Part) : p.askCommand.host.abandoned = p.host.abandoned := by
  unfold Part.askCommand; (repeat' split) <;> rfl

@[simp] theorem Part.askCommand_host_lastServed (p : Part) : p.askCommand.host.lastServed = p.host.lastServed := by
  unfold Part.askCommand; (repeat' split) <;> rfl

@[simp] theorem Part.askCommand_host_vectorPending (p : Part) : p.askCommand.host.vectorPending = p.host.vectorPending := by
  unfold Part.askCommand; (repeat' split) <;> rfl

@[simp] theorem Part.askCommand_host_vectorMasked (p : Part) : p.askCommand.host.vectorMasked = p.host.vectorMasked := by
  unfold Part.askCommand; (repeat' split) <;> rfl

@[simp] theorem Part.askCommand_host_messagesEnabled (p : Part) : p.askCommand.host.messagesEnabled = p.host.messagesEnabled := by
  unfold Part.askCommand; (repeat' split) <;> rfl

@[simp] theorem Part.askCommand_admin_producer (p : Part) : p.askCommand.admin.producer = p.admin.producer := by
  unfold Part.askCommand; (repeat' split) <;> rfl

@[simp] theorem Part.askCommand_admin_consumer (p : Part) : p.askCommand.admin.consumer = p.admin.consumer := by
  unfold Part.askCommand; (repeat' split) <;> rfl

@[simp] theorem Part.askCommand_admin_command (p : Part) : p.askCommand.admin.command = p.admin.command := by
  unfold Part.askCommand; (repeat' split) <;> rfl

@[simp] theorem Part.askCommand_admin_status (p : Part) : p.askCommand.admin.status = p.admin.status := by
  unfold Part.askCommand; (repeat' split) <;> rfl

@[simp] theorem Part.askCommand_admin_result (p : Part) : p.askCommand.admin.result = p.admin.result := by
  unfold Part.askCommand; (repeat' split) <;> rfl

@[simp] theorem Part.react_port_errorCount (p : Part) : p.react.port.errorCount = p.port.errorCount := by simp [Part.react]

@[simp] theorem Part.react_port_mark (p : Part) : p.react.port.mark = p.port.mark := by simp [Part.react]

@[simp] theorem Part.react_port_joinTimer (p : Part) : p.react.port.joinTimer = p.port.joinTimer := by simp [Part.react]

@[simp] theorem Part.react_port_clockPresent (p : Part) : p.react.port.clockPresent = p.port.clockPresent := by simp [Part.react]

@[simp] theorem Part.react_port_tenure (p : Part) : p.react.port.tenure = p.port.tenure := by simp [Part.react]

@[simp] theorem Part.react_port_chainHold (p : Part) : p.react.port.chainHold = p.port.chainHold := by simp [Part.react]

@[simp] theorem Part.react_port_gnt (p : Part) : p.react.port.gnt = p.port.gnt := by simp [Part.react]

@[simp] theorem Part.react_port_wdr (p : Part) : p.react.port.wdr = p.port.wdr := by simp [Part.react]

@[simp] theorem Part.react_port_rst (p : Part) : p.react.port.rst = p.port.rst := by simp [Part.react]

@[simp] theorem Part.react_admin_producer (p : Part) : p.react.admin.producer = p.admin.producer := by simp [Part.react]

@[simp] theorem Part.react_admin_consumer (p : Part) : p.react.admin.consumer = p.admin.consumer := by simp [Part.react]

@[simp] theorem Part.react_admin_command (p : Part) : p.react.admin.command = p.admin.command := by simp [Part.react]

@[simp] theorem Part.react_admin_status (p : Part) : p.react.admin.status = p.admin.status := by simp [Part.react]

@[simp] theorem Part.react_admin_result (p : Part) : p.react.admin.result = p.admin.result := by simp [Part.react]

@[simp] theorem Part.react_host_outstanding (p : Part) : p.react.host.outstanding = p.host.outstanding := by simp [Part.react]

@[simp] theorem Part.react_host_abandoned (p : Part) : p.react.host.abandoned = p.host.abandoned := by simp [Part.react]

@[simp] theorem Part.react_host_lastServed (p : Part) : p.react.host.lastServed = p.host.lastServed := by simp [Part.react]

@[simp] theorem Part.react_host_vectorPending (p : Part) : p.react.host.vectorPending = p.host.vectorPending := by simp [Part.react]

@[simp] theorem Part.react_host_vectorMasked (p : Part) : p.react.host.vectorMasked = p.host.vectorMasked := by simp [Part.react]

@[simp] theorem Part.react_host_messagesEnabled (p : Part) : p.react.host.messagesEnabled = p.host.messagesEnabled := by simp [Part.react]

@[simp] theorem Part.react_notices_nodeId (p : Part) : p.react.notices.nodeId = p.notices.nodeId := by simp [Part.react]

@[simp] theorem Part.react_notices_arrival (p : Part) : p.react.notices.arrival = p.notices.arrival := by simp [Part.react]

@[simp] theorem Part.react_notices_filters (p : Part) : p.react.notices.filters = p.notices.filters := by simp [Part.react]

@[simp] theorem Part.react_notices_defaultAccept (p : Part) : p.react.notices.defaultAccept = p.notices.defaultAccept := by simp [Part.react]

@[simp] theorem Part.react_notices_ring (p : Part) : p.react.notices.ring = p.notices.ring := by simp [Part.react]

/-! ### The error limit, the page given back and the chain hold (R45, R87, R107, R108) -/

/-- A rise that does not bring the error count to the limit changes nothing but the count. -/
theorem Part.raiseError_below {p : Part} (h : p.port.errorCount ≠ 15) :
    p.raiseError = p.onPort Port.raise := by
  unfold Part.raiseError
  rw [if_neg]
  simp only [Part.onPort, Port.raise, errorLimit]
  omega

/-- A rise to the limit makes the port leave. -/
theorem Part.raiseError_limit {p : Part} (h : p.port.errorCount = 15) :
    p.raiseError = (p.onPort Port.raise).leaveAtLimit := by
  unfold Part.raiseError
  rw [if_pos]
  simp only [Part.onPort, Port.raise, errorLimit]
  omega

/-- Marking a bank for its close changes nothing but the banks of the burst's window. -/
theorem Part.markForClose_eq (p : Part) (o : Operation) (s : Slot) (b : Bool) :
    p.markForClose o s b = p ∨ ∃ w, o.window = some w ∧ p.markForClose o s b =
      p.modBank w o.bank fun y =>
        if y.state = .opened then { y with dueToClose := true, closeRequest := true } else y := by
  unfold Part.markForClose
  split
  · next w hw =>
    by_cases h : (p.window w).kind = .paged ∧ (p.window w).policy = .close ∧
        (b = true ∨ (s.progress ≠ recLength s.record ∧
          ((p.nextBurst s).bank ≠ o.bank ∨ (p.nextBurst s).page ≠ o.page)))
    · exact .inr ⟨w, hw, if_pos h⟩
    · exact .inl (if_neg h)
  · exact .inl rfl

/-- What a settlement can do to a chain hold: begin one for the record after the settled one, or nothing. -/
theorem Part.beginHold_eq (p : Part) (ring : Fin 8) (index : Nat) (rec : Block) (st : Status) :
    p.beginHold ring index rec st = p ∨ p.beginHold ring index rec st = p.onPort fun x =>
      { x with chainHold := some (ring, succIndex (p.ring ring).size index) } := by
  simp only [Part.beginHold]
  split
  · exact .inr rfl
  · exact .inl rfl

/-- What a settlement hands on: the waiting slot of the next record takes its outcome, no other slot
changes (R26). -/
theorem Part.resolveChain_slot (p : Part) (ring : Fin 8) (index : Nat) (st : Status) (k : Fin 8) :
    (p.resolveChain ring index st).slot k =
      if (p.slot k).counted && (p.slot k).ring == ring
          && (p.slot k).index == succIndex (p.ring ring).size index && (p.slot k).chain == .waiting then
        { p.slot k with chain := if st = .success then .success else .failed }
      else p.slot k := tabMap_get _ _ _

/-! ### Settled states -/

/-- In a settled state nothing follows at the same event. -/
theorem Settled.react {p : Part} (h : Settled p) : p.react = p := by
  simp only [Part.react, h.port, h.level, h.flush, h.posting, h.adminPosting, h.notice, h.command]

end Sys2Proof.Machine
end

