-- ==== Sys2Proof/Tests/Slice0.lean ====
section
/-! SUPPORT. Tests: the WellFormed smoke, the worked examples of spec/, one-step checks, and for every
statement with hypotheses a concrete state and operands that meet all of them together
(`test_meets_<statement>`). -/

namespace Sys2Proof.Tests

open Sys2Proof.Machine

/-! ### Settled states -/

/-- A part in which nothing is due at this event. -/
def calm (p : Part) : Bool :=
  p.reportedSet.isEmpty
    && (match p.port.state with
      | .owner => p.master.state != .idle || !p.setStaysEmpty || !p.noHoldComes
      | .yielding => p.master.state != .idle
      | .requesting => !p.setStaysEmpty
      | _ => true)
    && (p.port.req || p.port.lvl == 3)
    && (match p.admin.state with
      | .waiting (.flushRing f) => f.stop.isSome
      | .idle => p.engine.state != .running || p.admin.producer == p.admin.consumer
      | _ => true)
    && (p.compl.fifo.isEmpty || !p.engine.state.working || p.hasAccess .posting)
    && (p.compl.adminHeld.isNone || !p.engine.state.working || p.hasAccess .adminPosting)
    && (p.notices.write.isSome
      || (!p.notices.attached && p.notices.detached.isNone && p.notices.fenced.isNone
        && p.notices.earliest.isNone))

theorem settled_of_calm {p : Part} (h : calm p = true) : Settled p := by
  simp only [calm, Bool.and_eq_true, List.isEmpty_iff] at h
  obtain ⟨⟨⟨⟨⟨⟨set, port⟩, level⟩, unit⟩, fifo⟩, held⟩, notice⟩ := h
  constructor
  · unfold Part.movePort
    split <;> simp_all
    intro a b
    simp_all
  · have lvl : p.requestLevel = none := by simp [Part.requestLevel, Part.mostUrgent, set]
    have keep : (if p.port.req then p.port.lvl else 3) = p.port.lvl := by
      rcases hr : p.port.req <;> simp_all
    simp [Part.driveLevel, Part.onPort, lvl, keep]
  · unfold Part.captureFlush
    split <;> simp_all
    intro hs
    simp_all
  · unfold Part.askPosting
    split <;> simp_all
  · unfold Part.askAdminPosting
    split <;> simp_all
  · unfold Part.askNotice
    rcases hw : p.notices.write <;> simp_all
  · unfold Part.askCommand
    split <;> simp_all

/-- A part whose reaction leaves it as it is. -/
def still (p : Part) : Bool :=
  decide (p.movePort = p) && decide (p.driveLevel = p) && decide (p.captureFlush = p)
    && decide (p.askPosting = p) && decide (p.askAdminPosting = p) && decide (p.askNotice = p)
    && decide (p.askCommand = p)

theorem settled_of_still {p : Part} (h : still p = true) : Settled p := by
  simp only [still, Bool.and_eq_true, decide_eq_true_eq] at h
  obtain ⟨⟨⟨⟨⟨⟨a, b⟩, c⟩, d⟩, e⟩, f⟩, g⟩ := h
  exact ⟨a, b, c, d, e, f, g⟩

/-! ### Small states -/

/-- A machine with no command waiting. -/
def st (p : Part) : State := { pending := [], part := p }

/-- A 64-byte record that begins with these bytes. -/
def block (l : List Nat) : Block :=
  let l := (l ++ List.replicate (64 - l.length) 0).map fun n => BitVec.ofNat 8 n
  if h : l.length = 64 then ⟨⟨l⟩, h⟩ else Slot.empty.record

/-- A transaction record with tag 5 and backplane address 0. -/
def txn (opcode flags length : Nat) : Block := block [opcode, flags, 5, 0, 0, 0, 0, 0, length]

/-- The engine in a state other than OFF and FAILED. -/
def alive (e : EngineState) : Part :=
  { Part.reset with engine := { Engine.reset with state := e, areaSize := 8 } }

def run : Part := alive .running

/-- `q`'s access is outstanding. -/
def accessing (p : Part) (q : Source) (a : Access) : Part :=
  p.onHost fun h =>
    { h with outstanding := some { source := q, access := a, stale := false, elapsed := 0 } }

/-- A command fetch is outstanding. -/
def arriving (p : Part) : State :=
  st (accessing (p.onAdmin fun a => { a with state := .fetching }) .administration (.read 0#64 64))

/-- A command of tag 9 waits. -/
def waiting (p : Part) (w : Waiting) : Part :=
  p.onAdmin fun a => { a with state := .waiting w, command := some (block [0x0F, 0, 9], 0) }

/-- Ring 0: ACTIVE, 16 entries, one of them held. -/
def ring0 : SubmissionRing :=
  { SubmissionRing.absent with
    state := .active, size := 16, quota := 2, retryLimit := 2, producer := 1, fetchIndex := 1,
    heldCount := 1, span := .held :: List.replicate 63 .notAdmitted }

/-- A present completion ring of 16 entries, one of them reserved. -/
def cring0 : CompletionRing :=
  { CompletionRing.absent with present := true, size := 16, vector := 1, reserved := 1 }

def direct : Window :=
  { Window.unused with
    state := .opened, size := 4096, portWidth := 4, maxBurst := 8, limitClass := 1, fenceLimit := 3 }

/-- One bank of 1024-byte pages. -/
def paged (b : Bank) : Window :=
  { direct with kind := .paged, pageSize := 1024, bankCount := 1, openLimit := 5, banks := [b] }

def bank (s : BankState) (due : Bool) : Bank :=
  { state := s, page := 0, timer := 1, dueToClose := due, closeRequest := due }

/-- Slot 0 in use by ring 0 with a record. -/
def holding (p : Part) (rec : Block) (s : SlotState) (w : Option (Fin 16)) : Part :=
  { p with
    fetch := { p.fetch with rings := p.fetch.rings.set 0 ring0 }
    compl := { p.compl with rings := p.compl.rings.set 0 cring0 }
    sched :=
      { p.sched with
        slots := p.sched.slots.set 0
          { Slot.empty with state := s, record := rec, window := w, reservation := some 0 }
        age := [0] } }

/-- Window 0 set, with one slot in flight. -/
def windowed (p : Part) (w : Window) : Part :=
  { p with windows := p.windows.set 0 { w with inFlight := 1 } }

/-- The port with the backplane, in a state that owns it. -/
def owning (p : Part) (s : PortState) : Part :=
  p.onPort fun x =>
    { x with state := s, req := true, lvl := 0, gnt := true, tenure := true, clockPresent := true }

/-- The port on the backplane without it. -/
def joined (p : Part) (s : PortState) : Part :=
  p.onPort fun x =>
    { x with
      state := s, clockPresent := true, req := s == .requesting
      lvl := if s == .requesting then 0 else 3
      joinTimer := if s == .joining then 32 else 0 }

/-- A burst of slot 0 of beats of four bytes from address 0. -/
def burst (c : Opcode) (ph : Option Phase) (w : Option (Fin 16)) (beats acked : Nat) : Operation :=
  { slot := some 0, opcode := c, window := w, bank := 0, page := 0, addr := 0#32, start := 0,
    bytes := 4 * beats, width := 4, beats := beats, acked := acked, phase := ph, elapsed := 0,
    limit := 16, lockHeld := false, oldValue := none, ending := .clean }

/-- The Master busy with an operation. -/
def mastering (p : Part) (m : MasterState) (o : Operation) : Part :=
  p.onMaster fun _ => { state := m, operation := some o, staging := List.replicate 32 1#8 }

/-- A burst of slot 0 to a window is driven, the port being OWNER. -/
def driven (rec : Block) (w : Window) (o : Operation) : State :=
  st (mastering (owning (windowed (holding run rec .inBurst o.window) w) .owner) .driving o)

/-- A close of bank 0 of window 0. -/
def closing : Operation :=
  { burst .marker (some .closePage) (some 0) 0 0 with slot := none, width := 0 }

/-- A notice ring of 16 entries with two entries unconsumed. -/
def noticed (p : Part) : Part :=
  p.onNotices fun n =>
    { n with
      nodeId := some 5#5
      ring := { NoticeRing.absent with
        present := true, size := 16, normalVector := 2, urgentVector := 3, producer := 3,
        consumer := 1 } }

/-- Buffer entry 0 as received so far. -/
def receiving (p : Part) (beats : Nat) : Part :=
  p.onNotices fun n =>
    { n with buffer := n.buffer.set 0 { BufferEntry.empty with state := .receiving, beats := beats } }

/-- A completion of ring 0 in the posting FIFO, its write outstanding. -/
def posting (p : Part) (c : Completion) : Part :=
  accessing (p.onCompl fun u => { u with rings := u.rings.set 0 cring0, fifo := [c] }) .posting
    (.write 0#64 [])

def done0 : Completion :=
  { tag := 5#16, ring := 0, index := 0, status := .success, bytesDone := 8, retries := 0,
    result := 0#32, reservation := 0 }

/-! ### States that meet the statements' hypotheses -/

theorem test_meets_StepRunsTheFrontCommand :
    { State.reset with pending := [.enable] }.pending = Instr.enable :: [] ∧ State.reset.pending = [] :=
  ⟨rfl, rfl⟩

/-- A read burst to a page that is open, its answer the next command. -/
def reading : State :=
  { driven (txn 1 0 8) (paged (bank .opened false)) (burst .read (some .addrRead) (some 0) 2 0) with
    pending := [.targetAnswer .ack 0#32 true] }

/-- The counts of `reading`: slot 0 in use, HELD at position 0 of ring 0, in flight to window 0. -/
theorem reading_queueLaw : QueueLaw reading.part where
  held := by decide
  marks := by decide
  inFlight := by decide
  entries := by decide
  rings := by decide
  span := fun r => ⟨by revert r; decide, fun i hi => by
    have : ∀ r : Fin 8, (reading.part.ring r).span.drop 1 = List.replicate 63 .notAdmitted
      ∨ (reading.part.ring r).span = List.replicate 64 .notAdmitted := by decide
    have size : ∀ r : Fin 8, r = 0 → (reading.part.ring r).spanLimit = 15 := by decide
    have off : ∀ r : Fin 8, r ≠ 0 →
      (reading.part.ring r).span = List.replicate 64 .notAdmitted := by decide
    rcases eq_or_ne r 0 with h | h
    · have e : (reading.part.ring 0).span = .held :: List.replicate 63 .notAdmitted := by decide
      have := size r h
      subst h
      obtain ⟨j, rfl⟩ : ∃ j, i = j + 1 := ⟨i - 1, by omega⟩
      simp only [e, List.getD_eq_getElem?_getD, List.getElem?_cons_succ, List.getElem?_replicate]
      split <;> rfl
    · simp only [off r h, List.getD_eq_getElem?_getD, List.getElem?_replicate]
      split <;> rfl⟩
  positions := by
    have one : ∀ k : Fin 8, (reading.part.slot k).counted = true → k = 0 := by decide
    intro k hk
    obtain rfl := one k hk
    exact ⟨by decide, by decide, by decide, fun j hj hc => absurd (one j hc) hj⟩
  fetch := fun r => by
    have : ∀ r : Fin 8, r ≠ 0 → (reading.part.ring r).state = .absent := by decide
    intro h
    rcases eq_or_ne r 0 with rfl | e
    · exact ⟨by decide, by decide, by decide⟩
    · rw [this r e] at h; exact absurd h (by decide)
  free := by decide
  deferred := by decide
  active := by decide
  settled := by decide
  reserved := fun k h => by
    have one : ∀ k : Fin 8, (reading.part.slot k).state ≠ .free → k = 0 := by decide
    obtain rfl := one k h
    exact ⟨0, rfl, by decide, rfl⟩
  waiters := by decide
  fifo := fun x h => by cases h
  flushed := fun x h => by cases h
  burst := fun o k h hk => by cases h; cases hk; rfl
  flight := fun f h => by cases h
  admission := fun a h => by cases h
  oneFetch := .inl rfl
  flush := fun f h => by cases h
  unused := by decide
  absent := by decide
  present := by decide
  holders := by decide

/-- The hypotheses of EveryStepSettles, EveryStepKeepsTheEngineLaw, EveryStepKeepsThePortLaw,
EveryStepKeepsTheOwnershipLaw, EveryStepKeepsTheChannelQuiet and EveryStepKeepsTheCounts. -/
theorem test_meets_every_step_laws :
    Settled reading.part ∧ EngineLaw reading.part ∧ PortLaw reading.part
      ∧ OwnershipLaw reading.part ∧ QuietLaw reading.part ∧ NoticeLaw reading.part
      ∧ CountLaw reading.part ∧ QueueLaw reading.part ∧ ∃ t, step reading = .next t :=
  ⟨settled_of_calm rfl,
    { pair := rfl
      off := by decide
      alive := by decide
      failed := by decide
      area := by decide },
    by constructor <;> decide, by constructor <;> decide,
    { channel := fun h => absurd h (by decide)
      held := by decide
      failed := by decide
      closing := fun h => absurd h (by decide)
      delivering := fun h => absurd h (by decide) },
    by constructor <;> decide, by constructor <;> decide, reading_queueLaw, _, rfl⟩

theorem test_meets_EnableFromOff :
    (st run).part.engine.state = .running
      ∧ (∀ n : Bool, (st { Part.reset with engine := { Engine.reset with
            adminSize := if n then 8#32 else 256#32, adminBaseLo := 0x1000#32 } }).part.engine.state
          = .off
        ∧ isPowerOfTwo 8 256 (if n then 8#32 else 256#32).toNat = true
        ∧ (0x1000#32).extractLsb' 0 12 = 0#12)
      ∧ State.reset.part.engine.state = .off
      ∧ ¬(isPowerOfTwo 8 256 State.reset.part.engine.adminSize.toNat = true
        ∧ State.reset.part.engine.adminBaseLo.extractLsb' 0 12 = 0#12) := by
  decide


/-- A bus-eligible READ to a DIRECT window. -/
def eligible (p : Part) : Part := windowed (holding p (txn 1 0 8) .held (some 0)) direct

/-- The port owns the backplane with REQ raised and a slot bus-eligible. -/
theorem test_meets_EveryStepKeepsThePortLaw_level :
    ∀ p, p = eligible (owning run .owner) →
      Settled p ∧ p.engine.state = .running ∧ p.port.req = true
      ∧ (0 : Fin 8) ∈ p.sched.age ∧ p.busEligible (p.slot 0) = true := by
  rintro p rfl
  exact ⟨settled_of_still rfl, by decide⟩

theorem test_meets_QuiesceStopsThePart :
    State.reset.part.engine.state ≠ .running
      ∧ (Settled (eligible (joined run .requesting))
        ∧ (eligible (joined run .requesting)).engine.state = .running
        ∧ (eligible (joined run .requesting)).port.state = .requesting)
      ∧ (Settled (eligible (owning run .owner)) ∧ (eligible (owning run .owner)).port.state = .owner
        ∧ (eligible (owning run .owner)).master.state = .idle)
      ∧ (Settled reading.part ∧ reading.part.engine.state = .running
        ∧ reading.part.port.state = .owner ∧ reading.part.master.state ≠ .idle)
      ∧ ((alive .quiescing).engine.state = .quiescing ∧ (alive .quiescing).host.outstanding = none
        ∧ (∀ q, (alive .quiescing).request q = none) ∧ (alive .quiescing).host.abandoned = []
        ∧ (alive .quiescing).master.state = .idle
        ∧ (alive .quiescing).compl.fifo = []
        ∧ (∀ k, ((alive .quiescing).slot k).state ≠ .posting)
        ∧ (alive .quiescing).admin.state ≠ .fetching ∧ (alive .quiescing).admin.state ≠ .writing
        ∧ ¬((alive .quiescing).admin.state = .completing
          ∧ (alive .quiescing).compl.adminHeld.isSome = true))
      ∧ (accessing (alive .quiescing) .posting (.write 0#64 [])).host.outstanding.isSome = true :=
  ⟨by decide, ⟨settled_of_still rfl, rfl, rfl⟩, ⟨settled_of_still rfl, rfl, rfl⟩,
    ⟨settled_of_calm rfl, rfl, rfl, by decide⟩,
    ⟨rfl, rfl, fun q => by cases q <;> rfl, rfl, rfl, rfl, by decide, by decide, by decide, by decide⟩,
    rfl⟩

theorem test_meets_RegisterWrites :
    State.reset.part.engine.state = .off
      ∧ (Instr.registerWrite 0x004#12 4 3#32).wellFormed = true
      ∧ ((0x004#12 : BitVec 12) ≠ 0x010#12 ∧ (0x004#12 : BitVec 12) ≠ 0x014#12
        ∧ (0x004#12 : BitVec 12) ≠ 0x018#12)
      ∧ (Instr.registerWrite 0x010#12 4 3#32).wellFormed = true
      ∧ (st run).part.engine.state ≠ .off
      ∧ (Instr.registerWrite 0x004#12 2 1#32).wellFormed = true := by
  decide

/-- Ring 0 and completion ring 0, without a slot in use. -/
def ringed (p : Part) : Part :=
  { p with
    fetch := { p.fetch with rings := p.fetch.rings.set 0 ring0 }
    compl := { p.compl with
      rings := p.compl.rings.set 0 { cring0 with producer := 3, consumer := 1 } } }

theorem test_meets_SubmitMovesTheProducerIndex :
    Settled (ringed run) ∧ (ringed run).engine.state.alive = true
      ∧ (0#4).toNat = (0 : Fin 8).val ∧ ((ringed run).ring 0).state ≠ .absent
      ∧ (15#12).toNat < ((ringed run).ring 0).size :=
  ⟨settled_of_calm rfl, by decide⟩

/-- Ring 0 HALTED with nothing held, P at `q`, its position C DONE or not. -/
def haltedRing (p : Part) (q : Nat) (m : SpanMark) (held : Nat) : Part :=
  { ringed p with
    fetch := { p.fetch with
      rings := p.fetch.rings.set 0 { ring0 with
        state := .halted, producer := q, consumer := 1, fetchIndex := 1, heldCount := held,
        span := m :: List.replicate 63 .notAdmitted } } }

/-- A flush of ring 0 whose walk ends at P. -/
def walk (q : Nat) : Flush :=
  { ring := 0, stop := some q, made := 0, unwritten := 0, walked := false, granted := false }

/-- A flush waits for an entry of completion ring 0, which has 14 unconsumed and one reserved. -/
def flushWaits (p : Part) : Part :=
  (waiting (haltedRing p 3 .notAdmitted 0) (.flushRing (walk 3))).modCring 0 fun c =>
    { c with producer := 15, consumer := 1 }

/-- A flush that waits is granted an entry at index 3, and none at index 1. -/
theorem test_meets_CompleteConsumesAndArms_grant :
    Settled (flushWaits run) ∧ (flushWaits run).engine.state.alive = true
      ∧ ((flushWaits run).cring 0).present = true ∧ (3#12).toNat < ((flushWaits run).cring 0).size
      ∧ inSpan 16 1 15 (3#12).toNat = true ∧ inSpan 16 1 15 (1#12).toNat = true
      ∧ (flushWaits run).flushAsks 0 = some (walk 3) ∧ ((flushWaits run).cring 0).freeEntries = 0
      ∧ ((flushWaits run).cring 0).reserved
          + distance ((flushWaits run).cring 0).size (3#12).toNat ((flushWaits run).cring 0).producer
        < ((flushWaits run).cring 0).size - 1
      ∧ ((flushWaits run).cring 0).size - 1 ≤ ((flushWaits run).cring 0).reserved
          + distance ((flushWaits run).cring 0).size (1#12).toNat
            ((flushWaits run).cring 0).producer :=
  ⟨settled_of_calm rfl, by decide⟩

/-- Both ends of the span, in RUNNING and in QUIESCED, with no flush waiting. -/
theorem test_meets_CompleteConsumesAndArms :
    ∀ i : Fin 2, ∀ e : Fin 2,
      (ringed (alive (if e = 0 then .running else .quiesced))).flushAsks 0 = none ∧
      Settled (ringed (alive (if e = 0 then .running else .quiesced)))
      ∧ (ringed (alive (if e = 0 then .running else .quiesced))).engine.state.alive = true
      ∧ ((ringed (alive (if e = 0 then .running else .quiesced))).cring 0).present = true
      ∧ (if i = 0 then 1#12 else 3#12).toNat
          < ((ringed (alive (if e = 0 then .running else .quiesced))).cring 0).size
      ∧ inSpan 16 1 3 (if i = 0 then 1#12 else 3#12).toNat = true :=
  fun i e => ⟨by revert i e; decide, settled_of_calm (by revert i e; decide), by revert i e; decide⟩

theorem test_meets_NoticeConsumesAndArms :
    ∀ e : Fin 2,
      Settled (noticed (alive (if e = 0 then .running else .quiesced)))
      ∧ (noticed (alive (if e = 0 then .running else .quiesced))).engine.state.alive = true
      ∧ (noticed (alive (if e = 0 then .running else .quiesced))).notices.ring.present = true
      ∧ (3#12).toNat < (noticed (alive (if e = 0 then .running else .quiesced))).notices.ring.size
      ∧ inSpan 16 1 3 (3#12).toNat = true :=
  fun e => ⟨settled_of_calm (by revert e; decide), by revert e; decide⟩

theorem test_meets_AdminNotifiesMoveIndicesAndFetch :
    (Settled run ∧ run.engine.state.alive = true ∧ (7#12).toNat < run.engine.areaSize
        ∧ run.engine.state = .running ∧ run.admin.state = .idle ∧ (7#12).toNat ≠ run.admin.consumer
        ∧ 1 ≤ run.adminFree ∧ (0#12).toNat = run.admin.consumer)
      ∧ ∀ e : EngineState, e.alive = true →
        ∀ p, p = (alive e).onCompl (fun c => { c with adminRing := { c.adminRing with producer := 2 } }) →
          Settled p ∧ p.engine.state.alive = true ∧ (2#12).toNat < p.engine.areaSize
          ∧ inSpan p.engine.areaSize p.compl.adminRing.consumer p.compl.adminRing.producer
            (2#12).toNat = true :=
  ⟨⟨settled_of_calm rfl, by decide⟩, fun e h p hp => by
    subst hp
    cases e <;> first
      | exact absurd h (by decide)
      | exact ⟨settled_of_calm rfl, by decide⟩⟩

/-- A command waits while the admin completion ring is full; its consumer index may move to 1. -/
def adminFull : Part :=
  (run.onAdmin fun a => { a with producer := 2 }).onCompl fun c =>
    { c with adminRing := { c.adminRing with producer := 7 } }

theorem test_meets_AdminNotifiesMoveIndicesAndFetch_complete :
    Settled adminFull ∧ adminFull.engine.state = .running ∧ (1#12).toNat < adminFull.engine.areaSize
      ∧ inSpan adminFull.engine.areaSize adminFull.compl.adminRing.consumer
          adminFull.compl.adminRing.producer (1#12).toNat = true
      ∧ adminFull.admin.state = .idle ∧ adminFull.admin.producer ≠ adminFull.admin.consumer
      ∧ distance adminFull.engine.areaSize (1#12).toNat adminFull.compl.adminRing.producer + 1
        < adminFull.engine.areaSize
      ∧ adminFull.engine.areaSize
        ≤ distance adminFull.engine.areaSize (0#12).toNat adminFull.compl.adminRing.producer + 1 :=
  ⟨settled_of_still rfl, by decide⟩

theorem test_meets_DroppedNotifyOnlySetsTheFlag :
    State.reset.part.engine.state = .off ∧ 7 < (8#4).toNat
      ∧ ((0 : Fin 8).val = (0#4).toNat ∧ (run.ring 0).state = .absent)
      ∧ ((ringed run).ring 0).size ≤ (16#12).toNat
      ∧ (run.cring 0).present = false ∧ ((ringed run).cring 0).size ≤ (16#12).toNat
      ∧ distance 16 ((ringed run).cring 0).consumer ((ringed run).cring 0).producer
        < distance 16 ((ringed run).cring 0).consumer (4#12).toNat
      ∧ run.notices.ring.present = false
      ∧ (noticed run).notices.ring.size ≤ (16#12).toNat
      ∧ distance 16 (noticed run).notices.ring.consumer (noticed run).notices.ring.producer
        < distance 16 (noticed run).notices.ring.consumer (4#12).toNat
      ∧ run.engine.areaSize ≤ (8#12).toNat
      ∧ distance run.engine.areaSize run.compl.adminRing.consumer run.compl.adminRing.producer
        < distance run.engine.areaSize run.compl.adminRing.consumer (1#12).toNat := by
  decide

/-- The nearest source and the farthest one. -/
theorem test_meets_ArbiterServesSourcesInCyclicOrder :
    (run.engine.state.working = true ∧ run.host.outstanding = none
        ∧ (run.ask .ringFetch (.read 0#64 64)).request .ringFetch = some (.read 0#64 64)
        ∧ Source.ringFetch.place.val = (run.host.lastServed.place.val + 1 + 0) % 6)
      ∧ ((run.ask .notices (.write 0#64 [])).request .notices = some (.write 0#64 [])
        ∧ Source.notices.place.val = (run.host.lastServed.place.val + 1 + 5) % 6
        ∧ ∀ (q : Source) (k : Nat), k < 5 →
          q.place.val = (run.host.lastServed.place.val + 1 + k) % 6 →
          (run.ask .notices (.write 0#64 [])).request q = none)
      ∧ (∀ p, p = run.onHost (fun h => { h with abandoned := [.read 0#64 8] }) →
        p.host.abandoned = [.read 0#64 8] ∧ Source.master.place.val
            = (p.host.lastServed.place.val + 1 + 2) % 6
        ∧ ∀ q, p.request q = none)
      ∧ State.reset.part.engine.state.working = false
      ∧ (∀ q, run.request q = none) ∧ run.host.abandoned = [] := by
  refine ⟨by decide, ⟨by decide, by decide, ?_⟩, ?_, by decide, fun q => by cases q <;> rfl, rfl⟩
  case refine_2 =>
    rintro p rfl
    exact ⟨rfl, by decide, fun q => by cases q <;> rfl⟩
  intro q k hk hq
  cases q
  case notices =>
    have : run.host.lastServed.place.val = 5 := rfl
    have : Source.notices.place.val = 5 := rfl
    omega
  all_goals rfl

theorem test_meets_VectorMasksHoldMessagesBack :
    (run.host.messagesEnabled = true ∧ run.host.vectorMasked.get 15 = false)
      ∧ ((run.mask (.vector 15)).host.vectorMasked.get 15 = true)
      ∧ (((run.mask (.vector 15)).signal 15).host.messagesEnabled = true
        ∧ ((run.mask (.vector 15)).signal 15).host.vectorPending.get 15 = true)
      ∧ (run.mask .messages).host.messagesEnabled = false := by
  decide

/-- A record fetch of ring 0 in flight. -/
def fetching (p : Part) (discard : Bool) : Part :=
  accessing (p.onFetch fun u =>
    { u with flight := some { ring := 0, index := 1, reservation := 0, discard := discard } })
    .ringFetch (.read 0#64 64)

/-- An access that is the arbiter's next one and cannot be issued, of every fatal kind. -/
theorem test_meets_FatalReportsEnterFailed_unissued :
    (run.ask .ringFetch (.read 0#64 64)).readFailable .ringFetch = true
      ∧ (run.ask .ringFetch (.read 0#64 64)).readOutstanding .ringFetch = false
      ∧ (run.ask .administration (.read 0#64 64)).readFailable .administration = true
      ∧ (run.ask .posting (.write 0#64 [])).writeFailable .posting = true
      ∧ (run.ask .adminPosting (.write 0#64 [])).writeFailable .adminPosting = true
      ∧ (run.ask .notices (.write 0#64 [])).writeFailable .notices = true := by
  decide

theorem test_meets_FatalReportsEnterFailed :
    run.engine.state.working = true
      ∧ ((fetching run false).engine.state.working = true
        ∧ (fetching run false).readOutstanding .ringFetch = true
        ∧ (fetching run false).readFailable .ringFetch = true
        ∧ ∃ f, (fetching run false).fetch.flight = some f ∧ 0 = f.ring.val)
      ∧ (arriving run).part.readOutstanding .administration = true
      ∧ ((posting run done0).writeOutstanding .posting = true
        ∧ ∃ x l, (posting run done0).compl.fifo = x :: l ∧ 0 = x.reservation.val)
      ∧ (accessing run .adminPosting (.write 0#64 [])).writeOutstanding .adminPosting = true
      ∧ ((accessing (run.onNotices fun n => { n with write := some ⟨none, false⟩ }) .notices
          (.write 0#64 [])).writeOutstanding .notices = true
        ∧ (accessing (run.onNotices fun n => { n with write := some ⟨none, false⟩ }) .notices
          (.write 0#64 [])).notices.write.isSome = true)
      ∧ (joined run .joining).port.state = .joining :=
  ⟨rfl, ⟨rfl, rfl, rfl, _, rfl, rfl⟩, rfl, ⟨rfl, _, _, rfl, rfl⟩, rfl, ⟨rfl, rfl⟩, rfl⟩

/-- Ring 0 with a record to fetch. -/
def offering : Part := (ringed run).modRing 0 fun r => { r with producer := 2 }

theorem test_meets_RingChoiceTakesTheNextUrgentCandidate :
    (Settled offering ∧ offering.engine.state = .running ∧ offering.fetch.admission = none
        ∧ offering.fetch.flight = none ∧ offering.candidate 0 = true
        ∧ (∀ q, offering.candidate q = true → (offering.ring 0).cls ≤ (offering.ring q).cls)
        ∧ (∀ q, offering.candidate q = true → (offering.ring q).cls = (offering.ring 0).cls →
          ((0 : Fin 8) - (offering.fetch.lastChosen + 1)).val
            ≤ (q - (offering.fetch.lastChosen + 1)).val))
      ∧ State.reset.part.engine.state ≠ .running
      ∧ (fetching run false).fetch.flight.isSome = true
      ∧ ∀ q, run.candidate q = false :=
  ⟨⟨settled_of_calm rfl, by decide⟩, by decide⟩

theorem test_meets_CandidateIsR6 : offering.sched.age.Nodup := by decide

theorem test_meets_FetchedRecordIsPlacedOrDiscarded :
    (Settled (fetching offering false) ∧ (fetching offering false).engine.state = .running
        ∧ (fetching offering false).readOutstanding .ringFetch = true
        ∧ (∃ f, (fetching offering false).fetch.flight = some f ∧ f.discard = false
          ∧ ((fetching offering false).ring f.ring).state = .active)
        ∧ ((fetching offering false).slot 0).state = .free
        ∧ ∀ j : Fin 8, j < 0 → ((fetching offering false).slot j).state ≠ .free)
      ∧ Settled (fetching offering true) ∧ (fetching offering true).engine.state.working = true
      ∧ (fetching offering true).readOutstanding .ringFetch = true
      ∧ ∃ f, (fetching offering true).fetch.flight = some f ∧ f.discard = true :=
  ⟨⟨settled_of_calm rfl, rfl, rfl, ⟨_, rfl, rfl, rfl⟩, rfl, by decide⟩, settled_of_calm rfl, rfl, rfl,
    _, rfl, rfl⟩

/-- The ring's class and the record's; a predecessor below C, DONE, and HELD with CHAIN set and clear. -/
theorem test_meets_FetchedRecordIsPlacedOrDiscarded_fields :
    ((holding run (txn 1 0 8) .held none).ring 0).order = .ordered
      ∧ (((holding run (txn 1 0 8) .held none).modRing 0 fun r => { r with order := .relaxed }).ring
          0).order = .relaxed ∧ recOverride (txn 1 8 8) = true
      ∧ ∀ f, f = 0 ∨ f = 2 → ∀ p, p = holding run (txn 1 f 8) .held none →
        predIndex (p.ring 0).size 1 = 0 ∧ (p.ring 0).spanOffset 0 = 0 ∧ (p.ring 0).spanOffset 1 ≠ 0
        ∧ (p.ring 0).spanMark 0 = .held ∧ (p.slot 0).counted = true ∧ (p.slot 0).ring = 0
        ∧ (p.slot 0).index = 0 ∧ (recChain (p.slot 0).record = true ↔ f = 2)
        ∧ (((p.modRing 0 fun r => r.setSpan 0 .done).ring 0).spanMark 0 = .done) := by
  refine ⟨rfl, rfl, rfl, ?_⟩
  rintro f (rfl | rfl) p rfl <;> decide

/-- A record is discarded whose reservation goes to a flush that waits for it. -/
theorem test_meets_FetchedRecordIsPlacedOrDiscarded_grant :
    Settled (fetching (flushWaits run) true) ∧ (fetching (flushWaits run) true).engine.state.working = true
      ∧ (fetching (flushWaits run) true).readOutstanding .ringFetch = true
      ∧ (∃ f, (fetching (flushWaits run) true).fetch.flight = some f ∧ f.discard = true
        ∧ (fetching (flushWaits run) true).flushAsks f.reservation = some (walk 3)
        ∧ ((fetching (flushWaits run) true).cring f.reservation).present = true
        ∧ 0 < ((fetching (flushWaits run) true).cring f.reservation).reserved
        ∧ ((fetching (flushWaits run) true).cring f.reservation).reserved
            + ((fetching (flushWaits run) true).cring f.reservation).outstanding + 1
          = ((fetching (flushWaits run) true).cring f.reservation).size)
      ∧ (fetching offering true).flushAsks 0 = none :=
  ⟨settled_of_calm rfl, rfl, rfl, ⟨_, rfl, rfl, by decide⟩, rfl⟩

/-- Every slot holds a record of ring 1, of class `c`; a record of ring 0 is being fetched. -/
def full (c : Fin 4) : Part :=
  { fetching offering false with
    sched := { Scheduler.reset with
      slots := Vector.ofFn fun k : Fin 8 =>
        { Slot.empty with state := .held, ring := 1, index := k.val, cls := c, reservation := some 1 }
      age := List.finRange 8 }
    fetch := { (fetching offering false).fetch with
      rings := (offering.fetch.rings).set 1
        { ring0 with cls := c, quota := 8, producer := 8, fetchIndex := 8, heldCount := 8,
                     span := List.replicate 8 .held ++ List.replicate 56 .notAdmitted } } }

theorem test_meets_FullQueueEvictsOrBars :
    ((full 3).engine.state = .running ∧ (full 3).readOutstanding .ringFetch = true
        ∧ (∃ f, (full 3).fetch.flight = some f ∧ f.discard = false ∧ f.ring = 0)
        ∧ ((full 3).ring 0).state = .active ∧ (∀ j, ((full 3).slot j).state ≠ .free)
        ∧ (full 3).sched.age.Nodup
        ∧ (7 : Fin 8) ∈ (full 3).sched.age ∧ (full 3).evictable ((full 3).slot 7) = true
        ∧ ((full 3).slot 7).ring ≠ 0 ∧ 0 < ((full 3).ring ((full 3).slot 7).ring).size
        ∧ (∀ u ∈ (full 3).sched.age, (full 3).evictable ((full 3).slot u) = true →
          ((full 3).slot u).ring ≠ 0 → ((full 3).slot u).cls < ((full 3).slot 7).cls
            ∨ (((full 3).slot u).cls = ((full 3).slot 7).cls
              ∧ (full 3).sched.age.idxOf u ≤ (full 3).sched.age.idxOf 7))
        ∧ (full 3).effectiveClass 0 (txn 1 0 8) < ((full 3).slot 7).cls)
      ∧ (∀ j, ((full 0).slot j).state ≠ .free)
      ∧ ∀ u ∈ (full 0).sched.age, (full 0).evictable ((full 0).slot u) = true →
        ((full 0).slot u).ring ≠ 0 →
        ((full 0).slot u).cls ≤ (full 0).effectiveClass 0 (txn 1 0 8) :=
  ⟨⟨rfl, rfl, ⟨_, rfl, rfl, rfl⟩, rfl, by decide⟩, by decide⟩

/-- The engine is QUIESCED with a record of ring 0 in the admission register. -/
def parked (p : Part) : Part :=
  (p.onEngine fun e => { e with state := .quiesced }).onFetch fun u =>
    { u with
      flight := none
      admission := some { ring := 0, index := 1, record := txn 1 0 8, reservation := 0 } }

/-- Nothing waits; a record waits with a FREE slot, with a victim, with no victim of a less urgent class;
and the wait for a flush is not on. -/
theorem test_meets_EnableFromQuiescedResumes :
    ((alive .quiesced).engine.state = .quiesced ∧ (alive .quiesced).fetch.admission = none)
      ∧ (∀ p, p = parked offering ∨ p = parked (full 3) ∨ p = parked (full 0) →
        p.engine.state = .quiesced ∧ p.fetch.admission.isSome = true
        ∧ ∀ f, p.admin.state ≠ .waiting (.flushRing f))
      ∧ (((parked offering).slot 0).state = .free
        ∧ ∀ j : Fin 8, j < 0 → ((parked offering).slot j).state ≠ .free)
      ∧ ((∀ j, ((parked (full 3)).slot j).state ≠ .free) ∧ (parked (full 3)).victim 0 = some 7
        ∧ (parked (full 3)).effectiveClass 0 (txn 1 0 8) < ((parked (full 3)).slot 7).cls)
      ∧ ((∀ j, ((parked (full 0)).slot j).state ≠ .free)
        ∧ ∀ v, (parked (full 0)).victim 0 = some v →
          ((parked (full 0)).slot v).cls ≤ (parked (full 0)).effectiveClass 0 (txn 1 0 8)) := by
  refine ⟨by decide, ?_, by decide, by decide, by decide⟩
  rintro p (rfl | rfl | rfl) <;> exact ⟨rfl, rfl, fun f h => by cases h⟩

/-- Windows 0 and 1 side by side. -/
def twoWindows : Part :=
  { windowed run direct with
    windows := (windowed run direct).windows.set 1 { direct with base := 4096#32, access := .readOnly } }

theorem test_meets_MappingFindsTheContainingWindow :
    (∀ u v : Fin 16, u ≠ v → (twoWindows.window u).state ≠ .unused →
        (twoWindows.window v).state ≠ .unused →
        rangesOverlap (twoWindows.window u).base.toNat (twoWindows.window u).size
          (twoWindows.window v).base.toNat (twoWindows.window v).size = false)
      ∧ twoWindows.badRecord (txn 1 0 8) = false ∧ recOpcode (txn 1 0 8) = some .read
      ∧ twoWindows.mapping (txn 1 0 8) = .window 0
      ∧ (twoWindows.badRecord (txn 1 0 6) = false ∧ (twoWindows.window 0).state = .opened
        ∧ (twoWindows.window 0).base.toNat ≤ (recAddr (txn 1 0 6)).toNat
        ∧ (recAddr (txn 1 0 6)).toNat + rangeLength (txn 1 0 6)
          ≤ (twoWindows.window 0).base.toNat + (twoWindows.window 0).size
        ∧ (twoWindows.window 0).misaligned (txn 1 0 6) = true)
      ∧ (run.badRecord (txn 9 0 0) = true ∧ run.badRecord (txn 5 0 0) = false
        ∧ recOpcode (txn 5 0 0) = some .marker)
      ∧ ∀ r, r = block [2, 0, 5, 0, 0, 0x10, 0, 0, 8] →
        twoWindows.badRecord r = false ∧ recOpcode r = some .write
        ∧ (twoWindows.window 1).state = .opened
        ∧ (twoWindows.window 1).base.toNat ≤ (recAddr r).toNat
        ∧ (recAddr r).toNat + rangeLength r
          ≤ (twoWindows.window 1).base.toNat + (twoWindows.window 1).size
        ∧ (twoWindows.window 1).misaligned r = false ∧ (twoWindows.window 1).denies r = true := by
  refine ⟨by decide, by decide, by decide, by decide, by decide, by decide, ?_⟩
  rintro r rfl
  decide

/-- The first and the last byte of a PAGED window of four banks. -/
theorem test_meets_BankAndPageDerivation :
    ∀ w : Window, w = { direct with base := 0x60000000#32, pageSize := 2048, bankCount := 4 } →
      (w.base.toNat ≤ (0x60000000#32).toNat ∧ w.base.toNat ≤ (0x60000FFF#32).toNat)
      ∧ 0 < w.pageSize ∧ 0 < w.bankCount
      ∧ (0x60000000#32).toNat % 4 = 0 ∧ w.base.toNat % 4 = 0 ∧ w.pageSize % 4 = 0
      ∧ (0x6000001F#32).toNat
        < { w with kind := .paged }.burstEnd (0x60000000#32).toNat 0x60001000
      ∧ ((holding run (txn 3 0 0) .held (some 0)).slot 0).window = some 0
      ∧ recOpcode ((holding run (txn 3 0 0) .held (some 0)).slot 0).record = some .compareSwap := by
  rintro w rfl
  decide

/-! #### Selection, bursts and phases -/

/-- Slot 0 of class 0 wants bank 0 of window 0; slot 1, younger and of a RELAXED ring, wants bank 0 of
window 1, which holds its page. -/
def twoSlots : Part :=
  let p := eligible (owning run .owner)
  { p with
    fetch := { p.fetch with
      rings := p.fetch.rings.set 1 { ring0 with order := .relaxed } }
    windows := (p.windows.set 0 { paged (bank .closed false) with inFlight := 1 }).set 1
      { paged (bank .opened false) with base := 4096#32, inFlight := 1 }
    sched := { p.sched with
      slots := p.sched.slots.set 1
        { Slot.empty with
          state := .held, ring := 1, record := block [1, 0, 6, 0, 0, 0x10, 0, 0, 8],
          window := some 1, reservation := some 0 }
      age := [0, 1] } }

/-- A page hit, no page hit at all, a slot passed over, and a WRITE. -/
theorem test_meets_SelectionHandsOverTheChosenSlot :
    (∀ p, p = windowed (eligible (owning run .owner)) (paged (bank .opened false))
          ∨ p = windowed (eligible (owning run .owner)) (paged (bank .closed false)) →
        Settled p ∧ p.engine.state = .running ∧ p.port.state = .owner ∧ p.master.state = .idle
        ∧ (0 : Fin 8) ∈ p.busSet
        ∧ (∀ j ∈ p.busSet, (p.slot 0).cls ≤ (p.slot j).cls)
        ∧ (∀ j ∈ p.busSet, (p.slot j).cls = (p.slot 0).cls →
          p.sched.age.idxOf 0 ≤ p.sched.age.idxOf j)
        ∧ (p.pageHit (p.slot 0) = true
          ∨ (p.pageHit (p.slot 0) = false ∧ p.directWindow (p.slot 0) = false
            ∧ recOpcode (p.slot 0).record ≠ some .noticeSend ∧ (p.slot 0).passes ≠ 4
            ∧ ∀ j ∈ p.busSet, (p.slot j).cls = (p.slot 0).cls →
              (p.ring (p.slot j).ring).order = .relaxed → p.pageHit (p.slot j) = false)))
      ∧ (Settled twoSlots ∧ twoSlots.engine.state = .running ∧ twoSlots.port.state = .owner
        ∧ twoSlots.master.state = .idle ∧ (0 : Fin 8) ∈ twoSlots.busSet
        ∧ (∀ j ∈ twoSlots.busSet, (twoSlots.slot 0).cls ≤ (twoSlots.slot j).cls)
        ∧ (∀ j ∈ twoSlots.busSet, (twoSlots.slot j).cls = (twoSlots.slot 0).cls →
          twoSlots.sched.age.idxOf 0 ≤ twoSlots.sched.age.idxOf j)
        ∧ twoSlots.pageHit (twoSlots.slot 0) = false ∧ twoSlots.directWindow (twoSlots.slot 0) = false
        ∧ recOpcode (twoSlots.slot 0).record ≠ some .noticeSend ∧ (twoSlots.slot 0).passes ≠ 4
        ∧ (1 : Fin 8) ∈ twoSlots.busSet ∧ (twoSlots.slot 1).cls = (twoSlots.slot 0).cls
        ∧ (twoSlots.ring (twoSlots.slot 1).ring).order = .relaxed
        ∧ twoSlots.pageHit (twoSlots.slot 1) = true
        ∧ ∀ j ∈ twoSlots.busSet, (twoSlots.slot j).cls = (twoSlots.slot 0).cls →
          (twoSlots.ring (twoSlots.slot j).ring).order = .relaxed →
          twoSlots.pageHit (twoSlots.slot j) = true →
          twoSlots.sched.age.idxOf 1 ≤ twoSlots.sched.age.idxOf j)
      ∧ (∀ p, p = windowed (holding (owning run .owner) (txn 2 0 8) .held (some 0)) direct →
        (0 : Fin 8) ∈ p.busSet ∧ p.directWindow (p.slot 0) = true
        ∧ recOpcode (p.slot 0).record = some .write)
      ∧ State.reset.part.engine.state ≠ .running := by
  refine ⟨?_, ⟨settled_of_still rfl, by decide⟩, ?_, by decide⟩
  · rintro p (rfl | rfl)
    · exact ⟨settled_of_still rfl, by decide⟩
    · exact ⟨settled_of_still rfl, by decide⟩
  · rintro p rfl
    decide

/-- The part whose slot 0 has done 4 bytes of a READ of 12 from the last 8 bytes of a page. -/
def splitting (w : Window) : Part :=
  let p := holding run (block [1, 0, 5, 0, 0xF8, 3, 0, 0, 12]) .started (some 0)
  (windowed p w).modSlot 0 fun s => { s with progress := 4 }

theorem test_meets_BurstsFollowTheSplit :
    ∀ w : Window, w = direct ∨ w = paged (bank .closed false) →
      ((splitting w).slot 0).window = some 0
      ∧ recOpcode ((splitting w).slot 0).record = some .read
      ∧ 0 < ((splitting w).window 0).portWidth ∧ 0 < ((splitting w).window 0).maxBurst
      ∧ (((splitting w).window 0).kind = .paged → 0 < ((splitting w).window 0).pageSize
        ∧ ((splitting w).window 0).pageSize % ((splitting w).window 0).portWidth = 0
        ∧ ((splitting w).window 0).base.toNat % ((splitting w).window 0).portWidth = 0
        ∧ ((splitting w).window 0).base.toNat ≤ 0x3FC)
      ∧ 0x3FC = (recAddr ((splitting w).slot 0).record).toNat + ((splitting w).slot 0).progress
      ∧ 0x404 = (recAddr ((splitting w).slot 0).record).toNat
        + recLength ((splitting w).slot 0).record
      ∧ (recAddr ((splitting w).slot 0).record).toNat % ((splitting w).window 0).portWidth = 0
      ∧ recLength ((splitting w).slot 0).record % ((splitting w).window 0).portWidth = 0
      ∧ ((splitting w).slot 0).progress % ((splitting w).window 0).portWidth = 0 := by
  rintro w (rfl | rfl) <;> decide

theorem test_meets_FirstPhaseFollowsThePageTable :
    (burst .noticeSend none none 4 0).window = none
      ∧ ((burst .read none (some 0) 2 0).window = some 0
        ∧ ((windowed run direct).window 0).kind = .direct)
      ∧ (∀ b, b = bank .opened false → ((windowed run (paged b)).window 0).kind = .paged
        ∧ ((windowed run (paged b)).window 0).banks[(burst .read none (some 0) 2 0).bank]? = some b
        ∧ b.state = .opened ∧ b.page = (burst .read none (some 0) 2 0).page ∧ b.dueToClose = false)
      ∧ ∀ b ph, (b = bank .closed false ∧ ph = Phase.openPage)
          ∨ (b = bank .unknown false ∧ ph = .closePage) ∨ (b = bank .opened true ∧ ph = .closePage)
          ∨ (b = { bank .opened false with page := 1 } ∧ ph = .closePage) →
        ((windowed run (paged b)).window 0).kind = .paged
        ∧ ((windowed run (paged b)).window 0).banks[(burst .read none (some 0) 2 0).bank]? = some b
        ∧ ((b.state = .closed ∧ ph = Phase.openPage)
          ∨ ((b.state = .unknown ∨ (b.state = .opened
            ∧ (b.page ≠ (burst .read none (some 0) 2 0).page ∨ b.dueToClose = true)))
            ∧ ph = .closePage)) := by
  refine ⟨by decide, by decide, ?_, ?_⟩
  · rintro b rfl
    decide
  · rintro b ph (⟨rfl, rfl⟩ | ⟨rfl, rfl⟩ | ⟨rfl, rfl⟩ | ⟨rfl, rfl⟩) <;> decide

/-- A burst without a window is driven, the node id being set. -/
def sending (ph : Phase) (acked : Nat) : State :=
  st (mastering (owning (noticed (holding run (txn 4 0 0) .inBurst none)) .owner) .driving
    (burst .noticeSend (some ph) none 4 acked))

/-- A phase of each opcode waits, before the last beat and at it. -/
theorem test_meets_BurstPhasesFollowTheirAnswers :
    (State.reset.part.master.state ≠ .driving ∧ State.reset.part.master.state ≠ .closing)
      ∧ (∀ o, o = burst .read (some .addrRead) (some 0) 2 0
            ∨ o = burst .read (some .readBeat) (some 0) 2 0
            ∨ o = burst .read (some .readBeat) (some 0) 2 1
            ∨ o = burst .write (some .addrWrite) (some 0) 2 0
            ∨ o = burst .write (some .writeBeat) (some 0) 2 0 →
        Settled (driven (txn 1 0 8) direct o).part
        ∧ ∃ ph, Driving (driven (txn 1 0 8) direct o).part o 0 ph)
      ∧ (burst .read (some .readBeat) (some 0) 2 0).acked + 1
        < (burst .read (some .readBeat) (some 0) 2 0).beats
      ∧ (burst .read (some .readBeat) (some 0) 2 1).beats
        = (burst .read (some .readBeat) (some 0) 2 1).acked + 1
      ∧ (Settled (sending .notice 0).part ∧ (sending .notice 0).part.notices.nodeId = some 5#5
        ∧ Driving (sending .notice 0).part (burst .noticeSend (some .notice) none 4 0) 0 .notice)
      ∧ ∀ n, n = 0 ∨ n = 1 ∨ n = 2 → Settled (sending .writeBeat n).part
        ∧ Driving (sending .writeBeat n).part (burst .noticeSend (some .writeBeat) none 4 n) 0
          .writeBeat := by
  refine ⟨by decide, ?_, by decide, by decide, ⟨settled_of_calm rfl, rfl, rfl, rfl, rfl, rfl⟩, ?_⟩
  · rintro o (rfl | rfl | rfl | rfl | rfl) <;>
      exact ⟨settled_of_calm rfl, _, rfl, rfl, rfl, rfl⟩
  · rintro n (rfl | rfl | rfl) <;> exact ⟨settled_of_calm rfl, rfl, rfl, rfl, rfl⟩

theorem test_meets_LockedSequencesAndPagePhases :
    (∀ ph, ph = Phase.addrLock ∨ ph = .readBeat ∨ ph = .writeBeat →
        Settled (driven (txn 3 0 0) direct (burst .compareSwap (some ph) (some 0) 1 0)).part
        ∧ Driving (driven (txn 3 0 0) direct (burst .compareSwap (some ph) (some 0) 1 0)).part
          (burst .compareSwap (some ph) (some 0) 1 0) 0 ph)
      ∧ (0#32 = recCompare (txn 3 0 0) ∧ 1#32 ≠ recCompare (txn 3 0 0))
      ∧ ∀ ph, ph = Phase.closePage ∨ ph = .openPage →
        Settled (driven (txn 1 0 8) (paged (bank .closed false))
          (burst .read (some ph) (some 0) 2 0)).part
        ∧ (burst .read (some ph) (some 0) 2 0).bank < (paged (bank .closed false)).banks.length
        ∧ Driving (driven (txn 1 0 8) (paged (bank .closed false))
          (burst .read (some ph) (some 0) 2 0)).part (burst .read (some ph) (some 0) 2 0) 0 ph := by
  refine ⟨?_, by decide, ?_⟩
  · rintro ph (rfl | rfl | rfl) <;> exact ⟨settled_of_calm rfl, rfl, rfl, rfl, rfl⟩
  · rintro ph (rfl | rfl) <;> exact ⟨settled_of_calm rfl, by decide, rfl, rfl, rfl, rfl⟩

/-! #### Ends -/

/-- The delivery of a READ, its write outstanding. -/
def delivering (p : Part) : Part :=
  accessing (mastering (owning (windowed (holding p (txn 1 0 8) .inBurst (some 0)) direct) .owner)
    .delivering (burst .read none (some 0) 2 2)) .master (.write 0#64 [])

/-- A WRITE whose data is being read. -/
def fetchingData (stale : Bool) : Part :=
  (accessing (mastering (owning (windowed (holding run (txn 2 0 8) .inBurst (some 0)) direct) .owner)
    .fetching (burst .write none (some 0) 2 0)) .master (.read 0#64 8)).onHost fun h =>
      { h with outstanding := h.outstanding.map fun o => { o with stale := stale } }

/-- A WRITE whose data read still waits at the arbiter. -/
def unissuedData : Part :=
  (fetchingData false).onHost fun h => { h with
    outstanding := none, waiting := h.waiting.set 2 (some (.read 0#64 8)) }

/-- A report of each kind: clean by the last beat, by END_LOCK and by a delivery; RETRY; FAULT, RETRY to
a beat, wrong parity and expiry; and a failed read of write data. -/
theorem test_meets_ReportsCarryTheVerdict :
    Reports (driven (txn 2 0 8) direct (burst .write (some .writeBeat) (some 0) 2 1)).part
        (burst .write (some .writeBeat) (some 0) 2 1) 0 (.targetAnswer .ack 0#32 true) .clean 8
      ∧ Reports (driven (txn 3 0 0) direct (burst .compareSwap (some .endLock) (some 0) 1 2)).part
        (burst .compareSwap (some .endLock) (some 0) 1 2) 0 (.targetAnswer .ack 0#32 true) .clean 8
      ∧ Reports (driven (txn 1 0 8) direct (burst .read (some .addrRead) (some 0) 2 0)).part
        (burst .read (some .addrRead) (some 0) 2 0) 0 (.targetAnswer .retry 0#32 true) .retry 0
      ∧ Reports (driven (txn 2 0 8) direct (burst .write (some .writeBeat) (some 0) 2 1)).part
        (burst .write (some .writeBeat) (some 0) 2 1) 0 (.targetAnswer .fault 0#32 true) .fault 4
      ∧ Reports (driven (txn 2 0 8) direct (burst .write (some .writeBeat) (some 0) 2 1)).part
        (burst .write (some .writeBeat) (some 0) 2 1) 0 (.targetAnswer .retry 0#32 true)
        .protocolFault 4
      ∧ Reports (driven (txn 2 0 8) direct (burst .write (some .writeBeat) (some 0) 2 1)).part
        (burst .write (some .writeBeat) (some 0) 2 1) 0 (.targetAnswer .hold 0#32 false)
        .protocolFault 4
      ∧ Reports (driven (txn 2 0 8) direct (burst .write (some .writeBeat) (some 0) 2 1)).part
        (burst .write (some .writeBeat) (some 0) 2 1) 0 .responseLimitExpiry .timeout 4
      ∧ Reports (delivering run) (burst .read none (some 0) 2 2) 0 (.readDataWriteDone true) .clean 8
      ∧ Reports (fetchingData false) (burst .write none (some 0) 2 0) 0 (.writeDataReadDone none)
        .hostReadError 0
      ∧ Reports unissuedData (burst .write none (some 0) 2 0) 0 (.writeDataReadDone none)
        .hostReadError 0
      ∧ (delivering run).port.errorCount ≤ 16 :=
  ⟨.inl ⟨⟨_, rfl⟩, rfl, .inl ⟨⟨rfl, rfl, rfl, rfl⟩, .inl rfl, rfl, rfl⟩⟩,
    .inl ⟨⟨_, rfl⟩, rfl, .inr ⟨⟨rfl, rfl, rfl, rfl⟩, rfl, rfl⟩⟩,
    .inr (.inl ⟨⟨_, rfl⟩, rfl, ⟨rfl, rfl, rfl, rfl⟩, rfl, rfl⟩),
    .inr (.inr (.inl ⟨.inl ⟨⟨_, rfl⟩, rfl, _, rfl, rfl, rfl, rfl⟩, .inl (by decide), rfl⟩)),
    .inr (.inr (.inl ⟨.inr (.inl ⟨⟨_, rfl⟩, rfl, _, ⟨rfl, rfl, rfl, rfl⟩, .inr (.inl rfl)⟩),
      .inl (by decide), rfl⟩)),
    .inr (.inr (.inl ⟨.inr (.inr (.inl ⟨⟨_, _, rfl⟩, rfl, _, rfl, rfl, rfl, rfl⟩)),
      .inl (by decide), rfl⟩)),
    .inr (.inr (.inl ⟨.inr (.inr (.inr ⟨rfl, rfl, _, rfl, rfl, rfl, rfl⟩)), .inl (by decide), rfl⟩)),
    .inr (.inr (.inr (.inl ⟨rfl, rfl, rfl, rfl, rfl, rfl, rfl⟩))),
    .inr (.inr (.inr (.inr ⟨.inl ⟨.inl rfl, rfl, rfl⟩, rfl, rfl, rfl, rfl, rfl⟩))),
    .inr (.inr (.inr (.inr ⟨.inr ⟨rfl, rfl, rfl⟩, rfl, rfl, rfl, rfl, rfl⟩))), by decide⟩

/-- A WRITE's last beat in a PAGED window of this policy, its bank OPEN with page 0, of a transaction of
256 × `n` + 8 bytes of which `d` are done. -/
def paging (p : PagePolicy) (n d : Nat) : Part :=
  (driven (block [2, 0, 5, 0, 0, 0, 0, 0, 8, n]) { paged (bank .opened false) with policy := p }
    (burst .write (some .writeBeat) (some 0) 2 1)).part.modSlot 0 fun s => { s with progress := d }

/-- CLOSE policy gives the page back where the transaction ends and where its next burst is in another
page, and not where it goes on in the page; KEEP never; a read of write data that fails never. -/
theorem test_meets_ReportsCarryTheVerdict_page :
    (∀ p, p = paging .close 0 0 ∨ p = paging .close 4 0 ∨ p = paging .close 4 1016
          ∨ p = paging .keep 0 0 →
        Reports p (burst .write (some .writeBeat) (some 0) 2 1) 0 (.targetAnswer .ack 0#32 true) .clean 8)
      ∧ GivesBackPage (paging .close 0 0) (burst .write (some .writeBeat) (some 0) 2 1) 0 .clean 8 0
      ∧ GivesBackPage (paging .close 4 1016) (burst .write (some .writeBeat) (some 0) 2 1) 0 .clean 8 0
      ∧ ¬GivesBackPage (paging .close 4 0) (burst .write (some .writeBeat) (some 0) 2 1) 0 .clean 8 0
      ∧ ¬GivesBackPage (paging .keep 0 0) (burst .write (some .writeBeat) (some 0) 2 1) 0 .clean 8 0
      ∧ ¬GivesBackPage (fetchingData false) (burst .write none (some 0) 2 0) 0 .hostReadError 0 0 := by
  refine ⟨?_, ⟨by decide, rfl, rfl, .inl ⟨by decide, .inl ⟨rfl, .inr (.inr (by decide))⟩⟩⟩,
    ⟨by decide, rfl, rfl, .inr (by decide)⟩, ?_, fun h => absurd h.2.2.1 (by decide), fun h => h.1 rfl⟩
  · rintro p (rfl | rfl | rfl | rfl) <;>
      exact .inl ⟨⟨_, rfl⟩, rfl, .inl ⟨⟨rfl, rfl, rfl, rfl⟩, .inl rfl, rfl, rfl⟩⟩
  · rintro ⟨-, -, -, ⟨-, ⟨-, h⟩ | ⟨h, -⟩ | ⟨h, -⟩⟩ | h⟩
    · exact absurd h (by decide)
    · exact nomatch h
    · exact h rfl
    · exact absurd h (by decide)

/-- A protocol fault at a count of 15, in each port state a report can meet. -/
theorem test_meets_ReportsCarryTheVerdict_limit :
    (∀ x, x = PortState.owner ∨ x = .yielding ∨ x = .releasing → ∀ p,
        p = (driven (txn 2 0 8) direct (burst .write (some .writeBeat) (some 0) 2 1)).part.onPort
          (fun y => { y with state := x, errorCount := 15 }) →
        Reports p (burst .write (some .writeBeat) (some 0) 2 1) 0 (.targetAnswer .retry 0#32 true)
          .protocolFault 4 ∧ p.port.errorCount = 15 ∧ p.port.state = x)
      ∧ ∀ x, x = PortState.idle ∨ x = .requesting ∨ x = .detached ∨ x = .joining → ∀ p,
        p = (mastering (delivering run) .delivering
            { burst .read none (some 0) 2 1 with ending := .protocolFault }).onPort
          (fun y => { y with state := x, tenure := false, errorCount := 15 }) →
        Reports p { burst .read none (some 0) 2 1 with ending := .protocolFault } 0
          (.readDataWriteDone true) .protocolFault 4
        ∧ p.port.errorCount = 15 ∧ p.port.state = x ∧ p.engine.state.alive = true := by
  refine ⟨?_, ?_⟩
  · rintro x (rfl | rfl | rfl) p rfl <;>
      exact ⟨.inr (.inr (.inl ⟨.inr (.inl ⟨⟨_, rfl⟩, rfl, _, ⟨rfl, rfl, rfl, rfl⟩, .inr (.inl rfl)⟩),
        .inl (by decide), rfl⟩)), rfl, rfl⟩
  · rintro x (rfl | rfl | rfl | rfl) p rfl <;>
      exact ⟨.inr (.inr (.inr (.inl ⟨rfl, rfl, rfl, rfl, rfl, rfl, rfl⟩))), rfl, rfl, rfl⟩

/-- The record at index 1 of ring 0 is being fetched, or stands in the admission register. -/
def fetchingNext (p : Part) : Part :=
  p.onFetch fun u => { u with flight := some { ring := 0, index := 1, reservation := 0, discard := false } }

def admittingNext (p : Part) : Part :=
  p.onFetch fun u =>
    { u with admission := some { ring := 0, index := 1, record := txn 2 0 8, reservation := 0 } }

/-- A CHAIN record's WRITE ends, its successor in flight, in the admission register, and neither. -/
theorem test_meets_ReportsSettleOrContinueTheSlot_chain :
    ∀ q, q = (driven (txn 2 2 8) direct (burst .write (some .writeBeat) (some 0) 2 1)).part →
      (∀ p, p = q ∨ p = fetchingNext q ∨ p = admittingNext q →
        Reports p (burst .write (some .writeBeat) (some 0) 2 1) 0 (.targetAnswer .ack 0#32 true) .clean 8
        ∧ ReportSettles p (burst .write (some .writeBeat) (some 0) 2 1) 0 .clean 8
        ∧ (p.slot 0).preSettled = none)
      ∧ (fetchingNext q).successorComes 0 ∧ (admittingNext q).successorComes 0
      ∧ ¬q.successorComes 0 := by
  rintro q rfl
  refine ⟨?_, ⟨by decide, rfl, rfl, .inl ⟨_, rfl, rfl, by decide⟩⟩,
    ⟨by decide, rfl, rfl, .inr ⟨_, rfl, rfl, by decide⟩⟩, ?_⟩
  · rintro p (rfl | rfl | rfl) <;>
      exact ⟨.inl ⟨⟨_, rfl⟩, rfl, .inl ⟨⟨rfl, rfl, rfl, rfl⟩, .inl rfl, rfl, rfl⟩⟩,
        ⟨by decide, .inl ⟨rfl, .inr (.inr (by decide))⟩⟩, rfl⟩
  · rintro ⟨-, -, -, ⟨_, h, -⟩ | ⟨_, h, -⟩⟩ <;> exact nomatch h

/-- Slot 1 holds the record at index 1 of ring 0 and waits for its predecessor, slot 0. -/
def awaited (p : Part) : Part :=
  (p.modSlot 1 fun _ => { Slot.empty with
    state := .held, ring := 0, index := 1, record := txn 2 0 8, chain := .waiting }).onSched fun u =>
      { u with age := [0, 1] }

/-- The chain outcome that slot 1 takes from slot 0 at command `c`. -/
def handedOn (c : Instr) (s : State) : Option ChainOutcome :=
  match exec c { s with part := awaited s.part } with
  | .next t => some (t.part.slot 1).chain
  | _ => none

/-- R26: SUCCESS after SUCCESS, FAILED after any other status. -/
theorem test_chain_outcomes :
    ∀ s, s = driven (txn 2 2 8) direct (burst .write (some .writeBeat) (some 0) 2 1) →
      handedOn (.targetAnswer .ack 0#32 true) s = some .success
      ∧ handedOn (.targetAnswer .fault 0#32 true) s = some .failed
      ∧ ((awaited s.part).slot 1).counted = true ∧ ((awaited s.part).slot 1).chain = .waiting
      ∧ ((awaited s.part).slot 1).index =
          succIndex ((awaited s.part).ring 0).size ((awaited s.part).slot 0).index
      ∧ ((awaited s.part).ring 0).policy = .continue := by
  rintro s rfl
  decide

/-- Slot 1 is DEFERRED, its window 0 and its order conditions met. -/
def deferring (p : Part) : Part :=
  (p.modRing 0 fun r => { r with order := .relaxed }).modSlot 1 fun _ => { Slot.empty with
    state := .held, ring := 0, index := 1, record := txn 2 0 8, window := some 0, deferred := true }

/-- R28: a fence clears DEFERRED at its event, in QUIESCING too. -/
theorem test_fence_clears_deferred :
    ∀ e, e = EngineState.running ∨ e = .quiescing → ∀ p, p = (deferring (driven (txn 2 0 8)
        { direct with timeouts := 2 } (burst .write (some .writeBeat) (some 0) 2 1)).part).onEngine
          (fun x => { x with state := e }) →
      (p.slot 1).deferred = true ∧ p.orderMet (p.slot 1) = true ∧ p.foundFenced (p.slot 1) = false
      ∧ (match exec .responseLimitExpiry (st p) with
        | .next t => (t.part.slot 1).deferred || !t.part.foundFenced (t.part.slot 1)
        | _ => true) = false := by
  rintro e (rfl | rfl) p rfl <;> decide

/-- The slot is not pre-settled; the WRITE above ends its transaction or not; the retry limit is reached
or not; the engine may have failed. -/
theorem test_meets_ReportsSettleOrContinueTheSlot :
    (∀ n, n = 8 ∨ n = 12 → ∀ s, s = driven (txn 2 0 n) direct
          (burst .write (some .writeBeat) (some 0) 2 1) →
        Reports s.part (burst .write (some .writeBeat) (some 0) 2 1) 0 (.targetAnswer .ack 0#32 true)
          .clean 8
        ∧ (s.part.slot 0).preSettled = none ∧ s.part.engine.state ≠ .failed
        ∧ ((s.part.slot 0).progress + 8 = recLength (s.part.slot 0).record ↔ n = 8))
      ∧ (∀ n, n = 0 ∨ n = 2 → ∀ p, p = (driven (txn 1 0 8) direct
          (burst .read (some .addrRead) (some 0) 2 0)).part.modSlot 0 (fun x => { x with retries := n }) →
        Reports p (burst .read (some .addrRead) (some 0) 2 0) 0 (.targetAnswer .retry 0#32 true) .retry 0
        ∧ (p.slot 0).preSettled = none
        ∧ ((p.ring (p.slot 0).ring).retryLimit ≤ (p.slot 0).retries ↔ n = 2))
      ∧ ∀ p, p = (driven (txn 2 0 8) direct
          (burst .write (some .writeBeat) (some 0) 2 1)).part.onEngine
            (fun e => { e with state := .failed }) →
        Reports p (burst .write (some .writeBeat) (some 0) 2 1) 0 .responseLimitExpiry .timeout 4
        ∧ p.engine.state = .failed := by
  refine ⟨?_, ?_, ?_⟩
  · rintro n (rfl | rfl) s rfl <;>
      exact ⟨.inl ⟨⟨_, rfl⟩, rfl, .inl ⟨⟨rfl, rfl, rfl, rfl⟩, .inl rfl, rfl, rfl⟩⟩, by decide⟩
  · rintro n (rfl | rfl) p rfl <;>
      exact ⟨.inr (.inl ⟨⟨_, rfl⟩, rfl, ⟨rfl, rfl, rfl, rfl⟩, rfl, rfl⟩), by decide⟩
  · rintro p rfl
    exact ⟨.inr (.inr (.inl ⟨.inr (.inr (.inr ⟨rfl, rfl, _, rfl, rfl, rfl, rfl⟩)), .inl (by decide),
      rfl⟩)), rfl⟩

theorem test_meets_FailedReadsDeliverWhatWasAcknowledged :
    (∀ s, s = driven (txn 1 0 8) direct (burst .read (some .readBeat) (some 0) 2 1) →
        Settled s.part ∧ s.part.engine.state ≠ .failed
        ∧ Driving s.part (burst .read (some .readBeat) (some 0) 2 1) 0 .readBeat
        ∧ 0 < (burst .read (some .readBeat) (some 0) 2 1).acked
        ∧ (burst .read (some .readBeat) (some 0) 2 1).lockHeld = false)
      ∧ (delivering run).writeFailable .master = true ∧ (delivering run).engine.state ≠ .failed
      ∧ (delivering run).master.state = .delivering
      ∧ (delivering run).master.operation = some (burst .read none (some 0) 2 2)
      ∧ ((delivering run).slot 0).preSettled = none := by
  refine ⟨?_, rfl, by decide, rfl, rfl, rfl⟩
  rintro s rfl
  exact ⟨settled_of_calm rfl, by decide, ⟨rfl, rfl, rfl, rfl⟩, by decide, rfl⟩

theorem test_meets_WriteDataReachesItsBurst :
    (Settled (fetchingData true) ∧ (fetchingData true).readOutstanding .master = true
        ∧ (fetchingData true).staleOutstanding = true)
      ∧ Settled (fetchingData false) ∧ (fetchingData false).readOutstanding .master = true
      ∧ (fetchingData false).staleOutstanding = false ∧ (fetchingData false).master.state = .fetching
      ∧ (fetchingData false).master.operation = some (burst .write none (some 0) 2 0) :=
  ⟨⟨settled_of_calm rfl, rfl, rfl⟩, settled_of_calm rfl, rfl, rfl, rfl, rfl⟩

/-- A count below the limit, at it, and at 15; an OPEN, a DRAINING and a FENCED window. -/
theorem test_meets_TimeoutsFenceTheWindow :
    ∀ n, n = 0 ∨ n = 2 ∨ n = 15 → ∀ x, x = WindowState.opened ∨ x = .draining ∨ x = .fenced →
      ∀ p, p = ((driven (txn 2 0 8) { direct with timeouts := n, state := x }
          (burst .write (some .writeBeat) (some 0) 2 1)).part.onNotices
            fun u => { u with write := some ⟨none, false⟩ }) →
        p.waitingPhase = some (burst .write (some .writeBeat) (some 0) 2 1, .writeBeat)
        ∧ (burst .write (some .writeBeat) (some 0) 2 1).window = some 0
        ∧ (burst .write (some .writeBeat) (some 0) 2 1).opcode ≠ .read
        ∧ (p.window 0).timeouts ≤ 15 ∧ (p.window 0).state = x ∧ (p.window 0).drain = .run
        ∧ ((p.window 0).timeouts + 1 = (p.window 0).fenceLimit ↔ n = 2)
        ∧ p.notices.write.isSome = true := by
  rintro n (rfl | rfl | rfl) x (rfl | rfl | rfl) p rfl <;> decide

/-- The WINDOW_FENCED entry is asked for at once where the notice unit is free and the ring has room. -/
theorem test_meets_TimeoutsFenceTheWindow_entry :
    ∀ p, p = noticed (driven (txn 2 0 8) { direct with timeouts := 2 }
        (burst .write (some .writeBeat) (some 0) 2 1)).part →
      p.waitingPhase = some (burst .write (some .writeBeat) (some 0) 2 1, .writeBeat)
      ∧ (p.window 0).timeouts + 1 = (p.window 0).fenceLimit ∧ (p.window 0).state = .opened
      ∧ p.notices.write = none ∧ p.engine.state = .running ∧ p.notices.ring.present = true
      ∧ 1 ≤ p.notices.ring.freeEntries ∧ p.notices.attached = false ∧ p.notices.detached = none := by
  rintro p rfl
  decide

/-- A MARKER waits alone in slot 0. -/
def marked : Part := holding run (txn 5 0 0) .held none

theorem test_meets_SettleOnlySlotsSettleOldestFirst :
    (marked.engine.state = .running ∧ (0 : Fin 8) ∈ marked.sched.age
        ∧ marked.settleStatus (marked.slot 0) = some .success
        ∧ ∀ j ∈ marked.sched.age, (marked.settleStatus (marked.slot j)).isSome = true →
          marked.sched.age.idxOf 0 ≤ marked.sched.age.idxOf j)
      ∧ (State.reset.part.engine.state ≠ .running
        ∧ ∀ j ∈ run.sched.age, run.settleStatus (run.slot j) = none)
      ∧ recOpcode (marked.slot 0).record = some .marker ∧ marked.orderMet (marked.slot 0) = true
      ∧ (marked.slot 0).deferred = false ∧ (marked.slot 0).chain ≠ .failed
      ∧ (marked.slot 0).preSettled = none ∧ marked.slotFenced (marked.slot 0) = false := by
  decide

/-- A MARKER with CHAIN settles in a tenure while its successor is being fetched. -/
theorem test_meets_SettleOnlySlotsSettleOldestFirst_chain :
    ∀ p, p = fetchingNext (owning (holding run (txn 5 2 0) .held none) .owner) →
      p.engine.state = .running ∧ p.settleStatus (p.slot 0) = some .success ∧ p.successorComes 0
      ∧ p.sched.age = [0] := by
  rintro p rfl
  exact ⟨rfl, by decide, ⟨by decide, rfl, rfl, .inl ⟨_, rfl, rfl, by decide⟩⟩, rfl⟩

/-- A record in slot 0 that settles BAD_RECORD, its ring in this state under HALT policy. -/
def failing (x : RingState) : Part :=
  ((holding run (txn 9 0 0) .held none).modRing 0 fun r => { r with state := x, policy := .halt }).modSlot
    0 fun s => { s with preSettled := some .badRecord }

/-- The ring of slot 0 under HALT policy, in this state. -/
def halting (p : Part) (x : RingState) : Part :=
  p.modRing 0 fun r => { r with state := x, policy := .halt }

/-- An error settlement of each kind: a failing report, a RETRY beyond the limit, a failed delivery, a
lost grant, a lost link and RST. -/
theorem test_meets_HaltByErrorReturnsHeldSlots_causes :
    (∀ x, x = RingState.active ∨ x = .halted → ∀ p, p = halting (driven (txn 2 0 8) direct
          (burst .write (some .writeBeat) (some 0) 2 1)).part x →
        (ErrorSettles p (.targetAnswer .fault 0#32 true) 0 .targetFault
          ∧ ErrorSettles p .gntDrop 0 .busError ∧ ErrorSettles p .linkLoss 0 .linkLost
          ∧ ErrorSettles p .backplaneReset 0 .linkLost)
        ∧ (p.slot 0).ring = 0 ∧ (p.ring 0).state = x ∧ (p.ring 0).policy = .halt)
      ∧ (∀ p, p = halting ((driven (txn 1 0 8) direct
          (burst .read (some .addrRead) (some 0) 2 0)).part.modSlot 0
            fun s => { s with retries := 2 }) .active →
        ErrorSettles p (.targetAnswer .retry 0#32 true) 0 .targetBusy ∧ (p.ring 0).state = .active)
      ∧ ∀ p, p = halting (delivering run) .active →
        ErrorSettles p (.readDataWriteDone false) 0 .hostWriteError ∧ (p.ring 0).state = .active := by
  refine ⟨?_, ?_, ?_⟩
  · have lost : ∀ x, ∃ o ph, Driving (halting (driven (txn 2 0 8) direct
        (burst .write (some .writeBeat) (some 0) 2 1)).part x) o 0 ph
          ∧ (o.opcode ≠ .read ∨ o.acked = 0) :=
      fun x => ⟨_, .writeBeat, ⟨rfl, rfl, rfl, rfl⟩, .inl nofun⟩
    rintro x hx p rfl
    refine ⟨⟨⟨rfl, nofun, .inr (.inl ⟨_, .fault, 4, .inr (.inr (.inl ⟨.inl ⟨⟨_, rfl⟩, rfl, .writeBeat,
        rfl, rfl, rfl, rfl⟩, .inl nofun, rfl⟩)), nofun, nofun, rfl⟩)⟩,
      ⟨rfl, nofun, .inr (.inr (.inr (.inr ⟨lost x, .inl ⟨rfl, rfl, rfl, rfl, .inl nofun⟩⟩)))⟩,
      ⟨rfl, nofun, .inr (.inr (.inr (.inr ⟨lost x, .inr (.inl ⟨rfl, rfl, nofun, rfl⟩)⟩)))⟩,
      ⟨rfl, nofun, .inr (.inr (.inr (.inr ⟨lost x, .inr (.inr ⟨rfl, rfl, nofun, rfl⟩)⟩)))⟩⟩,
      rfl, rfl, rfl⟩
  · rintro p rfl
    exact ⟨⟨rfl, by decide, .inr (.inr (.inl ⟨_, 0, .inr (.inl ⟨⟨_, rfl⟩, rfl, ⟨rfl, rfl, rfl, rfl⟩, rfl,
      rfl⟩), rfl, by decide⟩))⟩, rfl⟩
  · rintro p rfl
    exact ⟨⟨rfl, by decide, .inr (.inr (.inr (.inl ⟨_, rfl, rfl, rfl, rfl, rfl, rfl⟩)))⟩, rfl⟩

theorem test_meets_HaltByErrorReturnsHeldSlots :
    ∀ x, x = RingState.active ∨ x = .halted →
      (failing x).engine.state = .running ∧ (0 : Fin 8) ∈ (failing x).sched.age
      ∧ (failing x).settleStatus ((failing x).slot 0) = some .badRecord
      ∧ (∀ j ∈ (failing x).sched.age, ((failing x).settleStatus ((failing x).slot j)).isSome = true →
        (failing x).sched.age.idxOf 0 ≤ (failing x).sched.age.idxOf j)
      ∧ Status.badRecord.isError = true ∧ ((failing x).slot 0).ring = 0
      ∧ ((failing x).ring 0).state = x ∧ ((failing x).ring 0).policy = .halt := by
  rintro x (rfl | rfl) <;> decide

/-- The part owns the backplane with no burst, one bank OPEN. -/
def openBank (s : PortState) (due : Bool) : Part :=
  windowed (owning (run.onPort fun x => { x with chainHold := some (0, 0) }) s) (paged (bank .opened due))

theorem only_bank (p : Part) (h : ∀ v : Fin 16, v ≠ 0 → (p.window v).banks = [])
    (h0 : (p.window 0).banks.length = 1) (v : Fin 16) (c : Fin 4) (y : Bank)
    (hy : (p.window v).banks[c.val]? = some y) : v = 0 ∧ c = 0 := by
  by_cases hv : v = 0
  · subst hv
    have := (List.getElem?_eq_some_iff.mp hy).1
    exact ⟨rfl, Fin.ext (by simp; omega)⟩
  · simp [h v hv] at hy

theorem test_meets_OpenTimersAskForCloses :
    (((openBank .owner false).window 0).banks[0]? = some (bank .opened false)
        ∧ (bank .opened false).state = .opened ∧ (bank .closed false).state ≠ .opened)
      ∧ (Settled (openBank .owner true) ∧ (openBank .owner true).master.state = .idle
        ∧ ((openBank .owner true).window 0).banks[0]? = some (bank .opened true)
        ∧ (openBank .owner true).port.state = .owner
        ∧ ∀ (v : Fin 16) (c : Fin 4) (y : Bank),
          ((openBank .owner true).window v).banks[c.val]? = some y →
          y.state = .opened → y.dueToClose = true → y.closeRequest = true →
          0 < v ∨ (0 = v ∧ 0 ≤ c))
      ∧ (Settled (openBank .releasing false) ∧ (openBank .releasing false).master.state = .idle
        ∧ ((openBank .releasing false).window 0).banks[0]? = some (bank .opened false)
        ∧ (openBank .releasing false).port.state = .releasing
        ∧ ∀ (v : Fin 16) (c : Fin 4) (y : Bank),
          ((openBank .releasing false).window v).banks[c.val]? = some y → y.state = .opened →
          0 < v ∨ (0 = v ∧ 0 ≤ c))
      ∧ ((openBank .owner false).port.state = .owner
        ∧ ∀ (w : Fin 16) (b : Fin 4) (x : Bank),
          ((openBank .owner false).window w).banks[b.val]? = some x →
          ¬(x.state = .opened ∧ x.dueToClose = true ∧ x.closeRequest = true))
      ∧ ((owning run .releasing).port.state = .releasing
        ∧ ∀ (w : Fin 16) (b : Fin 4) (x : Bank),
          ((owning run .releasing).window w).banks[b.val]? = some x → x.state ≠ .opened)
      ∧ State.reset.part.port.state ≠ .owner ∧ State.reset.part.port.state ≠ .releasing := by
  have none : ∀ w : Fin 16, ((owning run .releasing).window w).banks = [] := by decide
  refine ⟨by decide, ⟨settled_of_still rfl, rfl, rfl, rfl, ?_⟩,
    ⟨settled_of_calm rfl, rfl, rfl, rfl, ?_⟩, ⟨rfl, ?_⟩,
    ⟨rfl, fun w b x h => by simp [none w] at h⟩, by decide, by decide⟩
  case refine_3 =>
    intro v c y hy
    obtain ⟨rfl, rfl⟩ := only_bank _ (by decide) rfl v c y hy
    cases hy
    decide
  · intro v c y hy _ _ _
    obtain ⟨rfl, rfl⟩ := only_bank _ (by decide) rfl v c y hy
    exact .inr ⟨rfl, by decide⟩
  · intro v c y hy _
    obtain ⟨rfl, rfl⟩ := only_bank _ (by decide) rfl v c y hy
    exact .inr ⟨rfl, by decide⟩

/-- A close operation waits for its answer. -/
def closingBank : Part := mastering (openBank .owner true) .closing closing

theorem test_meets_CloseOperationsEnd :
    Settled closingBank ∧ closingBank.master.state = .closing
      ∧ closingBank.master.operation = some closing ∧ closing.slot = none
      ∧ closing.phase = some .closePage ∧ closing.window = some 0 ∧ closing.lockHeld = false
      ∧ closingBank.port.errorCount ≤ 16 :=
  ⟨settled_of_calm rfl, by decide⟩

/-- A close is under way at a count of 15, in each state that owns the backplane. -/
theorem test_meets_CloseOperationsEnd_limit :
    ∀ x, x = PortState.owner ∨ x = .yielding ∨ x = .releasing → ∀ p,
      p = (mastering (openBank x true) .closing closing).onPort (fun y => { y with errorCount := 15 }) →
      Settled p ∧ p.master.state = .closing ∧ p.master.operation = some closing
      ∧ p.port.errorCount = 15 ∧ p.port.state = x := by
  rintro x (rfl | rfl | rfl) p rfl <;> exact ⟨settled_of_calm rfl, rfl, rfl, rfl, rfl⟩

/-! #### Ownership -/

theorem test_meets_GrantsBeginTenures :
    (∀ w, w = true ∨ w = false → ∀ p, p = (eligible (joined run .requesting)).onPort
          (fun x => { x with wdr := w }) →
        Settled p ∧ p.port.gnt = false ∧ p.port.state = .requesting ∧ p.port.wdr = w
        ∧ p.master.state = .idle)
      ∧ (∀ x, x = PortState.idle ∨ x = .detached ∨ x = .joining →
        Settled (joined run x) ∧ (joined run x).port.gnt = false ∧ (joined run x).port.state = x)
      ∧ (owning run .owner).port.gnt = true := by
  refine ⟨?_, ?_, rfl⟩
  · rintro w (rfl | rfl) p rfl <;> exact ⟨settled_of_still rfl, by decide⟩
  · rintro x (rfl | rfl | rfl) <;> exact ⟨settled_of_calm rfl, by decide⟩

/-- REQ has dropped in RELEASING, with this mark. -/
def released (p : Part) (m : DetachMark) : Part :=
  (owning p .releasing).onPort fun x => { x with req := false, lvl := 3, mark := m }

theorem test_meets_TenuresEndWithTheGrant :
    ((owning run .releasing).port.state = .releasing ∧ (owning run .releasing).master.state = .idle
        ∧ (owning run .releasing).anyBankOpen = false)
      ∧ (openBank .releasing false).anyBankOpen = true
      ∧ (∀ p, p = released run .none ∨ p = released run .command ∨ p = released run .errorLimit
            ∨ p = released (alive .failed) .none →
        p.port.gnt = true ∧ p.port.tenure = true ∧ p.port.state = .releasing ∧ p.port.req = false)
      ∧ ((released run .command).port.mark.cause = some .command
        ∧ (released run .command).engine.state.alive = true)
      ∧ (∀ p, p = (eligible (joined run .idle)).onPort (fun x => { x with gnt := true })
            ∨ p = (joined run .idle).onPort (fun x => { x with gnt := true }) →
        Settled p ∧ p.port.gnt = true ∧ p.port.tenure = false ∧ p.port.state = .idle)
      ∧ ((eligible (joined run .idle)).reportedSet ≠ [] ∧ (joined run .idle).reportedSet = [])
      ∧ (joined run .idle).port.gnt = false := by
  refine ⟨by decide, by decide, ?_, by decide, ?_, by decide, rfl⟩
  · rintro p (rfl | rfl | rfl | rfl) <;> decide
  · rintro p (rfl | rfl) <;> exact ⟨settled_of_still rfl, by decide⟩

/-- Every branch: a mark, FAILED, the error limit, and neither. -/
theorem test_meets_UnexpectedLossOfGrant :
    (∀ p, p = openBank .owner false ∨ p = openBank .yielding false ∨ p = openBank .releasing false
          ∨ p = (openBank .owner false).onPort (fun x => { x with errorCount := 15 })
          ∨ p = (openBank .yielding false).onPort (fun x => { x with mark := .command })
          ∨ p = (openBank .yielding false).onEngine (fun e => { e with state := .failed }) →
        p.port.gnt = true ∧ p.port.tenure = true
        ∧ (p.port.state = .owner ∨ p.port.state = .yielding
          ∨ (p.port.state = .releasing ∧ p.port.req = true))
        ∧ p.port.errorCount ≤ 16)
      ∧ ((openBank .owner false).port.mark = .none ∧ (openBank .owner false).engine.state ≠ .failed
        ∧ (openBank .owner false).port.errorCount ≠ 15) := by
  refine ⟨?_, by decide⟩
  rintro p (rfl | rfl | rfl | rfl | rfl | rfl) <;> decide

theorem test_meets_LinkLossAndResetDetachThePort :
    (∀ x, x = PortState.joining ∨ x = .idle ∨ x = .requesting →
        (joined run x).port.state ≠ .detached ∧ (joined run x).port.clockPresent = true
        ∧ (joined run x).port.rst = false ∧ (joined run x).engine.state.alive = true)
      ∧ (openBank .owner false).port.state ≠ .detached
      ∧ (openBank .owner false).port.clockPresent = true
      ∧ (openBank .owner false).port.rst = false
      ∧ State.reset.part.port.state = .detached := by
  refine ⟨?_, by decide⟩
  rintro x (rfl | rfl | rfl) <;> decide

theorem test_meets_WithdrawActsOnAnOwner :
    (Settled (eligible (owning run .owner)) ∧ (eligible (owning run .owner)).port.state = .owner
        ∧ (eligible (owning run .owner)).master.state = .idle)
      ∧ (Settled reading.part ∧ reading.part.port.state = .owner
        ∧ reading.part.master.state = .driving)
      ∧ (Settled (fetchingData false) ∧ (fetchingData false).port.state = .owner
        ∧ (fetchingData false).master.state = .fetching
        ∧ (fetchingData false).master.operation = some (burst .write none (some 0) 2 0)
        ∧ (burst .write none (some 0) 2 0).slot = some 0)
      ∧ State.reset.part.port.state ≠ .owner :=
  ⟨⟨settled_of_still rfl, rfl, rfl⟩, ⟨settled_of_calm rfl, rfl, rfl⟩,
    ⟨settled_of_calm rfl, rfl, rfl, rfl, rfl⟩, by decide⟩

theorem test_meets_JoiningWaitsForQuiet :
    ((joined run .joining).port.state = .joining ∧ (joined run .joining).engine.state.alive = true
        ∧ (joined run .joining).reportedSet = [])
      ∧ ((eligible (joined run .joining)).port.state = .joining
        ∧ (eligible (joined run .joining)).reportedSet ≠ []
        ∧ (eligible (joined run .joining)).port.gnt = false)
      ∧ State.reset.part.port.state ≠ .joining := by
  decide

/-! #### Notices -/

/-- On the backplane as node 5. -/
def node5 : Part := noticed (joined run .idle)

/-- Every buffer entry waits to be written. -/
def buffered : Part :=
  node5.onNotices fun n =>
    { n with buffer := Vector.replicate 4 { BufferEntry.empty with state := .accepted } }

theorem test_meets_InboundNoticesAreReceived :
    (node5.port.state = .idle ∧ node5.notices.nodeId = some 5#5
        ∧ 5#32 = ((5#5 : BitVec 5).setWidth 32 : BitVec 32) ∧ 3 ≠ 4)
      ∧ ((node5.entry 0).state = .free ∧ ((receiving node5 2).entry 0).state = .receiving
        ∧ ∀ a : Fin 4, a < 0 → (node5.entry a).state ≠ .free ∧ (node5.entry a).state ≠ .receiving)
      ∧ (∀ b, (buffered.entry b).state ≠ .free ∧ (buffered.entry b).state ≠ .receiving)
      ∧ (∀ node, node5.notices.nodeId = some node → 6#32 ≠ (node.setWidth 32 : BitVec 32))
      ∧ ∀ n, n = 0 ∨ n = 1 ∨ n = 2 →
        (receiving node5 n).port.state = .idle
        ∧ (∀ a, ((receiving node5 n).entry a).state = .receiving ↔ a = 0)
        ∧ ((receiving node5 n).entry 0).beats = n := by
  refine ⟨by decide, by decide, by decide, ?_, ?_⟩
  · rintro node ⟨⟩
    decide
  · rintro n (rfl | rfl | rfl) <;> decide

/-- The right check word of a notice of zeros, no filter matching and the first one matching, and a wrong
one. -/
theorem test_meets_CheckWordAndFilterDecideANotice :
    (Settled (receiving node5 3) ∧ (receiving node5 3).port.state = .idle
        ∧ (∀ a, ((receiving node5 3).entry a).state = .receiving ↔ a = 0)
        ∧ ((receiving node5 3).entry 0).beats = 3 ∧ (receiving node5 3).port.errorCount ≤ 16
        ∧ ((receiving node5 3).entry 0).bad = false
        ∧ (∀ i, ((receiving node5 3).notices.filters.get i).matches ((receiving node5 3).entry 0)
          = false))
      ∧ (0xFFFFFFFF#32 : BitVec 32) = ~~~((((receiving node5 3).entry 0).source
          ++ ((receiving node5 3).entry 0).code) ^^^ ((receiving node5 3).entry 0).payloadLow
          ^^^ ((receiving node5 3).entry 0).payloadHigh)
      ∧ (∀ p, p = (receiving node5 3).onNotices (fun n =>
            { n with filters := n.filters.set 0 { FilterEntry.reset with enabled := true } }) →
        Settled p ∧ (p.notices.filters.get 0).matches (p.entry 0) = true
        ∧ (∀ j : Fin 16, j < 0 → (p.notices.filters.get j).matches (p.entry 0) = false)
        ∧ (p.notices.filters.get 0).action = .accept)
      ∧ (0#32 : BitVec 32) ≠ 0xFFFFFFFF#32 := by
  refine ⟨⟨settled_of_calm rfl, by decide⟩, by decide, ?_, by decide⟩
  rintro p rfl
  exact ⟨settled_of_calm rfl, by decide⟩

/-! #### Posting -/

/-- Slot 0 waits in POSTING. -/
def postingSlot : Part :=
  let p := holding run (txn 1 0 8) .posting none
  { p with sched := { p.sched with waiters := [.slot 0] } }

theorem test_meets_CompletionsAreHandedOverAndPosted :
    (postingSlot.engine.state.alive = true ∧ postingSlot.compl.fifo.length < 8
        ∧ postingSlot.sched.waiters = [.slot 0])
      ∧ (∀ p, p = run.onSched (fun u => { u with waiters := [.flushed done0] }) →
        p.engine.state.alive = true ∧ p.compl.fifo.length < 8
        ∧ p.sched.waiters = [.flushed done0])
      ∧ run.sched.waiters = []
      ∧ (∀ a, a = true ∨ a = false → ∀ p, p = (posting run done0).modCring 0
            (fun r => { r with armed := a, producer := 15 }) →
        Settled p ∧ p.writeOutstanding .posting = true ∧ p.compl.fifo = [done0]
        ∧ (p.cring 0).armed = a ∧ p.host.messagesEnabled = true
        ∧ p.host.vectorMasked.get (p.cring 0).vector = false)
      ∧ (∀ p, p = (posting run done0).onCompl (fun u => { u with fifo := [done0, done0] }) →
        Settled p ∧ p.engine.state.working = true ∧ p.compl.fifo = done0 :: [done0])
      ∧ ∀ p, p = run.onCompl (fun u => { u with fifo := [done0] }) →
        p.engine.state.working = true ∧ p.hasAccess .posting = false ∧ p.compl.fifo = [done0] := by
  refine ⟨by decide, ?_, rfl, ?_, ?_, ?_⟩
  · rintro p rfl
    decide
  · rintro a (rfl | rfl) p rfl <;> exact ⟨settled_of_calm rfl, by decide⟩
  · rintro p rfl
    exact ⟨settled_of_calm rfl, by decide⟩
  · rintro p rfl
    decide

/-- An admin completion is being written; `q` is the admin producer index. -/
def adminWriting (q : Nat) (armed : Bool) : Part :=
  accessing ((run.onAdmin fun a => { a with state := .completing, producer := q, consumer := 1 }).onCompl
    fun u => { u with
      adminHeld := some { tag := 9#16, index := 0, status := .success, result := 0#32 }
      adminRing := { u.adminRing with armed := armed } }) .adminPosting (.write 0#64 [])

/-- A notice entry write is outstanding. -/
def noticeWriting (p : Part) (w : NoticeWrite) : Part :=
  accessing ((noticed p).onNotices fun n => { n with write := some w }) .notices (.write 0#64 [])

theorem test_meets_AdminAndNoticeEntriesArePosted :
    (∀ q, q = 1 ∨ q = 2 → ∀ a, a = true ∨ a = false →
        Settled (adminWriting q a) ∧ (adminWriting q a).writeOutstanding .adminPosting = true
        ∧ (adminWriting q a).compl.adminRing.armed = a ∧ (adminWriting q a).engine.state = .running
        ∧ ((adminWriting q a).admin.producer = (adminWriting q a).admin.consumer ↔ q = 1)
        ∧ (adminWriting q a).host.messagesEnabled = true
        ∧ (adminWriting q a).host.vectorMasked.get 0 = false)
      ∧ ∀ p, p = noticeWriting run ⟨some 0, true⟩
          ∨ p = waiting (noticeWriting run ⟨none, false⟩) (.noticeRing 0#64 16 1 1) →
        p.writeOutstanding .notices = true ∧ p.notices.write.isSome = true
        ∧ p.engine.state.working = true
        ∧ ((∀ base size normal urgent,
            p.admin.state ≠ .waiting (.noticeRing base size normal urgent))
          ∨ p.admin.state = .waiting (.noticeRing 0#64 16 1 1)) := by
  refine ⟨?_, ?_⟩
  · rintro q (rfl | rfl) a (rfl | rfl) <;> exact ⟨settled_of_calm rfl, by decide⟩
  · rintro p (rfl | rfl)
    · exact ⟨rfl, rfl, rfl, .inl fun _ _ _ _ h => by cases h⟩
    · exact ⟨rfl, rfl, rfl, .inr rfl⟩

/-! #### Admin commands -/

/-- An admin command record of this code, with tag 9 and a target. -/
def cmd (code target : Nat) : Block := block [code, 0, 9, 0, target]

/-- CREATE_CRING of 16 entries at 1000h with vector 3, for ring `c`. -/
def createCring0 (c : Nat) : Block :=
  block [1, 0, 9, 0, c, 0, 0, 0, 0, 0x10, 0, 0, 0, 0, 0, 0, 16, 0, 3]

theorem test_meets_CompletionRingCommands :
    Settled (arriving run).part ∧ Arrives (arriving run).part
      ∧ 7 < cmdTarget (createCring0 8) ∧ cmdTarget (createCring0 7) = (7 : Fin 8).val
      ∧ ((arriving run).part.cring 7).present = false
      ∧ (Settled (arriving (ringed run)).part ∧ Arrives (arriving (ringed run)).part
        ∧ cmdTarget (createCring0 0) = (0 : Fin 8).val
        ∧ ((arriving (ringed run)).part.cring 0).present = true) :=
  ⟨settled_of_calm rfl, ⟨rfl, rfl, rfl⟩, by decide, by decide, rfl, settled_of_calm rfl,
    ⟨rfl, rfl, rfl⟩, by decide, rfl⟩

theorem test_meets_SubmissionRingCommands :
    (Settled (arriving run).part ∧ Arrives (arriving run).part
        ∧ 7 < cmdTarget (cmd 3 8)
        ∧ cmdTarget (cmd 3 7) = (7 : Fin 8).val
        ∧ (∀ k, ((arriving run).part.slot k).ring = 7 → ((arriving run).part.slot k).state = .free)
        ∧ (arriving run).part.settleNext = none
        ∧ (arriving (eligible (owning run .owner))).part.reportedSet ≠ [])
      ∧ (∀ x, x = RingState.active ∨ x = .halted → ∀ s, s = arriving
            ((holding run (txn 1 0 8) .held none).modRing 0 fun r => { r with state := x }) →
        Settled s.part ∧ Arrives s.part ∧ (s.part.ring 0).state = x
        ∧ (s.part.slot 0).state = .held ∧ (s.part.slot 0).ring = 0
        ∧ ∀ j, (s.part.slot j).state = .held → (s.part.slot j).ring = 0 →
          (s.part.ring 0).spanOffset (s.part.slot 0).index
            ≤ (s.part.ring 0).spanOffset (s.part.slot j).index) := by
  refine ⟨⟨settled_of_calm rfl, ⟨rfl, rfl, rfl⟩, by decide⟩, ?_⟩
  rintro x (rfl | rfl) s rfl <;> exact ⟨settled_of_still rfl, ⟨rfl, rfl, rfl⟩, by decide⟩

/-- R14: a ring's creation clears the bar of every ring. -/
theorem test_create_clears_bars :
    ∀ s, s = arriving ((ringed run).modRing 0 fun r => { r with evictionBar := true }) →
      (match exec (.createSring (block [3, 0, 9, 0, 1, 0, 0, 0, 0, 0x10, 0, 0, 0, 0, 0, 0, 16, 0, 0, 1])) s with
        | .next t => some ((t.part.ring 1).state, (t.part.ring 0).evictionBar)
        | _ => none) = some (.active, false) := by
  rintro s rfl
  decide

/-- At once, where the held slot is all that counts; waiting, where a second slot counts. -/
theorem test_meets_DeletionWaitsForTheRingToDrain :
    (∀ h, h = 1 ∨ h = 2 → ∀ s, s = arriving
          ((holding run (txn 1 0 8) .held none).modRing 0 fun r => { r with heldCount := h }) →
        Settled s.part ∧ Arrives s.part ∧ cmdTarget (cmd 4 0) = (0 : Fin 8).val
        ∧ (∀ k, Waiter.slot k ∈ s.part.sched.waiters → (s.part.slot k).state = .posting)
        ∧ [0] = ((List.finRange 8).filter fun k => (s.part.slot k).state == .held
            && (s.part.slot k).ring == 0)
        ∧ (s.part.ring 0).state = .active ∧ ((s.part.ring 0).heldCount ≤ 1 ↔ h = 1)
        ∧ s.part.awaitsPosting 0 = false ∧ s.part.fetching 0 = false)
      ∧ ((arriving run).part.ring 0).state = .absent
      ∧ (∀ p, p = (waiting run (.deleteRing 0)).modRing 0 (fun _ => { ring0 with
            state := .deleting, heldCount := 0 }) →
        p.engine.state.alive = true ∧ (p.ring 0).state = .deleting ∧ (p.ring 0).heldCount = 0
        ∧ p.awaitsPosting 0 = false ∧ p.fetching 0 = false
        ∧ (∀ q : Fin 8, q < 0 → p.deletionEnds q = false)
        ∧ p.admin.state = .waiting (.deleteRing 0))
      ∧ State.reset.part.engine.state.alive = false ∧ ∀ q, run.deletionEnds q = false := by
  refine ⟨?_, rfl, ?_, by decide⟩
  · rintro h (rfl | rfl) s rfl <;> exact ⟨settled_of_still rfl, ⟨rfl, rfl, rfl⟩, by decide⟩
  · rintro p rfl
    decide

theorem test_meets_FlushWalksToItsEnd :
    ((Settled (arriving run).part ∧ Arrives (arriving run).part
          ∧ ((arriving run).part.ring 0).state ≠ .halted)
        ∧ ∀ x, x = (1, 0) ∨ x = (3, 0) ∨ x = (1, 2) → ∀ s,
          s = arriving (haltedRing run x.1 .notAdmitted x.2) →
          Settled s.part ∧ Arrives s.part ∧ cmdTarget (cmd 7 0) = (0 : Fin 8).val
          ∧ (s.part.ring 0).state = .halted ∧ (s.part.ring 0).heldCount = x.2
          ∧ ((s.part.ring 0).producer = (s.part.ring 0).fetchIndex ↔ x.1 = 1)
          ∧ s.part.settleNext = none)
      ∧ ∀ q, q = 1 ∨ q = 3 → ∀ m, m = SpanMark.done ∨ m = .notAdmitted → ∀ p,
        p = waiting (haltedRing run q m 0) (.flushRing (walk q)) →
        p.engine.state.alive = true ∧ p.admin.state = .waiting (.flushRing (walk q))
        ∧ (walk q).stop = some q ∧ (walk q).walked = false
        ∧ (p.ring 0).fetchIndex = (p.ring 0).consumer
        ∧ ((p.ring 0).fetchIndex = q ↔ q = 1)
        ∧ (p.ring 0).spanMark (p.ring 0).fetchIndex = m
        ∧ 1 ≤ (p.cring (p.ring 0).bound).freeEntries ∧ p.flushedWaits = false
        ∧ p.fifoOpen = true := by
  refine ⟨⟨⟨settled_of_calm rfl, ⟨rfl, rfl, rfl⟩, by decide⟩, ?_⟩, ?_⟩
  · rintro x (rfl | rfl | rfl) s rfl <;> exact ⟨settled_of_calm rfl, ⟨rfl, rfl, rfl⟩, by decide⟩
  · rintro q (rfl | rfl) m (rfl | rfl) p rfl <;> decide

/-- A FLUSHED completion of ring 0. -/
def flushed0 : Completion := { done0 with tag := 0#16, status := .flushed, bytesDone := 0 }

/-- The walk at its end with a FLUSHED entry unwritten; granted, or not, with no entry free; the FIFO
full; and a FLUSHED completion that still waits. -/
theorem test_meets_FlushWalksToItsEnd_waits :
    (∀ p, p = waiting (haltedRing run 1 .notAdmitted 0) (.flushRing { walk 1 with unwritten := 1 }) →
        p.engine.state.alive = true ∧ (p.ring 0).fetchIndex = 1 ∧ (p.ring 0).consumer = 1)
      ∧ ((flushWaits run).engine.state.alive = true ∧ (walk 3).granted = false
        ∧ ((flushWaits run).cring ((flushWaits run).ring 0).bound).freeEntries = 0
        ∧ (flushWaits run).flushedWaits = false
        ∧ ((flushWaits run).ring 0).spanMark ((flushWaits run).ring 0).fetchIndex ≠ .done
        ∧ ((flushWaits run).ring 0).fetchIndex ≠ 3)
      ∧ ({ walk 3 with granted := true } : Flush).granted = true
      ∧ ((flushWaits run).onCompl fun u => { u with fifo := List.replicate 8 done0 }).fifoOpen = false
      ∧ ((flushWaits run).onSched fun u => { u with waiters := [.flushed flushed0] }).flushedWaits
        = true
      ∧ State.reset.part.engine.state.alive = false ∧ ∀ f, run.admin.state ≠ .waiting (.flushRing f) := by
  refine ⟨?_, by decide, rfl, by decide, by decide, by decide, fun f h => by cases h⟩
  rintro p rfl
  decide

/-- A FLUSHED entry is written: the last one after the walk's end, one before it, and one of two. -/
theorem test_meets_FlushWalksToItsEnd_written :
    ∀ g, g = { walk 1 with walked := true, unwritten := 1 } ∨ g = { walk 3 with unwritten := 1 }
        ∨ g = { walk 1 with walked := true, unwritten := 2 } → ∀ p,
      p = waiting (posting (haltedRing run 3 .notAdmitted 0) flushed0) (.flushRing g) →
      p.engine.state.working = true ∧ p.writeOutstanding .posting = true
      ∧ p.compl.fifo = [flushed0] ∧ p.admin.state = .waiting (.flushRing g) ∧ g.stop.isSome = true
      ∧ flushed0.status = .flushed ∧ flushed0.ring = g.ring := by
  rintro g (rfl | rfl | rfl) p rfl <;> exact ⟨rfl, rfl, rfl, rfl, rfl, rfl, rfl⟩

theorem test_meets_WindowsAreSetAndReopened :
    (Settled (arriving run).part ∧ Arrives (arriving run).part
        ∧ 15 < cmdTarget (cmd 8 16) ∧ cmdTarget (cmd 8 15) = (15 : Fin 16).val
        ∧ ((arriving run).part.window 15).state = .unused)
      ∧ ∀ x, x = WindowState.opened ∨ x = .fenced → ∀ s,
        s = arriving (windowed run { direct with state := x }) →
        Settled s.part ∧ Arrives s.part ∧ cmdTarget (cmd 0x0A 0) = (0 : Fin 16).val
        ∧ (s.part.window 0).state = x := by
  refine ⟨⟨settled_of_calm rfl, ⟨rfl, rfl, rfl⟩, by decide⟩, ?_⟩
  rintro x (rfl | rfl) s rfl <;> exact ⟨settled_of_calm rfl, ⟨rfl, rfl, rfl⟩, by decide⟩

theorem test_meets_WindowsDrainBeforeTheyClear :
    (Settled (arriving run).part ∧ Arrives (arriving run).part
        ∧ cmdTarget (cmd 9 0) = (0 : Fin 16).val
        ∧ ((arriving run).part.window 0).state ≠ .opened
        ∧ ((arriving run).part.window 0).state ≠ .fenced)
      ∧ (∀ n, n = 0 ∨ n = 1 → ∀ x, x = WindowState.opened ∨ x = .fenced → ∀ s,
          s = arriving ((windowed run { direct with state := x }).modWindow 0
            fun w => { w with inFlight := n }) →
        Settled s.part ∧ Arrives s.part ∧ (s.part.window 0).state = x
        ∧ (s.part.window 0).inFlight = n ∧ s.part.closingWindow 0 = false)
      ∧ (∀ p, p = waiting ((windowed run { direct with state := .draining }).modWindow 0
            fun w => { w with inFlight := 0 }) (.clearWindow 0) →
        p.engine.state.alive = true ∧ p.drainingEnds 0 = true
        ∧ (∀ v : Fin 16, v < 0 → p.drainingEnds v = false)
        ∧ p.admin.state = .waiting (.clearWindow 0))
      ∧ State.reset.part.engine.state.alive = false ∧ ∀ v, run.drainingEnds v = false := by
  refine ⟨⟨settled_of_calm rfl, ⟨rfl, rfl, rfl⟩, by decide⟩, ?_, ?_, by decide⟩
  · rintro n (rfl | rfl) x (rfl | rfl) s rfl <;>
      exact ⟨settled_of_calm rfl, ⟨rfl, rfl, rfl⟩, by decide⟩
  · rintro p rfl
    decide

/-- SET_NOTICE_RING with a write outstanding and without. -/
theorem test_meets_NoticeConfigurationCommands :
    (Settled (arriving run).part ∧ Arrives (arriving run).part
        ∧ (arriving run).part.port.state = .detached ∧ (arriving run).part.notices.write = none)
      ∧ ∀ s, s = arriving (run.onNotices fun n => { n with write := some ⟨none, false⟩ }) →
        Settled s.part ∧ Arrives s.part ∧ s.part.notices.write.isSome = true := by
  refine ⟨⟨settled_of_calm rfl, ⟨rfl, rfl, rfl⟩, rfl, rfl⟩, ?_⟩
  rintro s rfl
  exact ⟨settled_of_calm rfl, ⟨rfl, rfl, rfl⟩, rfl⟩

theorem test_meets_AttachAndDetach :
    (Settled (arriving run).part ∧ Arrives (arriving run).part
        ∧ (arriving run).part.port.state = .detached)
      ∧ (∀ x, x = PortState.joining ∨ x = .idle → Settled (arriving (joined run x)).part
        ∧ Arrives (arriving (joined run x)).part ∧ (arriving (joined run x)).part.port.state = x)
      ∧ (Settled (arriving (eligible (joined run .requesting))).part
        ∧ Arrives (arriving (eligible (joined run .requesting))).part
        ∧ (arriving (eligible (joined run .requesting))).part.port.state = .requesting)
      ∧ (∀ x, x = PortState.owner ∨ x = .yielding → ∀ s,
          s = arriving (mastering (openBank x true) .closing closing) →
        Settled s.part ∧ Arrives s.part ∧ s.part.port.state = x)
      ∧ Settled (arriving (openBank .releasing true)).part
      ∧ Arrives (arriving (openBank .releasing true)).part
      ∧ (arriving (openBank .releasing true)).part.port.state = .releasing := by
  refine ⟨⟨settled_of_calm rfl, ⟨rfl, rfl, rfl⟩, rfl⟩, ?_,
    ⟨settled_of_still rfl, ⟨rfl, rfl, rfl⟩, rfl⟩, ?_, settled_of_calm rfl, ⟨rfl, rfl, rfl⟩, rfl⟩
  · rintro x (rfl | rfl) <;> exact ⟨settled_of_calm rfl, ⟨rfl, rfl, rfl⟩, rfl⟩
  · rintro x (rfl | rfl) s rfl <;> exact ⟨settled_of_calm rfl, ⟨rfl, rfl, rfl⟩, rfl⟩

theorem test_meets_QueryWritesItsReport :
    (Settled (arriving run).part ∧ Arrives (arriving run).part
        ∧ cmdByte (cmd 0x10 0) 0x10 = 0 ∧ (longAt (cmd 0x10 0) 0x08).toNat % 64 = 0)
      ∧ ∀ p, p = accessing (run.onAdmin fun a =>
            { a with state := .writing, command := some (cmd 0x10 0, 0) }) .administration
              (.write 0#64 []) →
        Settled p ∧ p.engine.state.working = true ∧ p.admin.state = .writing
        ∧ p.writeOutstanding .administration = true ∧ p.admin.command = some (cmd 0x10 0, 0) := by
  refine ⟨⟨settled_of_calm rfl, ⟨rfl, rfl, rfl⟩, by decide, by decide⟩, ?_⟩
  rintro p rfl
  exact ⟨settled_of_calm rfl, rfl, rfl, rfl, rfl⟩

/-- The report's write waits at the arbiter and cannot be issued. -/
theorem test_meets_QueryWritesItsReport_unissued :
    ∀ p, p = (run.onAdmin fun a =>
        { a with state := .writing, command := some (cmd 0x10 0, 0) }).ask .administration
          (.write 0#64 []) →
      Settled p ∧ p.writeFailable .administration = true
      ∧ p.writeOutstanding .administration = false := by
  rintro p rfl
  exact ⟨settled_of_calm rfl, by decide, by decide⟩

/-! ### WellFormed smoke: an ill-formed term for each check -/

/-- A register write that has a row of its own, a NOTIFY word of a valid kind, and for each admin command
row a record of another code. -/
theorem test_ill_formed_refused :
    [ .registerWrite 0x004#12 4 0xA5#32, .registerWrite 0x008#12 4 0#32,
      .registerWrite 0x020#12 4 0#32, .notifyInvalidKind 0x00040000#32, .unknownCommand (cmd 0x10 0),
      .unknownCommand (cmd 0x01 0), .createCring (cmd 0x02 0), .deleteCring (cmd 0x01 0),
      .createSring (cmd 0x04 0), .deleteSring (cmd 0x05 0), .haltSring (cmd 0x06 0),
      .resumeSring (cmd 0x05 0), .flushSring (cmd 0x08 0), .setWindow (cmd 0x09 0),
      .clearWindow (cmd 0x0A 0), .reopenWindow (cmd 0x09 0), .setFilter (cmd 0x0C 0),
      .setNoticeRing (cmd 0x0B 0), .setNode (cmd 0x0E 0), .attach (cmd 0x0F 0), .detach (cmd 0x0E 0),
      (.query (cmd 0x11 0) : Instr) ].all (fun c => !c.wellFormed) = true := by
  decide

/-- The same checks passed. -/
theorem test_well_formed_accepted :
    [ .registerWrite 0x004#12 4 3#32, .registerWrite 0x004#12 2 1#32, .registerWrite 0x018#12 4 16#32,
      .notifyInvalidKind 0x00050000#32, .unknownCommand (cmd 0x00 0), .unknownCommand (cmd 0x11 0),
      .createCring (cmd 0x01 0), .deleteCring (cmd 0x02 0), .createSring (cmd 0x03 0),
      .deleteSring (cmd 0x04 0), .haltSring (cmd 0x05 0), .resumeSring (cmd 0x06 0),
      .flushSring (cmd 0x07 0), .setWindow (cmd 0x08 0), .clearWindow (cmd 0x09 0),
      .reopenWindow (cmd 0x0A 0), .setFilter (cmd 0x0B 0), .setNoticeRing (cmd 0x0C 0),
      .setNode (cmd 0x0D 0), .attach (cmd 0x0E 0), .detach (cmd 0x0F 0),
      (.query (cmd 0x10 0) : Instr) ].all (fun c => c.wellFormed) = true := by
  decide

/-! ### Fields and codes (10_host_memory_formats.md) -/

/-- R179: index in bits 11:0, ring id in 15:12, kind in 18:16, ARM in 31; bits 30:19 ignored. -/
theorem test_notify_fields :
    notifyCommand 0x80012003#32 = .complete 2#4 3#12 true
      ∧ notifyCommand 0x7FF83FFF#32 = .submit 3#4 0xFFF#12 false
      ∧ notifyCommand 0x00040005#32 = .adminComplete 0#4 5#12 false
      ∧ notifyCommand 0x00050000#32 = .notifyInvalidKind 0x00050000#32 := by
  decide

/-- CONTROL acts only on its three values; 00000003h is ignored (R179). -/
theorem test_control_values :
    hostWriteCommand 0x004#12 4 1#32 = .enable ∧ hostWriteCommand 0x004#12 4 2#32 = .quiesce
      ∧ hostWriteCommand 0x004#12 4 0xA5#32 = .reset
      ∧ hostWriteCommand 0x004#12 4 3#32 = .registerWrite 0x004#12 4 3#32 := by
  decide

/-- The register table: IDENT, and STATE of an engine FAILED for a submission read of ring 3. -/
theorem test_register_values :
    readRegister Part.reset 0x000#12 = 0x01401D6A#32
      ∧ stateValue { Engine.reset with
          state := .failed, cause := .submissionRead, ringId := 3, notifyDropped := true }
        = 0x80030204#32 := by
  decide

/-! ### Worked examples of the spec -/

/-- R60: node 5, code 0042h, payload 11h to 88h. -/
theorem test_notice_beats :
    ((List.range 4).map (node5.noticeBeat (block
        ([4, 0, 5, 0] ++ List.replicate 28 0 ++ [9, 0, 0x42, 0, 0, 0, 0, 0]
          ++ [0x11, 0x22, 0x33, 0x44, 0x55, 0x66, 0x77, 0x88]))))
      = [0x00050042#32, 0x44332211#32, 0x88776655#32, 0x33BEBBF9#32] := by
  decide

/-- 03, "Worked splits": 44 bytes at 1018h, port width 4, max burst 4; and 40 bytes at window offset
3F8h, port width 2, max burst 8, pages of 1 KiB in 2 banks. -/
theorem test_worked_splits :
    ([0, 8, 24, 40].map fun n => ((windowed run { direct with maxBurst := 4, size := 8192 }).nextBurst
        { Slot.empty with
          record := block [2, 0, 5, 0, 0x18, 0x10, 0, 0, 44], window := some 0, progress := n }).bytes)
      = [8, 16, 16, 4]
      ∧ ([0, 8, 24].map fun n => ((windowed run { paged (bank .unknown false) with
          portWidth := 2, bankCount := 2 }).nextBurst { Slot.empty with
            record := block [1, 0, 5, 0, 0xF8, 3, 0, 0, 40], window := some 0, progress := n }).bytes)
        = [8, 16, 16] := by
  decide

/-- 04, "Example of derivation". -/
theorem test_bank_derivation :
    [0x0000#32, 0x0800#32, 0x1800#32, 0x2000#32, 0x1A3C4#32].map
        (fun o : BitVec 32 =>
          let w := { direct with base := 0x60000000#32, pageSize := 2048, bankCount := 4 }
          let a := 0x60000000#32 + o
          (w.bankOf a, w.pageOf a, w.openAddress (w.bankOf a) (w.pageOf a)))
      = [(0, 0, 0x60000000#32), (1, 0, 0x60000800#32), (3, 0, 0x60001800#32), (0, 1, 0x60002000#32),
         (0, 13, 0x6001A000#32)] := by
  decide

/-! ### One step each -/

/-- What holds of the next state. -/
def after (o : Host.Outcome State Fault Refusal) (f : Part → Bool) : Bool :=
  match o with
  | .next t => f t.part
  | _ => false

/-- Bring-up, step 1: ENABLE with n = 16 at 0000000120000000h. -/
theorem test_enable :
    after (exec .enable (st { Part.reset with engine := { Engine.reset with
      adminBaseLo := 0x20000000#32, adminBaseHi := 1#32, adminSize := 16#32 } })) (fun p =>
        p.engine.state == .running && p.engine.areaBase == 0x120000000#64 && p.engine.areaSize == 16)
      = true := by
  decide

/-- Bring-up, step 1: ADMIN_COMPLETE with index 0 and ARM arms the ring and signals nothing. -/
theorem test_admin_arm :
    after (exec (.adminComplete 0#4 0#12 true) (st run)) (fun p =>
      p.compl.adminRing.armed && p.out.isEmpty && !p.engine.notifyDropped) = true := by
  decide

/-- R113: a completion ring created with vector 3; its admin completion is asked for at n × 64. -/
theorem test_create_cring :
    after (exec (.createCring (createCring0 7)) (arriving run)) (fun p =>
      (p.cring 7).present && (p.cring 7).size == 16 && (p.cring 7).vector == 3 && (p.cring 7).phase
        && p.admin.consumer == 1
        && (match p.request .adminPosting with
          | some (.write a d) => a == 512#64 && d[2]? == some 15#8 && d[31]? == some 1#8
          | _ => false)) = true := by
  decide

/-- R12: the record enters slot 0, F moves on and window 0 counts it. -/
theorem test_record_placed :
    after (exec (.submissionReadDone (some (txn 1 0 8))) (st (windowed (fetching offering false) direct)))
      (fun p => (p.slot 0).state == .held && (p.slot 0).window == some 0 && (p.ring 0).fetchIndex == 2
        && (p.window 0).inFlight == 2 && p.stats.admitted == 1#32) = true := by
  decide

/-- R46, R54: a READ of 8 bytes drives ADDR_READ with beat count 2. -/
theorem test_selection_drives :
    after (exec .selection (st (eligible (owning run .owner)))) (fun p =>
      p.out == [.phase .addrRead 0#32 2] && p.master.state == .driving) = true := by
  decide

/-- R84: to a bank that is UNKNOWN the burst drives CLOSE first. -/
theorem test_selection_closes_unknown :
    after (exec .selection (st (windowed (eligible (owning run .owner)) (paged (bank .unknown false)))))
      (fun p => p.out == [.phase .closePage 0#32 0] && p.stats.pageMisses == 1#32) = true := by
  decide

/-- R64: a timeout drives ABORT, settles the slot TIMEOUT and counts against the window; the burst's
acknowledged beat stays in bytes done. -/
theorem test_timeout :
    after (exec .responseLimitExpiry
        (driven (txn 2 0 8) direct (burst .write (some .writeBeat) (some 0) 2 1))) (fun p =>
      p.out == [.phase .abort 0#32 0] && (p.window 0).timeouts == 1 && p.stats.timeouts == 1#32
        && p.compl.fifo.map (fun c => (c.status, c.bytesDone)) == [(.timeout, 4)]) = true := by
  decide +kernel

/-- R58: a COMPARE_SWAP whose old value differs goes to END_LOCK and settles MISMATCH with it. -/
theorem test_mismatch :
    after (exec (.targetAnswer .ack 7#32 true)
        (driven (txn 3 0 0) direct (burst .compareSwap (some .readBeat) (some 0) 1 0))) (fun p =>
      p.out == [.phase .endLock 0#32 0]) = true
      ∧ after (exec (.targetAnswer .ack 0#32 true)
        (driven (txn 3 0 0) direct { burst .compareSwap (some .endLock) (some 0) 1 1 with
          oldValue := some 7#32, lockHeld := true })) (fun p =>
      p.compl.fifo.map (fun c => (c.status, c.bytesDone, c.result)) == [(.mismatch, 4, 7#32)])
        = true := by
  decide

/-- R124: the one posting to an armed ring signals on its vector; the producer wraps and the phase
inverts. -/
theorem test_posting_signals :
    after (exec (.completionEntryWriteDone true) (st ((posting run done0).modCring 0
        fun r => { r with armed := true, producer := 15 }))) (fun p =>
      p.out == [.message 1] && (p.cring 0).producer == 0 && !(p.cring 0).phase && !(p.cring 0).armed
        && (p.cring 0).reserved == 0) = true := by
  decide

/-- R105: an unexpected loss of grant raises the error count and makes the bank UNKNOWN. -/
theorem test_grant_lost :
    after (exec .gntDrop (st (openBank .owner false))) (fun p =>
      p.port.errorCount == 1 && !p.anyBankOpen && p.port.state == .idle && !p.port.req) = true := by
  decide +kernel

/-- R133: the check word of a notice of zeros is FFFFFFFFh; the default action after reset is REJECT. -/
theorem test_check_word :
    after (exec (.inboundCheckWord 0xFFFFFFFF#32 true) (st (receiving node5 3))) (fun p =>
        p.out == [.answer .ack] && p.stats.rejected == 1#32 && (p.entry 0).state == .free) = true
      ∧ after (exec (.inboundCheckWord 0#32 true) (st (receiving node5 3))) (fun p =>
        p.out == [.answer .fault] && p.port.errorCount == 1) = true := by
  decide

/-- R131: a notice phase for node 5 with four beats is answered ACK. -/
theorem test_notice_phase :
    after (exec (.inboundNoticePhase 5#32 4 true) (st node5)) (fun p =>
      p.out == [.answer .ack] && (p.entry 0).state == .receiving) = true := by
  decide +kernel

/-- R162: the report of a WINDOW query begins with the window's state, and its bank 1 reads FFh. -/
theorem test_window_report :
    (windowReport (paged (bank .opened true)))[0]? = some 1#8
      ∧ (windowReport (paged (bank .opened true)))[0x11]? = some 4#8
      ∧ (windowReport (paged (bank .opened true)))[0x20]? = some 1#8
      ∧ (windowReport (paged (bank .opened true)))[0x28]? = some 0xFF#8
      ∧ (windowReport (paged (bank .opened true))).length = 64 := by
  decide

/-- R171: a signal to a masked vector waits for its unmask. -/
theorem test_unmask_sends :
    after (exec (.vectorUnmask (.vector 3)) (st ((run.mask (.vector 3)).signal 3))) (fun p =>
      p.out == [.message 3] && !p.host.vectorPending.get 3) = true := by
  decide

end Sys2Proof.Tests
end

section
/-! The candidates of R6: each condition read as its rule states it, and the eviction condition reduced to
the class of the victim, which is the least urgent there is among the slots that could be evicted. -/

namespace Sys2Proof.Machine

/-! ### The searches of the Dispatch Queue (R12, R13, R44) -/

/-- The keys met by a search that starts with nothing and moves to any key as great as the one it holds
are bounded by the key it ends with. -/
theorem foldl_keep_greatest {α κ : Type} [LinearOrder κ] (key : α → κ) {f : Option α → α → Option α}
    (hnone : ∀ k, f none k = some k)
    (hsome : ∀ b k, f (some b) k = if key b ≤ key k then some k else some b) (l : List α) :
    (l.foldl f none = none → l = [])
      ∧ ∀ v, l.foldl f none = some v → v ∈ l ∧ ∀ u ∈ l, key u ≤ key v := by
  induction l using List.reverseRecOn with
  | nil => simp
  | append_singleton l x ih =>
    obtain ⟨empty, bound⟩ := ih
    rw [List.foldl_concat]
    cases hbest : l.foldl f none with
    | none => simp [hnone, empty hbest]
    | some b =>
      obtain ⟨hb, hle⟩ := bound b hbest
      rw [hsome]
      by_cases hx : key b ≤ key x
      · have hall : ∀ u ∈ l, key u ≤ key x := fun u hu => (hle u hu).trans hx
        simpa [hx, or_imp, forall_and] using hall
      · have hlt : key x ≤ key b := (not_le.mp hx).le
        simpa [hx, hb, hlt, or_imp, forall_and] using hle

/-- The slots a record of ring `r` may evict, oldest first (R13, R44). -/
def Part.evictableFor (p : Part) (r : Fin 8) : List (Fin 8) :=
  p.sched.age.filter fun k => p.evictable (p.slot k) && (p.slot k).ring != r

theorem Part.mem_evictableFor (p : Part) (r k : Fin 8) :
    k ∈ p.evictableFor r ↔ k ∈ p.sched.age ∧ (p.slot k).state = .held ∧ (p.slot k).ring ≠ r
      ∧ (p.slot k).index
          = predIndex (p.ring (p.slot k).ring).size (p.ring (p.slot k).ring).fetchIndex := by
  simp [Part.evictableFor, Part.evictable, and_assoc, and_comm (a := (p.slot k).index = _)]

/-- The victim is missing only where no slot may be evicted, and is one of the least urgent class. -/
theorem Part.victim_greatest (p : Part) (r : Fin 8) :
    (p.victim r = none → p.evictableFor r = [])
      ∧ ∀ v, p.victim r = some v →
        v ∈ p.evictableFor r ∧ ∀ k ∈ p.evictableFor r, (p.slot k).cls ≤ (p.slot v).cls := by
  unfold Part.victim
  exact foldl_keep_greatest (fun k => (p.slot k).cls) (fun _ => rfl) (fun _ _ => rfl) _

theorem Part.exists_victim_lt_iff (p : Part) (r : Fin 8) (c : Fin 4) :
    (∃ v, p.victim r = some v ∧ c < (p.slot v).cls)
      ↔ ∃ k ∈ p.evictableFor r, c < (p.slot k).cls := by
  obtain ⟨empty, greatest⟩ := p.victim_greatest r
  constructor
  · rintro ⟨v, hv, hlt⟩
    obtain ⟨hmem, -⟩ := greatest v hv
    exact ⟨v, hmem, hlt⟩
  · rintro ⟨k, hk, hlt⟩
    cases hv : p.victim r with
    | none => simp [empty hv] at hk
    | some v =>
      obtain ⟨-, hle⟩ := greatest v hv
      exact ⟨v, rfl, hlt.trans_le (hle k hk)⟩

theorem Part.freeSlotIndex_isSome_iff (p : Part) :
    p.freeSlotIndex.isSome = true ↔ ∃ k, (p.slot k).state = .free := by
  simp [Part.freeSlotIndex]

/-! ### The conditions of a candidate (R6, R115) -/

theorem CompletionRing.one_le_freeEntries_iff (c : CompletionRing) :
    1 ≤ c.freeEntries ↔ c.present = true ∧ c.outstanding + c.reserved + 1 < c.size := by
  unfold CompletionRing.freeEntries
  split
  case isTrue h => simp only [h, true_and]; omega
  case isFalse h => simp [h]

theorem Part.baseCandidate_iff (p : Part) (r : Fin 8) :
    p.baseCandidate r = true ↔
      (p.ring r).state = .active ∧ (p.ring r).producer ≠ (p.ring r).fetchIndex
      ∧ (p.ring r).heldCount < (p.ring r).quota
      ∧ (p.ring r).spanOffset (p.ring r).fetchIndex < (p.ring r).spanLimit
      ∧ 1 ≤ (p.cring (p.ring r).bound).freeEntries := by
  simp [Part.baseCandidate, and_assoc]

theorem Part.candidate_iff (p : Part) (r : Fin 8) :
    p.candidate r = true ↔ p.baseCandidate r = true
      ∧ (p.freeSlotIndex.isSome = true ∨ (p.ring r).evictionBar = false
        ∧ ∃ v, p.victim r = some v ∧ (p.ring r).cls < (p.slot v).cls) := by
  unfold Part.candidate
  cases hv : p.victim r <;> simp

/-- Settles O23. The model compares the ring's class with the victim's alone; the victim is of the least
urgent class that may be evicted, so this is the test for some such slot. -/
theorem candidateIsR6 : Obligations.CandidateIsR6 := by
  intro p r _
  rw [p.candidate_iff, p.baseCandidate_iff, CompletionRing.one_le_freeEntries_iff,
    p.freeSlotIndex_isSome_iff, p.exists_victim_lt_iff]
  simp only [Part.mem_evictableFor, SubmissionRing.spanOffset, and_assoc]

end Sys2Proof.Machine
end

section
/-! Banks and pages (R82): a PAGED window is cut into pieces of page size. The number of an address's piece,
divided by the bank count, gives the page and leaves the bank, so two addresses of one piece have one bank
and one page. -/

namespace Sys2Proof.Machine

/-- The number of the piece of page size that a backplane address falls in, from the window's base on. -/
def Window.pieceOf (w : Window) (a : BusWord) : Nat :=
  (a.toNat - w.base.toNat) / w.pageSize

/-! ### Piece, bank and page -/

theorem Window.bankOf_eq_pieceOf_mod (w : Window) (a : BusWord) :
    w.bankOf a = w.pieceOf a % w.bankCount := rfl

theorem Window.pageOf_eq_pieceOf_div (w : Window) (a : BusWord) :
    w.pageOf a = w.pieceOf a / w.bankCount :=
  (Nat.div_div_eq_div_mul ..).symm

theorem Window.bankCount_mul_pageOf_add_bankOf (w : Window) (a : BusWord) :
    w.bankCount * w.pageOf a + w.bankOf a = w.pieceOf a := by
  rw [w.pageOf_eq_pieceOf_div, w.bankOf_eq_pieceOf_mod, Nat.div_add_mod]

theorem Window.bankOf_pageOf_congr {w : Window} {a c : BusWord} (h : w.pieceOf c = w.pieceOf a) :
    w.bankOf c = w.bankOf a ∧ w.pageOf c = w.pageOf a := by
  simp only [w.bankOf_eq_pieceOf_mod, w.pageOf_eq_pieceOf_div, h, and_self]

theorem Window.bankOf_pageOf_of_one_bank {w : Window} (h : w.bankCount = 1) (a : BusWord) :
    w.bankOf a = 0 ∧ w.pageOf a = w.pieceOf a := by
  rw [w.bankOf_eq_pieceOf_mod, w.pageOf_eq_pieceOf_div, h]
  exact ⟨Nat.mod_one _, Nat.div_one _⟩

theorem Window.openAddress_eq_add (w : Window) (b q : Nat) :
    w.openAddress b q =
      w.base + BitVec.ofNat 32 (q * w.pageSize * w.bankCount) + BitVec.ofNat 32 (b * w.pageSize) := by
  rw [Window.openAddress, BitVec.ofNat_add, BitVec.add_assoc]

/-! ### Addresses of one piece -/

/-- An aligned word lies within one piece, because the page size is a multiple of the word's size. -/
theorem Window.pieceOf_eq_of_aligned_word {w : Window} {a c : BusWord} (hbase : w.base.toNat ≤ a.toNat)
    (hac : a.toNat ≤ c.toNat) (hword : c.toNat < a.toNat + 4) (ha : a.toNat % 4 = 0)
    (hb : w.base.toNat % 4 = 0) (hsize : w.pageSize % 4 = 0) : w.pieceOf c = w.pieceOf a := by
  obtain ⟨k, hk⟩ := Nat.dvd_of_mod_eq_zero hsize
  have sameWord : (c.toNat - w.base.toNat) / 4 = (a.toNat - w.base.toNat) / 4 := by omega
  simp only [Window.pieceOf, hk, ← Nat.div_div_eq_div_mul, sameWord]

theorem Window.burstEnd_le_pieceEnd {w : Window} (hkind : w.kind = .paged) (a : BusWord) (stop : Nat) :
    w.burstEnd a.toNat stop ≤ w.base.toNat + (w.pieceOf a + 1) * w.pageSize := by
  simp [Window.burstEnd, Window.pieceOf, hkind]

theorem Window.pieceOf_eq_of_lt_burstEnd {w : Window} {a c : BusWord} {stop : Nat}
    (hpage : 0 < w.pageSize) (hbase : w.base.toNat ≤ a.toNat) (hac : a.toNat ≤ c.toNat)
    (hkind : w.kind = .paged) (hc : c.toNat < w.burstEnd a.toNat stop) : w.pieceOf c = w.pieceOf a := by
  have inPiece : c.toNat < w.base.toNat + (w.pieceOf a + 1) * w.pageSize :=
    hc.trans_le (w.burstEnd_le_pieceEnd hkind a stop)
  have notAfter : w.pieceOf c < w.pieceOf a + 1 := (Nat.div_lt_iff_lt_mul hpage).2 (by omega)
  have notBefore : w.pieceOf a ≤ w.pieceOf c := Nat.div_le_div_right (Nat.sub_le_sub_right hac _)
  omega

/-! ### The bank and page of a burst -/

theorem Part.nextBurst_bank_page {p : Part} {s : Slot} {w : Fin 16} (hw : s.window = some w)
    (hop : recOpcode s.record ≠ some .noticeSend) :
    (p.nextBurst s).bank = (p.window w).bankOf (p.nextBurst s).addr
      ∧ (p.nextBurst s).page = (p.window w).pageOf (p.nextBurst s).addr := by
  simp only [Part.nextBurst, hw]
  split
  case h_1 h => exact absurd h hop
  case h_2 => exact ⟨rfl, rfl⟩
  case h_3 => exact ⟨rfl, rfl⟩

/-- Settles O27. Every clause on an address speaks of its piece: the quotient and remainder by the bank
count, the bounds of the piece, and the addresses that share it. -/
theorem bankAndPageDerivation : Obligations.BankAndPageDerivation := by
  refine ⟨fun w a b q hbase hpage hcount => ?_, fun p s w hw hop => ?_⟩
  · rw [w.bankCount_mul_pageOf_add_bankOf]
    refine ⟨Nat.mod_lt _ hcount, Nat.mul_div_le _ _, Nat.lt_mul_div_succ _ hpage,
      w.openAddress_eq_add b q, rfl, fun h => w.bankOf_pageOf_of_one_bank h a,
      fun c hac hc => Window.bankOf_pageOf_congr ?_⟩
    rcases hc with ⟨hword, ha, hb, hsize⟩ | ⟨hkind, stop, hc⟩
    · exact Window.pieceOf_eq_of_aligned_word hbase hac hword ha hb hsize
    · exact Window.pieceOf_eq_of_lt_burstEnd hpage hbase hac hkind hc
  · refine Part.nextBurst_bank_page hw ?_
    rcases hop with h | h | h <;> simp [h]

end Sys2Proof.Machine
end

section
/-! Beat 3 of an inbound notice (R133 to R135): what the filter decides, what an answered beat leaves of the
port, and what the reaction at the end of the event may do to a buffer entry, which is no more than to
begin the write of an ACCEPTED one. -/

namespace Sys2Proof.Machine

/-! ### The searches of the Notice Unit (R132, R134, R139) -/

/-- At most one entry is RECEIVING (R132), so the search for it finds the one there is. -/
theorem NoticeUnit.receiving_eq_some {n : NoticeUnit} {b : Fin 4}
    (h : ∀ a, (n.buffer.get a).state = .receiving ↔ a = b) : n.receiving = some b := by
  rw [NoticeUnit.receiving, ← Fin.find?_eq_find?_finRange, Fin.find?_eq_some_iff]
  refine ⟨by simp [h], fun a ha => ?_⟩
  simp [h, ha.ne]

theorem NoticeUnit.matchFilter_eq_some_iff {n : NoticeUnit} {e : BufferEntry} {i : Fin 16} :
    n.matchFilter e = some i ↔
      (n.filters.get i).matches e = true ∧ ∀ j, j < i → (n.filters.get j).matches e = false := by
  rw [NoticeUnit.matchFilter, ← Fin.find?_eq_find?_finRange, Fin.find?_eq_some_iff]

theorem NoticeUnit.matchFilter_eq_none_iff {n : NoticeUnit} {e : BufferEntry} :
    n.matchFilter e = none ↔ ∀ i, (n.filters.get i).matches e = false := by
  rw [NoticeUnit.matchFilter, ← Fin.find?_eq_find?_finRange, Fin.find?_eq_none_iff]

theorem NoticeUnit.actionFor_of_some {n : NoticeUnit} {e : BufferEntry} {i : Fin 16}
    (h : n.matchFilter e = some i) : n.actionFor e = (n.filters.get i).action := by
  simp [NoticeUnit.actionFor, h]

theorem NoticeUnit.actionFor_of_none {n : NoticeUnit} {e : BufferEntry}
    (h : n.matchFilter e = none) :
    n.actionFor e = if n.defaultAccept then .accept else .reject := by
  simp [NoticeUnit.actionFor, h]

/-- The filter as R134 reads it: the lowest-numbered enabled entry that matches, or the default action. -/
theorem NoticeUnit.filter_decides {n : NoticeUnit} {e : BufferEntry} {action : FilterAction}
    {f : Option (Fin 16)}
    (h : (∃ i, f = some i ∧ (n.filters.get i).matches e = true
        ∧ (∀ j, j < i → (n.filters.get j).matches e = false) ∧ action = (n.filters.get i).action)
      ∨ (f = none ∧ (∀ i, (n.filters.get i).matches e = false)
        ∧ action = if n.defaultAccept then .accept else .reject)) :
    n.matchFilter e = f ∧ n.actionFor e = action := by
  rcases h with ⟨i, rfl, hi, hlow, rfl⟩ | ⟨rfl, hnone, rfl⟩
  · have hmatch := NoticeUnit.matchFilter_eq_some_iff.2 ⟨hi, hlow⟩
    exact ⟨hmatch, NoticeUnit.actionFor_of_some hmatch⟩
  · have hmatch := NoticeUnit.matchFilter_eq_none_iff.2 hnone
    exact ⟨hmatch, NoticeUnit.actionFor_of_none hmatch⟩

/-- A search that starts with nothing and at each element keeps what it has or takes the element ends
within the list. -/
theorem foldl_keep_mem {α : Type} {f : Option α → α → Option α} (hnone : ∀ k, f none k = some k)
    (hsome : ∀ a k, f (some a) k = some a ∨ f (some a) k = some k) (l : List α) :
    ∀ v, l.foldl f none = some v → v ∈ l := by
  induction l using List.reverseRecOn with
  | nil => simp
  | append_singleton l x ih =>
    rw [List.foldl_concat]
    intro v hv
    cases hbest : l.foldl f none with
    | none =>
      rw [hbest, hnone] at hv
      cases hv
      simp
    | some a =>
      rw [hbest] at hv
      rcases hsome a x with h | h <;> rw [h] at hv <;> cases hv
      · exact List.mem_append_left _ (ih v hbest)
      · simp

/-- The entry written next is an ACCEPTED one (R139). -/
theorem NoticeUnit.earliest_accepted {n : NoticeUnit} {b : Fin 4} (h : n.earliest = some b) :
    (n.buffer.get b).state = .accepted := by
  have hmem := foldl_keep_mem (fun _ => rfl) (fun _ _ => (ite_eq_or_eq ..).symm) _ b h
  simpa using hmem

/-! ### The reaction and the notice buffer (R139) -/

/-- Asking for a notice entry write touches the buffer only for the notice it writes, which goes WRITING. -/
theorem Part.askNotice_buffer (p : Part) :
    p.askNotice.notices.buffer = p.notices.buffer ∨ ∃ b, p.notices.earliest = some b
      ∧ p.askNotice.notices.buffer =
        tabUpdate p.notices.buffer b fun e => { e with state := .writing } := by
  simp only [Part.askNotice]
  split
  case isFalse => exact .inl rfl
  split
  case isTrue => exact .inl rfl
  split
  case h_1 => exact .inl rfl
  split
  case h_1 => exact .inl rfl
  split
  case h_1 b hb => exact .inr ⟨b, hb, rfl⟩
  case h_2 => exact .inl rfl

/-- The reaction changes an entry only from ACCEPTED to WRITING. -/
theorem Part.react_entry (p : Part) (b : Fin 4) :
    p.react.entry b = p.entry b ∨ ((p.entry b).state = .accepted
      ∧ p.react.entry b = { p.entry b with state := .writing }) := by
  have hbuffer := p.movePort.driveLevel.captureFlush.askPosting.askAdminPosting.askNotice_buffer
  simp only [Part.entry, Part.react, Part.askCommand_notices]
  simp only [Part.askAdminPosting_notices, Part.askPosting_notices, Part.captureFlush_notices,
    Part.driveLevel_notices, Part.movePort_notices] at hbuffer
  rcases hbuffer with hkeep | ⟨c, hc, hwrite⟩
  · exact .inl (by rw [hkeep])
  · rw [hwrite, tabUpdate_get]
    by_cases hb : b = c
    · subst hb
      exact .inr ⟨NoticeUnit.earliest_accepted hc, if_pos rfl⟩
    · exact .inl (if_neg hb)

theorem Part.react_entry_of_ne_accepted {p : Part} {b : Fin 4} (h : (p.entry b).state ≠ .accepted) :
    p.react.entry b = p.entry b :=
  (p.react_entry b).resolve_right fun ⟨hacc, _⟩ => h hacc

theorem Part.react_entry_of_accepted {p : Part} {b : Fin 4} (h : (p.entry b).state = .accepted) :
    ∃ st, (st = .accepted ∨ st = .writing) ∧ p.react.entry b = { p.entry b with state := st } := by
  rcases p.react_entry b with hkeep | ⟨-, hwrite⟩
  · exact ⟨.accepted, .inl rfl, by rw [hkeep, ← h]⟩
  · exact ⟨.writing, .inr rfl, hwrite⟩

@[simp] theorem Part.react_entry_source (p : Part) (b : Fin 4) :
    (p.react.entry b).source = (p.entry b).source := by
  rcases p.react_entry b with h | ⟨-, h⟩ <;> rw [h]

@[simp] theorem Part.react_entry_code (p : Part) (b : Fin 4) :
    (p.react.entry b).code = (p.entry b).code := by
  rcases p.react_entry b with h | ⟨-, h⟩ <;> rw [h]

/-! ### The reaction and the port -/

theorem Part.react_port (p : Part) : p.react.port = p.movePort.driveLevel.port := by
  simp [Part.react]

theorem Part.react_port_of_detached {p : Part} (h : p.port.state = .detached) :
    p.react.port.state = .detached := by
  have still : p.movePort = p := by simp [Part.movePort, h]
  rw [p.react_port, still, ← h]
  rfl

/-- `q` is `p` but for the Notice Unit, the counters, the outputs and the port error count, none of which
the port's moves and LVL depend on. -/
def Part.SamePort (p q : Part) : Prop :=
  ∃ c n t o, q = { p with port := { p.port with errorCount := c }, notices := n, stats := t, out := o }

theorem Part.SamePort.trans {p q r : Part} (h : p.SamePort q) (h' : q.SamePort r) : p.SamePort r := by
  obtain ⟨_, _, _, _, rfl⟩ := h
  obtain ⟨c, n, t, o, rfl⟩ := h'
  exact ⟨c, n, t, o, rfl⟩

theorem Part.samePort_emit (p : Part) (o : Output) : p.SamePort (p.emit o) := ⟨_, _, _, _, rfl⟩

theorem Part.samePort_emit_modEntry (p : Part) (o : Output) (b : Fin 4)
    (f : BufferEntry → BufferEntry) : p.SamePort ((p.emit o).modEntry b f) := ⟨_, _, _, _, rfl⟩

theorem Part.SamePort.movePort {p q : Part} (h : p.SamePort q) : p.movePort.SamePort q.movePort := by
  obtain ⟨c, n, t, o, hq⟩ := h
  refine ⟨c, n, t, o, ?_⟩
  have hset : q.reportedSet = p.reportedSet := by rw [hq]; rfl
  have hempty : q.setStaysEmpty = p.setStaysEmpty := by rw [hq]; rfl
  have hhold : q.noHoldComes = p.noHoldComes := by rw [hq]; rfl
  have hstate : q.port.state = p.port.state := by rw [hq]
  have hgnt : q.port.gnt = p.port.gnt := by rw [hq]
  have hmaster : q.master = p.master := by rw [hq]
  simp only [Part.movePort, hset, hempty, hhold, hstate, hgnt, hmaster]
  (repeat' split) <;> rw [hq] <;> rfl

theorem Part.SamePort.driveLevel {p q : Part} (h : p.SamePort q) :
    p.driveLevel.SamePort q.driveLevel := by
  obtain ⟨c, n, t, o, rfl⟩ := h
  exact ⟨c, n, t, o, rfl⟩

theorem Part.SamePort.port {p q : Part} (h : p.SamePort q) :
    q.port = { p.port with errorCount := q.port.errorCount } := by
  obtain ⟨c, n, t, o, rfl⟩ := h
  rfl

/-- The reaction gives the port of such a part no move where none was due before. -/
theorem Part.SamePort.react_port {p q : Part} (h : p.SamePort q) (hp : Settled p) :
    q.react.port = { p.port with errorCount := q.port.errorCount } := by
  have hport := h.movePort.driveLevel.port
  rw [hp.port, hp.level, ← q.react_port, q.react_port_errorCount] at hport
  exact hport

/-! ### The port's leaving at the error limit (R106, R108) -/

theorem Part.dropReceiving_entry (p : Part) (b : Fin 4) :
    p.dropReceiving.entry b = if (p.entry b).state = .receiving then .empty else p.entry b :=
  tabMap_get _ _ _

/-- Going to DETACHED puts out nothing, counts no notice, and touches the buffer only to free an entry that
is RECEIVING. -/
theorem Part.detach_effect (p : Part) (c : DetachCause) :
    (p.detach c).port.state = .detached ∧ (p.detach c).port.errorCount = p.port.errorCount
      ∧ (p.detach c).out = p.out ∧ (p.detach c).stats.accepted = p.stats.accepted
      ∧ (p.detach c).stats.rejected = p.stats.rejected
      ∧ (p.detach c).notices.arrival = p.notices.arrival
      ∧ (p.detach c).notices.buffer = p.dropReceiving.notices.buffer := by
  simp only [Part.detach, Part.finishDetach, Part.pendDetached, Part.countMerge]
  (repeat' split) <;> exact ⟨rfl, rfl, rfl, rfl, rfl, rfl, rfl⟩

/-- An error raised while the port is IDLE or REQUESTING: the count rises, and a rise to the limit detaches
the port (R107, R108). -/
theorem Part.raiseError_effect {p : Part} (hport : p.port.state = .idle ∨ p.port.state = .requesting) :
    p.raiseError.port.errorCount = min 16 (p.port.errorCount + 1)
      ∧ (p.port.errorCount = 15 → p.raiseError.port.state = .detached)
      ∧ (p.port.errorCount ≠ 15 → p.SamePort p.raiseError)
      ∧ p.raiseError.out = p.out ∧ p.raiseError.stats.accepted = p.stats.accepted
      ∧ p.raiseError.stats.rejected = p.stats.rejected
      ∧ p.raiseError.notices.arrival = p.notices.arrival
      ∧ ∀ b, p.entry b = .empty → p.raiseError.entry b = .empty := by
  by_cases hlimit : p.port.errorCount = 15
  · have hleave : p.raiseError = (p.onPort Port.raise).detach .errorLimit := by
      rw [Part.raiseError_limit hlimit]
      rcases hport with h | h <;> simp [Part.leaveAtLimit, Port.raise, h]
    obtain ⟨hstate, hcount, hout, hacc, hrej, harr, hbuf⟩ :=
      (p.onPort Port.raise).detach_effect .errorLimit
    rw [hleave]
    refine ⟨hcount, fun _ => hstate, fun h => absurd hlimit h, hout, hacc, hrej, harr, fun b hb => ?_⟩
    have hdrop := (p.onPort Port.raise).dropReceiving_entry b
    rw [Part.onPort_entry, hb] at hdrop
    rw [Part.entry, hbuf]
    exact hdrop
  · rw [Part.raiseError_below hlimit]
    exact ⟨rfl, fun h => absurd h hlimit, fun _ => ⟨_, _, _, _, rfl⟩, rfl, rfl, rfl, rfl, fun _ hb => hb⟩

/-! ### The check word and the filter (R133 to R135) -/

/-- A beat of a notice leaves the part as it is where the port answers. -/
theorem Part.seePhase_data {p : Part} (h : p.port.state.answers = true) : p.seePhase .data = p := by
  have hjoin : p.port.state ≠ .joining := by rintro hj; simp [hj, PortState.answers] at h
  simp [Part.seePhase, hjoin]

theorem Part.checkTaken_eq {p : Part} {b : Fin 4} (ad : BusWord) (good : Bool)
    (hport : p.port.state.answers = true) (hrec : p.notices.receiving = some b)
    (hbeats : (p.entry b).beats = 3) :
    p.checkTaken ad good =
      (if (p.entry b).bad = false ∧ good = true ∧ ad = (p.entry b).checkWord then
        (p.emit (.answer .ack)).filterNotice b
      else ((p.emit (.answer .fault)).modEntry b fun _ => .empty).raiseError).react := by
  simp [Part.checkTaken, Part.seePhase_data hport, hrec, hbeats, hport]

theorem Part.filterNotice_reject {p : Part} {b : Fin 4}
    (h : p.notices.actionFor (p.entry b) = .reject) :
    p.filterNotice b = (p.modEntry b fun _ => .empty).onStats fun t =>
      { t with rejected := satSucc t.rejected } := by
  simp only [Part.filterNotice, h]

theorem Part.filterNotice_accept {p : Part} {b : Fin 4} {action : FilterAction}
    (h : p.notices.actionFor (p.entry b) = action) (haction : action ≠ .reject) :
    p.filterNotice b = ((p.modEntry b fun e =>
        { e with
          state := .accepted, filter := p.notices.matchFilter (p.entry b), urgent := action == .urgent,
          arrival := p.notices.arrival }).onNotices fun u =>
        { u with arrival := u.arrival + 1#32 }).onStats fun t =>
      { t with
        accepted := satSucc t.accepted
        urgent := if action = .urgent then satSucc t.urgent else t.urgent } := by
  cases action with
  | reject => exact absurd rfl haction
  | accept => simp only [Part.filterNotice, h]; rfl
  | urgent => simp only [Part.filterNotice, h]; rfl

/-- A notice that the filter rejects: its entry is free and it is counted (R135). -/
theorem Part.react_filterNotice_reject {p : Part} {b : Fin 4}
    (h : p.notices.actionFor (p.entry b) = .reject) :
    (p.filterNotice b).react.entry b = .empty
      ∧ (p.filterNotice b).react.stats = { p.stats with rejected := satSucc p.stats.rejected }
      ∧ (p.filterNotice b).react.notices.arrival = p.notices.arrival := by
  have hentry : (p.filterNotice b).entry b = .empty := by
    rw [Part.filterNotice_reject h]
    exact (Part.modEntry_entry ..).trans (if_pos rfl)
  refine ⟨?_, ?_, ?_⟩
  · rw [Part.react_entry_of_ne_accepted (by rw [hentry]; decide), hentry]
  · rw [Part.react_stats, Part.filterNotice_reject h]
    rfl
  · rw [Part.react_notices_arrival, Part.filterNotice_reject h]
    rfl

/-- A notice that the filter accepts: its entry takes the arrival number and it is counted (R135); its write
may begin at the same event (R139). -/
theorem Part.react_filterNotice_accept {p : Part} {b : Fin 4} {action : FilterAction}
    (h : p.notices.actionFor (p.entry b) = action) (haction : action ≠ .reject) :
    (∃ st, (st = .accepted ∨ st = .writing) ∧ (p.filterNotice b).react.entry b =
        { p.entry b with
          state := st, filter := p.notices.matchFilter (p.entry b), urgent := action == .urgent,
          arrival := p.notices.arrival })
      ∧ (p.filterNotice b).react.notices.arrival = p.notices.arrival + 1#32
      ∧ (p.filterNotice b).react.stats = { p.stats with
          accepted := satSucc p.stats.accepted
          urgent := if action = .urgent then satSucc p.stats.urgent else p.stats.urgent } := by
  have hentry : (p.filterNotice b).entry b =
      { p.entry b with
        state := .accepted, filter := p.notices.matchFilter (p.entry b), urgent := action == .urgent,
        arrival := p.notices.arrival } := by
    rw [Part.filterNotice_accept h haction]
    exact (Part.modEntry_entry ..).trans (if_pos rfl)
  refine ⟨?_, ?_, ?_⟩
  · obtain ⟨st, hst, hreact⟩ := Part.react_entry_of_accepted (by rw [hentry] : _ = EntryState.accepted)
    exact ⟨st, hst, by rw [hreact, hentry]⟩
  · rw [Part.react_notices_arrival, Part.filterNotice_accept h haction]
    rfl
  · rw [Part.react_stats, Part.filterNotice_accept h haction]
    rfl

/-- The filter changes only the Notice Unit and the counters, and of the buffer only the notice's entry. -/
theorem Part.filterNotice_frame (p : Part) (b : Fin 4) :
    p.SamePort (p.filterNotice b) ∧ (p.filterNotice b).port = p.port ∧ (p.filterNotice b).out = p.out
      ∧ ∀ a, a ≠ b → (p.filterNotice b).entry a = p.entry a := by
  have hother (f : BufferEntry → BufferEntry) (a : Fin 4) (ha : a ≠ b) :
      (p.modEntry b f).entry a = p.entry a := (Part.modEntry_entry ..).trans (if_neg ha)
  cases h : p.notices.actionFor (p.entry b) with
  | reject =>
    rw [Part.filterNotice_reject h]
    exact ⟨⟨_, _, _, _, rfl⟩, rfl, rfl, hother _⟩
  | accept =>
    rw [Part.filterNotice_accept h nofun]
    exact ⟨⟨_, _, _, _, rfl⟩, rfl, rfl, hother _⟩
  | urgent =>
    rw [Part.filterNotice_accept h nofun]
    exact ⟨⟨_, _, _, _, rfl⟩, rfl, rfl, hother _⟩

/-- A right beat 3: the port stays as it is, and of the other entries none changes its notice. -/
theorem Part.react_filterNotice_frame {p : Part} (hp : Settled p) (b : Fin 4) :
    ((p.emit (.answer .ack)).filterNotice b).react.out = p.out ++ [.answer .ack]
      ∧ ((p.emit (.answer .ack)).filterNotice b).react.port = p.port
      ∧ ∀ a, a ≠ b →
        (((p.emit (.answer .ack)).filterNotice b).react.entry a).source = (p.entry a).source
        ∧ (((p.emit (.answer .ack)).filterNotice b).react.entry a).code = (p.entry a).code := by
  obtain ⟨hsame, hport, hout, hother⟩ := (p.emit (.answer .ack)).filterNotice_frame b
  refine ⟨?_, ?_, fun a ha => ?_⟩
  · rw [Part.react_out, hout, Part.emit_out]
  · rw [((p.samePort_emit _).trans hsame).react_port hp, hport, Part.emit_port]
  · rw [Part.react_entry_source, Part.react_entry_code, hother a ha, Part.emit_entry]
    exact ⟨rfl, rfl⟩

/-- A wrong beat 3: the entry is freed and the port error count rises (R107, R133). -/
theorem Part.react_fault {p : Part} (hp : Settled p)
    (hport : p.port.state = .idle ∨ p.port.state = .requesting) (b : Fin 4) :
    ∀ t, t = (((p.emit (.answer .fault)).modEntry b fun _ => .empty).raiseError).react →
      t.out = p.out ++ [.answer .fault] ∧ t.entry b = .empty
      ∧ t.port.errorCount = min 16 (p.port.errorCount + 1)
      ∧ (p.port.errorCount = 15 → t.port.state = .detached)
      ∧ (p.port.errorCount ≠ 15 → t.port.state = p.port.state)
      ∧ t.stats.accepted = p.stats.accepted ∧ t.stats.rejected = p.stats.rejected
      ∧ t.notices.arrival = p.notices.arrival := by
  rintro t rfl
  obtain ⟨hcount, hlimit, hbelow, hout, hacc, hrej, harr, hfree⟩ :=
    Part.raiseError_effect (p := (p.emit (.answer .fault)).modEntry b fun _ => .empty) hport
  have hentry := hfree b ((Part.modEntry_entry ..).trans (if_pos rfl))
  refine ⟨?_, ?_, ?_, fun h => ?_, fun h => ?_, ?_, ?_, ?_⟩
  · rw [Part.react_out, hout, Part.modEntry_out, Part.emit_out]
  · rw [Part.react_entry_of_ne_accepted (by rw [hentry]; decide), hentry]
  · exact (Part.react_port_errorCount _).trans hcount
  · exact Part.react_port_of_detached (hlimit h)
  · rw [((Part.samePort_emit_modEntry p _ b _).trans (hbelow h)).react_port hp]
  · rw [Part.react_stats, hacc, Part.modEntry_stats, Part.emit_stats]
  · rw [Part.react_stats, hrej, Part.modEntry_stats, Part.emit_stats]
  · exact (Part.react_notices_arrival _).trans harr

/-- Settles O49. Beat 3 finds the one RECEIVING entry; its check word chooses between the filter and the
fault, and the reaction that follows does no more to the entry than begin its write. -/
theorem checkWordAndFilterDecideANotice : Obligations.CheckWordAndFilterDecideANotice := by
  intro s b ad good e hp hport hrec he hbeats _
  subst he
  have hanswers : s.part.port.state.answers = true := by
    rcases hport with h | h <;> simp [h, PortState.answers]
  have htaken := Part.checkTaken_eq ad good hanswers (NoticeUnit.receiving_eq_some hrec) hbeats
  constructor
  · intro hgood hbad had action f hfilter
    obtain ⟨rfl, haction⟩ := NoticeUnit.filter_decides hfilter
    rw [if_pos ⟨hbad, hgood, had⟩] at htaken
    obtain ⟨hout, hkeep, hother⟩ := Part.react_filterNotice_frame hp b
    refine ⟨{ s with part := s.part.checkTaken ad good }, rfl, ?_⟩
    simp only [htaken]
    refine ⟨hout, hkeep, hother, fun hreject => ?_, fun haccept => ?_⟩
    · exact Part.react_filterNotice_reject (haction.trans hreject)
    · have hne : action ≠ .reject := by rcases haccept with rfl | rfl <;> decide
      exact Part.react_filterNotice_accept haction hne
  · intro hwrong
    have hnot : ¬((s.part.entry b).bad = false ∧ good = true
        ∧ ad = (s.part.entry b).checkWord) := by
      rintro ⟨hbad, hgood, had⟩
      rcases hwrong with h | h | h
      · simp [h] at hgood
      · simp [h] at hbad
      · exact h had
    rw [if_neg hnot] at htaken
    exact ⟨{ s with part := s.part.checkTaken ad good }, rfl, Part.react_fault hp hport b _ htaken⟩

end Sys2Proof.Machine
end

section
/-! The end of an admin command that configures the Completion Unit or the Notice Unit (R149 to R151): it
takes the status of its first failing check, and the reaction that follows neither moves the port nor asks
for a notice entry that was not due before. -/

namespace Sys2Proof.Machine

/-! ### Checks in order (R150) -/

/-- The status that a list of checks gives a command: of the first that fails, SUCCESS where all hold. -/
def checkStatus (checks : List (Bool × Status)) : Status := (firstFailure checks).getD .success

theorem checkStatus_nil : checkStatus [] = .success := rfl

theorem checkStatus_cons (ok : Bool) (st : Status) (checks : List (Bool × Status)) :
    checkStatus ((ok, st) :: checks) = if ok = false then st else checkStatus checks := by
  cases ok <;> rfl

/-- No check refuses with SUCCESS, so a command with that status takes its effect. -/
theorem Part.checked_success {checks : List (Bool × Status)} (hfail : ∀ c ∈ checks, c.2 ≠ .success)
    (hst : checkStatus checks = .success) (p : Part) (f : Part → Part) : p.checked checks f = f p := by
  unfold Part.checked
  cases h : firstFailure checks with
  | none => rfl
  | some st =>
    obtain ⟨c, hfind, rfl⟩ := Option.map_eq_some_iff.1 h
    simp only [checkStatus, h, Option.getD_some] at hst
    exact absurd hst (hfail c (List.mem_of_find?_eq_some hfind))

theorem Part.checked_refused {checks : List (Bool × Status)} (hst : checkStatus checks ≠ .success)
    (p : Part) (f : Part → Part) :
    p.checked checks f = p.endCommand (checkStatus checks) 0#32 := by
  unfold Part.checked checkStatus at *
  cases h : firstFailure checks with
  | none => simp [h] at hst
  | some st => rfl

theorem pageAligned_eq_false_iff (base : HostAddr) :
    pageAligned base = false ↔ base.toNat % 4096 ≠ 0 := by
  simp [pageAligned, BitVec.toNat_eq]

/-! ### Arrival (R149) -/

/-- The command fetch has been reported with `rec`, which is the command in progress. -/
def Part.taken (p : Part) (rec : Block) : Part :=
  p.closeAccess.onAdmin fun a => { a with command := some (rec, a.consumer) }

theorem Part.arrive_eq {p : Part} (ha : Arrives p) (rec : Block) (f : Part → Part) :
    p.arrive rec f = (f (p.taken rec)).react := by
  obtain ⟨hworking, hfetching, hread⟩ := ha
  simp [Part.arrive, Part.taken, hread, hworking, hfetching]

/-- `q` is `p` but for the Host Port, the Administration Unit, the Notice Unit and the Completion Unit. -/
def Part.OffBus (p q : Part) : Prop :=
  ∃ h a n c, q = { p with host := h, admin := a, notices := n, compl := c }

/-- `q` is `p` but for the Notice Unit and the Completion Unit. -/
def Part.Configures (p q : Part) : Prop := ∃ n c, q = { p with notices := n, compl := c }

theorem Part.Configures.refl (p : Part) : p.Configures p := ⟨_, _, rfl⟩

theorem Part.offBus_endCommand {p q : Part} {rec : Block} (hq : (p.taken rec).Configures q)
    (st : Status) (result : BitVec 32) : p.OffBus (q.endCommand st result) := by
  obtain ⟨n, c, rfl⟩ := hq
  exact ⟨_, _, _, _, rfl⟩

/-! ### The reaction and the port -/

theorem Part.OffBus.movePort {p q : Part} (h : p.OffBus q) :
    q.movePort = { q with port := p.movePort.port } := by
  obtain ⟨_, _, _, _, hq⟩ := h
  have hset : q.reportedSet = p.reportedSet := by rw [hq]; rfl
  have hempty : q.setStaysEmpty = p.setStaysEmpty := by rw [hq]; rfl
  have hhold : q.noHoldComes = p.noHoldComes := by rw [hq]; rfl
  have hport : q.port = p.port := by rw [hq]
  have hmaster : q.master = p.master := by rw [hq]
  simp only [Part.movePort, hset, hempty, hhold, hport, hmaster]
  (repeat' split) <;> rw [hq] <;> rfl

theorem Part.OffBus.driveLevel {p q : Part} (h : p.OffBus q) :
    q.driveLevel = { q with port := p.driveLevel.port } := by
  obtain ⟨_, _, _, _, rfl⟩ := h
  rfl

/-- The port of a settled part does not move where only blocks off the backplane have changed. -/
theorem Part.OffBus.react_port {p q : Part} (h : p.OffBus q) (hp : Settled p) :
    q.react.port = p.port := by
  have hport : q.port = p.port := by obtain ⟨_, _, _, _, rfl⟩ := h; rfl
  have hmove : q.movePort = q := by rw [h.movePort, hp.port, ← hport]
  rw [q.react_port, hmove, h.driveLevel, hp.level]

/-! ### The reaction and the notice entries (R139) -/

/-- A notice entry is to be written: no write is under way, the notice ring has room, and a local event or
a notice waits. -/
def NoticeUnit.Due (n : NoticeUnit) : Prop :=
  (n.ring.present = true ∧ 1 ≤ n.ring.freeEntries ∧ n.write = none)
    ∧ (n.attached = true ∨ n.detached ≠ none ∨ n.fenced ≠ none ∨ n.earliest ≠ none)

theorem Part.askNotice_of_not_due {p : Part} (h : p.engine.state = .running → ¬p.notices.Due) :
    p.askNotice = p := by
  simp only [Part.askNotice]
  split
  case isFalse => rfl
  next hring =>
  obtain ⟨hrunning, hmay⟩ := hring
  have hnone : ¬(p.notices.attached = true ∨ p.notices.detached ≠ none ∨ p.notices.fenced ≠ none
      ∨ p.notices.earliest ≠ none) := fun hwaits => h hrunning ⟨hmay, hwaits⟩
  simp only [not_or, ne_eq, not_not] at hnone
  obtain ⟨hattached, hdetached, hfenced, hearliest⟩ := hnone
  simp [hattached, hdetached, hfenced, hearliest]

theorem Part.askNotice_write_of_due {p : Part} (hrunning : p.engine.state = .running)
    (hdue : p.notices.Due) : p.askNotice.notices.write ≠ none := by
  obtain ⟨hmay, hwaits⟩ := hdue
  simp only [Part.askNotice, if_pos (And.intro hrunning hmay)]
  split
  case isTrue => nofun
  split
  case h_1 => nofun
  split
  case h_1 => nofun
  split
  case h_1 => nofun
  simp_all

/-- In a settled part every notice entry that is due has been asked for. -/
theorem Settled.not_due {p : Part} (hp : Settled p) (hrunning : p.engine.state = .running) :
    ¬p.notices.Due := by
  intro hdue
  have hasked := Part.askNotice_write_of_due hrunning hdue
  obtain ⟨⟨-, -, hwrite⟩, -⟩ := hdue
  rw [hp.notice] at hasked
  exact hasked hwrite

theorem Part.react_notices_of_not_due {p : Part} (h : p.engine.state = .running → ¬p.notices.Due) :
    p.react.notices = p.notices := by
  rw [Part.react, Part.askCommand_notices, Part.askNotice_of_not_due (by simpa using h)]
  simp

/-! ### The reaction and the Administration Unit (R20, R148) -/

theorem Part.captureFlush_of_no_flush {p : Part}
    (h : ∀ f, p.admin.state ≠ .waiting (.flushRing f)) : p.captureFlush = p := by
  unfold Part.captureFlush
  split
  · exact absurd ‹_› (h _)
  · rfl

theorem Part.react_admin_of_no_flush {p : Part} (hflush : ∀ f, p.admin.state ≠ .waiting (.flushRing f))
    (hidle : p.admin.state ≠ .idle) : p.react.admin = p.admin := by
  have hcapture : p.movePort.driveLevel.captureFlush = p.movePort.driveLevel :=
    Part.captureFlush_of_no_flush (by simpa using hflush)
  simp [Part.react, hcapture, Part.askCommand, hidle]

/-! ### The frame of a command's end -/

/-- A block found unchanged leaves the list of those that may change. -/
theorem OnlyChanges.erase {l : List Region} {s t : State} (h : OnlyChanges l s t) {x : Region}
    (hx : x.same s.part t.part) : OnlyChanges (l.erase x) s t := by
  obtain ⟨hpending, hsame⟩ := h
  refine ⟨hpending, fun r hr => ?_⟩
  by_cases hrx : r = x
  · rw [hrx]; exact hx
  · exact hsame r fun hmem => hr ((List.mem_erase_of_ne hrx).2 hmem)

theorem Part.OffBus.onlyChanges {s : State} {q : Part} (hq : s.part.OffBus q) (hp : Settled s.part) :
    OnlyChanges [.host, .admin, .notices, .compl] s { s with part := q.react } := by
  have hport := hq.react_port hp
  obtain ⟨_, _, _, _, rfl⟩ := hq
  refine ⟨rfl, fun r hr => ?_⟩
  cases r with
  | host | admin | notices | compl => simp at hr
  | port => exact hport
  | engine | fetch | sched | windows | master | stats | out => simp [Region.same]

/-- The state in which a command that left the part as `q` has ended with a status and result 0. -/
def State.ended (s : State) (q : Part) (st : Status) : State :=
  { s with part := (q.endCommand st 0#32).react }

theorem Part.Configures.commandEnds {s : State} {rec : Block} {q : Part}
    (hq : (s.part.taken rec).Configures q) (st : Status) :
    CommandEnds s (s.ended q st) rec st 0#32 := by
  obtain ⟨n, c, rfl⟩ := hq
  have hadmin := Part.react_admin_of_no_flush
    (p := Part.endCommand { s.part.taken rec with notices := n, compl := c } st 0#32) nofun nofun
  constructor <;> simp only [State.ended, hadmin, Part.react_compl, Part.react_host_outstanding] <;> rfl

theorem Part.Configures.onlyChanges {s : State} {rec : Block} {q : Part}
    (hq : (s.part.taken rec).Configures q) (hp : Settled s.part) (st : Status) :
    OnlyChanges [.host, .admin, .notices, .compl] s (s.ended q st) :=
  (Part.offBus_endCommand hq st 0#32).onlyChanges hp

/-- The Notice Unit is as the command leaves it, where that makes no entry due. -/
theorem Part.Configures.notices {s : State} {rec : Block} {q : Part}
    (hq : (s.part.taken rec).Configures q) (hp : Settled s.part) (st : Status)
    (hdue : q.notices.Due → s.part.notices.Due) : (s.ended q st).part.notices = q.notices := by
  obtain ⟨n, c, rfl⟩ := hq
  exact Part.react_notices_of_not_due fun hrunning h => hp.not_due hrunning (hdue h)

theorem Part.Configures.onlyChanges_compl {s : State} {rec : Block} {q : Part}
    (hq : (s.part.taken rec).Configures q) (hp : Settled s.part) (st : Status)
    (hn : q.notices = s.part.notices) : OnlyChanges [.host, .admin, .compl] s (s.ended q st) :=
  (hq.onlyChanges hp st).erase (x := .notices)
    ((hq.notices hp st (by rw [hn]; exact id)).trans hn)

theorem State.ended_cring (s : State) (q : Part) (st : Status) (c : Fin 8) :
    (s.ended q st).part.cring c = q.cring c := by
  simp only [State.ended, Part.react_cring]; rfl

theorem State.ended_fifo (s : State) (q : Part) (st : Status) :
    (s.ended q st).part.compl.fifo = q.compl.fifo := by
  simp only [State.ended, Part.react_compl]; rfl

theorem State.andThen_arrive {s : State} (ha : Arrives s.part) (rec : Block) (f : Part → Part) :
    s.andThen (fun p => p.arrive rec f) = .next { s with part := (f (s.part.taken rec)).react } := by
  rw [State.andThen, Part.arrive_eq ha]

theorem State.andThen_refused {s : State} (ha : Arrives s.part) {rec : Block}
    {checks : Part → List (Bool × Status)} {st : Status}
    (hst : checkStatus (checks (s.part.taken rec)) = st) (hne : st ≠ .success) (f : Part → Part) :
    s.andThen (fun p => p.arrive rec fun p => p.checked (checks p) f) =
      .next (s.ended (s.part.taken rec) st) := by
  subst hst
  rw [State.andThen_arrive ha, Part.checked_refused hne, State.ended]

theorem State.andThen_accepted {s : State} (ha : Arrives s.part) {rec : Block}
    {checks : Part → List (Bool × Status)} (hfail : ∀ c ∈ checks (s.part.taken rec), c.2 ≠ .success)
    (hst : checkStatus (checks (s.part.taken rec)) = .success) (f : Part → Part) :
    s.andThen (fun p => p.arrive rec fun p => p.checked (checks p) f) =
      .next { s with part := (f (s.part.taken rec)).react } := by
  rw [State.andThen_arrive ha, Part.checked_success hfail hst]

/-- A command that ends at once ends with the status of its checks, its effect `g` made where that is
SUCCESS. -/
theorem State.andThen_checked {s : State} (ha : Arrives s.part) {rec : Block}
    {checks : Part → List (Bool × Status)} {st : Status}
    (hfail : ∀ c ∈ checks (s.part.taken rec), c.2 ≠ .success)
    (hst : checkStatus (checks (s.part.taken rec)) = st) {f g : Part → Part}
    (hf : ∀ p, f p = (g p).endCommand .success 0#32) :
    s.andThen (fun p => p.arrive rec fun p => p.checked (checks p) f) =
      .next (s.ended (if st = .success then g (s.part.taken rec) else s.part.taken rec) st) := by
  by_cases hs : st = .success
  · subst hs
    rw [State.andThen_accepted ha hfail hst, hf, if_pos rfl, State.ended]
  · rw [State.andThen_refused ha hst hs, if_neg hs]

/-- A refused command, and one with no effect of its own, changes no block but those its end changes. -/
theorem State.ended_taken {s : State} (hp : Settled s.part) (rec : Block) (st : Status) :
    CommandEnds s (s.ended (s.part.taken rec) st) rec st 0#32
      ∧ OnlyChanges [.host, .admin, .compl] s (s.ended (s.part.taken rec) st) :=
  have hq := Part.Configures.refl (s.part.taken rec)
  ⟨hq.commandEnds st, hq.onlyChanges_compl hp st rfl⟩

end Sys2Proof.Machine
end

section
/-! UNKNOWN_COMMAND, CREATE_CRING and DELETE_CRING (R112 to R114, R150, R153): the status of the checks in
order, and the completion ring that the command leaves. -/

namespace Sys2Proof.Machine

theorem cmdRing_eq {rec : Block} {c : Fin 8} (hc : cmdTarget rec = c.val) : cmdRing rec = c := by
  simp [cmdRing, hc]

theorem execUnknownCommand_eq {s : State} (ha : Arrives s.part) (rec : Block) :
    exec (.unknownCommand rec) s = .next (s.ended (s.part.taken rec) .unknownCommand) :=
  State.andThen_arrive ha rec _

/-- CREATE_CRING's new ring (R113). -/
def createdRing (rec : Block) : CompletionRing :=
  { present := true, base := longAt rec 0x08, size := cmdHalf rec 0x10,
    vector := Fin.ofNat 16 (cmdByte rec 0x12), producer := 0, consumer := 0, phase := true,
    reserved := 0, armed := false, armPending := false }

theorem execCreateCring_eq {s : State} (ha : Arrives s.part) (rec : Block) {st : Status}
    (hst : checkStatus (s.part.createCringChecks rec) = st) :
    exec (.createCring rec) s = .next (s.ended (if st = .success
      then (s.part.taken rec).modCring (cmdRing rec) fun _ => createdRing rec
      else s.part.taken rec) st) :=
  State.andThen_checked ha (by simp [Part.createCringChecks]) hst (f := (Part.createCring · rec))
    (g := fun p => p.modCring (cmdRing rec) fun _ => createdRing rec) fun _ => rfl

theorem execDeleteCring_eq {s : State} (ha : Arrives s.part) (rec : Block) {st : Status}
    (hst : checkStatus (s.part.deleteCringChecks rec) = st) :
    exec (.deleteCring rec) s = .next (s.ended (if st = .success
      then (s.part.taken rec).modCring (cmdRing rec) fun _ => .absent
      else s.part.taken rec) st) :=
  State.andThen_checked ha (by simp [Part.deleteCringChecks]) hst (f := (Part.deleteCring · rec))
    (g := fun p => p.modCring (cmdRing rec) fun _ => .absent) fun _ => rfl

theorem checkStatus_no_cring {rec : Block} (hc : 7 < cmdTarget rec) (checks : List (Bool × Status)) :
    checkStatus ((decide (cmdTarget rec < 8), .invalidField) :: checks) = .invalidField := by
  rw [checkStatus_cons, if_pos (decide_eq_false (Nat.not_lt.2 hc))]

theorem checkStatus_createCring {rec : Block} {c : Fin 8} (hc : cmdTarget rec = c.val) (p : Part) :
    checkStatus (p.createCringChecks rec) =
      if (p.cring c).present = true then .alreadyExists
      else if isPowerOfTwo 16 4096 (cmdHalf rec 0x10) = false then .invalidField
      else if (longAt rec 0x08).toNat % 4096 ≠ 0 then .invalidField
      else if cmdByte rec 0x12 < 1 ∨ 15 < cmdByte rec 0x12 then .invalidField
      else .success := by
  have hvector : ¬(1 ≤ cmdByte rec 0x12 ∧ cmdByte rec 0x12 ≤ 15)
      ↔ cmdByte rec 0x12 < 1 ∨ 15 < cmdByte rec 0x12 := by omega
  simp only [Part.createCringChecks, checkStatus_cons, checkStatus_nil, cmdRing_eq hc, hc, c.isLt,
    decide_true, Bool.true_eq_false, if_false, Bool.not_eq_false', pageAligned_eq_false_iff,
    decide_eq_false_iff_not, hvector]

theorem Part.hasBound_iff (p : Part) (c : Fin 8) :
    p.hasBound c = true ↔ ∃ r, (p.ring r).state ≠ .absent ∧ (p.ring r).bound = c := by
  simp [Part.hasBound]

theorem checkStatus_deleteCring {rec : Block} {c : Fin 8} (hc : cmdTarget rec = c.val) (p : Part) :
    checkStatus (p.deleteCringChecks rec) =
      if (p.cring c).present = false then .notFound
      else if ∃ r, (p.ring r).state ≠ .absent ∧ (p.ring r).bound = c then .inUse
      else .success := by
  simp only [Part.deleteCringChecks, checkStatus_cons, checkStatus_nil, cmdRing_eq hc, hc, c.isLt,
    decide_true, Bool.true_eq_false, if_false, Bool.not_eq_false', Part.hasBound_iff]

/-- A command on completion ring `c` has ended: the ring is `new` where the command succeeded, and no other
ring has changed (R113, R114). -/
theorem State.ended_cringCommand {s : State} (hp : Settled s.part) {rec : Block} {c : Fin 8}
    (hc : cmdTarget rec = c.val) (new : CompletionRing) (st : Status) :
    ∀ t, t = s.ended (if st = .success then (s.part.taken rec).modCring (cmdRing rec) fun _ => new
        else s.part.taken rec) st →
      CommandEnds s t rec st 0#32 ∧ OnlyChanges [.host, .admin, .compl] s t
      ∧ (∀ d, d ≠ c → t.part.cring d = s.part.cring d)
      ∧ (st ≠ .success → t.part.cring c = s.part.cring c)
      ∧ (st = .success → t.part.cring c = new) := by
  rintro t rfl
  rw [cmdRing_eq hc]
  by_cases hst : st = .success
  · have hq : (s.part.taken rec).Configures ((s.part.taken rec).modCring c fun _ => new) := ⟨_, _, rfl⟩
    rw [if_pos hst]
    refine ⟨hq.commandEnds st, hq.onlyChanges_compl hp st rfl, fun d hd => ?_, fun h => absurd hst h,
      fun _ => ?_⟩
    · rw [State.ended_cring, Part.modCring_cring, if_neg hd]; rfl
    · rw [State.ended_cring, Part.modCring_cring, if_pos rfl]
  · obtain ⟨hend, honly⟩ := State.ended_taken hp rec st
    rw [if_neg hst]
    exact ⟨hend, honly, fun d _ => State.ended_cring s _ st d, fun _ => State.ended_cring s _ st c,
      fun h => absurd h hst⟩

/-- Settles O52. Each command's status is that of its checks in order, and its end changes the completion
ring it names or none. -/
theorem completionRingCommands : Obligations.CompletionRingCommands := by
  intro s rec hp ha
  refine ⟨?_, fun hc => ⟨?_, ?_⟩, fun c hc => ⟨?_, ?_⟩⟩
  · obtain ⟨hend, honly⟩ := State.ended_taken hp rec .unknownCommand
    exact ⟨_, execUnknownCommand_eq ha rec, hend, State.ended_cring s _ _,
      State.ended_fifo s _ _, honly⟩
  · obtain ⟨hend, honly⟩ := State.ended_taken hp rec .invalidField
    exact ⟨_, execCreateCring_eq ha rec (checkStatus_no_cring hc _), hend,
      State.ended_cring s _ _, honly⟩
  · obtain ⟨hend, honly⟩ := State.ended_taken hp rec .invalidField
    exact ⟨_, execDeleteCring_eq ha rec (checkStatus_no_cring hc _), hend,
      State.ended_cring s _ _, honly⟩
  · exact ⟨_, _, execCreateCring_eq ha rec (checkStatus_createCring hc _), rfl,
      State.ended_cringCommand hp hc (createdRing rec) _ _ rfl⟩
  · exact ⟨_, _, execDeleteCring_eq ha rec (checkStatus_deleteCring hc _), rfl,
      State.ended_cringCommand hp hc .absent _ _ rfl⟩

end Sys2Proof.Machine
end

section
/-! SET_NODE, SET_FILTER and SET_NOTICE_RING (R130, R138, R158, R159): the status of the checks in order, and
what the command leaves of the Notice Unit. -/

namespace Sys2Proof.Machine

/-! ### SET_NODE (R130, R158) -/

/-- The Notice Unit with a node id set (R130). -/
def NoticeUnit.withNode (n : NoticeUnit) (rec : Block) : NoticeUnit :=
  { n with nodeId := some (BitVec.ofNat 5 (cmdTarget rec)) }

theorem NoticeUnit.due_of_withNode (rec : Block) (n : NoticeUnit) (h : (n.withNode rec).Due) : n.Due :=
  h

theorem execSetNode_eq {s : State} (ha : Arrives s.part) (rec : Block) {st : Status}
    (hst : checkStatus (s.part.setNodeChecks rec) = st) :
    exec (.setNode rec) s = .next (s.ended (if st = .success
      then (s.part.taken rec).onNotices fun n => n.withNode rec else s.part.taken rec) st) :=
  State.andThen_checked ha (by simp [Part.setNodeChecks]) hst
    (g := fun p => p.onNotices fun n => n.withNode rec) fun _ => rfl

theorem checkStatus_setNode (p : Part) (rec : Block) :
    checkStatus (p.setNodeChecks rec) =
      if p.port.state ≠ .detached then .portActive
      else if 31 < cmdTarget rec then .invalidField else .success := by
  simp only [Part.setNodeChecks, checkStatus_cons, checkStatus_nil, beq_eq_false_iff_ne, ne_eq,
    decide_eq_false_iff_not, not_le]

/-- A command on the Notice Unit has ended: the unit is changed by `f`, which makes no entry due, where the
command succeeded. -/
theorem State.ended_noticeCommand {s : State} (hp : Settled s.part) {rec : Block}
    {f : NoticeUnit → NoticeUnit} (hdue : ∀ n, (f n).Due → n.Due) (st : Status) :
    ∀ t, t = s.ended (if st = .success then (s.part.taken rec).onNotices f else s.part.taken rec) st →
      CommandEnds s t rec st 0#32 ∧ OnlyChanges [.host, .admin, .notices, .compl] s t
      ∧ t.part.notices = if st = .success then f s.part.notices else s.part.notices := by
  rintro t rfl
  by_cases hst : st = .success
  · have hq : (s.part.taken rec).Configures ((s.part.taken rec).onNotices f) := ⟨_, _, rfl⟩
    rw [if_pos hst, if_pos hst]
    exact ⟨hq.commandEnds st, hq.onlyChanges hp st, hq.notices hp st (hdue _)⟩
  · have hq := Part.Configures.refl (s.part.taken rec)
    rw [if_neg hst, if_neg hst]
    exact ⟨hq.commandEnds st, hq.onlyChanges hp st, hq.notices hp st id⟩

/-! ### SET_FILTER (R134, R159) -/

/-- The Notice Unit with the default action set, for target FFh, or one filter entry (R159). -/
def NoticeUnit.withFilter (n : NoticeUnit) (rec : Block) : NoticeUnit :=
  if cmdTarget rec = 0xFF then { n with defaultAccept := cmdByte rec 0x12 == 0 }
  else { n with filters := tabUpdate n.filters (cmdWindow rec) fun _ => filterOf rec }

theorem NoticeUnit.due_of_withFilter (rec : Block) (n : NoticeUnit) (h : (n.withFilter rec).Due) :
    n.Due := by
  unfold NoticeUnit.withFilter at h
  split at h <;> exact h

theorem Part.setFilter_eq (p : Part) (rec : Block) :
    p.setFilter rec = (p.onNotices fun n => n.withFilter rec).endCommand .success 0#32 := by
  unfold Part.setFilter NoticeUnit.withFilter
  split <;> rfl

theorem execSetFilter_eq {s : State} (ha : Arrives s.part) (rec : Block) {st : Status}
    (hst : checkStatus (setFilterChecks rec) = st) :
    exec (.setFilter rec) s = .next (s.ended (if st = .success
      then (s.part.taken rec).onNotices fun n => n.withFilter rec else s.part.taken rec) st) :=
  State.andThen_checked ha (by simp [setFilterChecks]) hst
    (f := (Part.setFilter · rec)) (g := fun p => p.onNotices fun n => n.withFilter rec)
    (Part.setFilter_eq · rec)

theorem checkStatus_setFilter (rec : Block) :
    checkStatus (setFilterChecks rec) =
      if 15 < cmdTarget rec ∧ cmdTarget rec ≠ 0xFF then .invalidField
      else if cmdTarget rec = 0xFF ∧ cmdByte rec 0x12 ≠ 0 ∧ cmdByte rec 0x12 ≠ 2 then .invalidField
      else if cmdTarget rec ≠ 0xFF ∧ 2 < cmdByte rec 0x12 then .invalidField
      else .success := by
  have htarget : ¬cmdTarget rec < 16 ↔ 15 < cmdTarget rec := by omega
  by_cases hff : cmdTarget rec = 0xFF
  · simp [setFilterChecks, checkStatus_cons, checkStatus_nil, hff]
  · simp [setFilterChecks, checkStatus_cons, checkStatus_nil, hff, htarget]

theorem filterOf_eq (rec : Block) :
    filterOf rec =
      { enabled := (byteAt rec 0x08).getLsbD 0, sourceValue := halfAt rec 0x0A,
        sourceMask := halfAt rec 0x0C, codeValue := halfAt rec 0x0E, codeMask := halfAt rec 0x10,
        action := if cmdByte rec 0x12 = 0 then .accept
          else if cmdByte rec 0x12 = 1 then .urgent else .reject } := by
  unfold filterOf
  split <;> simp_all

theorem NoticeUnit.withFilter_default {rec : Block} (h : cmdTarget rec = 0xFF) (n : NoticeUnit) :
    n.withFilter rec = { n with defaultAccept := decide (cmdByte rec 0x12 = 0) } :=
  if_pos h

theorem NoticeUnit.withFilter_entry {rec : Block} {f : Fin 16} (h : cmdTarget rec = f.val)
    (n : NoticeUnit) :
    (n.withFilter rec).filters.get f = filterOf rec
      ∧ (∀ g, g ≠ f → (n.withFilter rec).filters.get g = n.filters.get g)
      ∧ (n.withFilter rec).defaultAccept = n.defaultAccept := by
  have hff : cmdTarget rec ≠ 0xFF := by omega
  have hf : cmdWindow rec = f := by simp [cmdWindow, h]
  rw [NoticeUnit.withFilter, if_neg hff, hf]
  exact ⟨tabUpdate_same .., fun g hg => tabUpdate_other _ _ hg, rfl⟩

/-! ### SET_NOTICE_RING (R138, R158) -/

/-- SET_NOTICE_RING's new ring (R138). -/
def createdNoticeRing (rec : Block) : NoticeRing :=
  { present := true, base := longAt rec 0x08, size := cmdHalf rec 0x10,
    normalVector := Fin.ofNat 16 (cmdByte rec 0x12),
    urgentVector := Fin.ofNat 16 (cmdByte rec 0x13), producer := 0, consumer := 0,
    phase := true, normalArmed := false, urgentArmed := false, armPending := false,
    lastUrgent := none }

/-- What a SET_NOTICE_RING held back waits to make its effect with (R138). -/
def heldNoticeRing (rec : Block) : Waiting :=
  .noticeRing (longAt rec 0x08) (cmdHalf rec 0x10) (Fin.ofNat 16 (cmdByte rec 0x12))
    (Fin.ofNat 16 (cmdByte rec 0x13))

theorem Part.setNoticeRing_at_once {p : Part} (h : p.notices.write = none) (rec : Block) :
    p.setNoticeRing rec = (p.onNotices fun n => { n with ring := createdNoticeRing rec }).endCommand
      .success 0#32 := by
  simp only [Part.setNoticeRing, h]; rfl

theorem Part.setNoticeRing_held {p : Part} (h : p.notices.write.isSome = true) (rec : Block) :
    p.setNoticeRing rec = p.waitFor (heldNoticeRing rec) :=
  if_pos h

theorem execSetNoticeRing_refused {s : State} (ha : Arrives s.part) {rec : Block} {st : Status}
    (hst : checkStatus (s.part.setNoticeRingChecks rec) = st) (hne : st ≠ .success) :
    exec (.setNoticeRing rec) s = .next (s.ended (s.part.taken rec) st) :=
  State.andThen_refused ha hst hne _

theorem execSetNoticeRing_accepted {s : State} (ha : Arrives s.part) {rec : Block}
    (hst : checkStatus (s.part.setNoticeRingChecks rec) = .success) :
    exec (.setNoticeRing rec) s =
      .next { s with part := ((s.part.taken rec).setNoticeRing rec).react } :=
  State.andThen_accepted ha (by simp [Part.setNoticeRingChecks]) hst _

theorem checkStatus_setNoticeRing (p : Part) (rec : Block) :
    checkStatus (p.setNoticeRingChecks rec) =
      if p.port.state ≠ .detached then .portActive
      else if ∃ b, (p.entry b).state ≠ .free then .inUse
      else if isPowerOfTwo 16 1024 (cmdHalf rec 0x10) = false
        ∨ (longAt rec 0x08).toNat % 4096 ≠ 0 ∨ cmdByte rec 0x12 < 1 ∨ 15 < cmdByte rec 0x12
        ∨ cmdByte rec 0x13 < 1 ∨ 15 < cmdByte rec 0x13 then .invalidField
      else .success := by
  have hbuffer : ((List.finRange 4).all fun b => (p.entry b).state == .free) = false
      ↔ ∃ b, (p.entry b).state ≠ .free := by simp
  have hvector (n : Nat) : ¬(1 ≤ n ∧ n ≤ 15) ↔ n < 1 ∨ 15 < n := by omega
  simp only [Part.setNoticeRingChecks, checkStatus_cons, checkStatus_nil, beq_eq_false_iff_ne,
    hbuffer, Bool.and_eq_false_iff, pageAligned_eq_false_iff, decide_eq_false_iff_not, hvector,
    or_assoc]

/-- A SET_NOTICE_RING that waits for a local event's entry changes nothing but the Administration Unit (R138,
R152). -/
theorem State.held_noticeRing {s : State} (hp : Settled s.part) (rec : Block) :
    ∀ t, t = { s with part := ((s.part.taken rec).waitFor (heldNoticeRing rec)).react } →
      t.part.notices = s.part.notices ∧ t.part.admin.state = .waiting (heldNoticeRing rec)
      ∧ OnlyChanges [.host, .admin] s t := by
  rintro t rfl
  have hoff : s.part.OffBus ((s.part.taken rec).waitFor (heldNoticeRing rec)) := ⟨_, _, _, _, rfl⟩
  have hnotices : ((s.part.taken rec).waitFor (heldNoticeRing rec)).react.notices = s.part.notices :=
    Part.react_notices_of_not_due hp.not_due
  have hadmin := Part.react_admin_of_no_flush
    (p := (s.part.taken rec).waitFor (heldNoticeRing rec)) nofun nofun
  have hcompl : ((s.part.taken rec).waitFor (heldNoticeRing rec)).react.compl = s.part.compl :=
    Part.react_compl _
  exact ⟨hnotices, congrArg AdminUnit.state hadmin,
    ((hoff.onlyChanges hp).erase (x := .notices) hnotices).erase (x := .compl) hcompl⟩

/-- Settles O58. Each command's status is that of its checks in order; none of them makes a notice entry
due but SET_NOTICE_RING, whose new ring the reaction leaves as it is. -/
theorem noticeConfigurationCommands : Obligations.NoticeConfigurationCommands := by
  intro s rec hp ha
  refine ⟨?_, ?_, ?_⟩
  · exact ⟨_, _, execSetNode_eq ha rec (checkStatus_setNode _ rec), rfl,
      State.ended_noticeCommand hp (NoticeUnit.due_of_withNode rec) _ _ rfl⟩
  · obtain ⟨hend, honly, hnotices⟩ := State.ended_noticeCommand hp (rec := rec)
      (NoticeUnit.due_of_withFilter rec) (checkStatus (setFilterChecks rec)) _ rfl
    refine ⟨_, _, execSetFilter_eq ha rec rfl, checkStatus_setFilter rec, hend, honly, fun hst => ?_,
      fun hst hff => ?_, fun hst f hf => ?_⟩
    · rw [hnotices, if_neg hst]
    · rw [hnotices, if_pos hst, NoticeUnit.withFilter_default hff]
    · rw [hnotices, if_pos hst, ← filterOf_eq]
      exact NoticeUnit.withFilter_entry hf _
  · rintro st hst
    rw [← checkStatus_setNoticeRing] at hst
    refine ⟨fun hne => ?_, fun hsuccess hwrite => ?_, fun hsuccess hwrite => ?_⟩
    · exact ⟨_, execSetNoticeRing_refused ha hst.symm hne, State.ended_taken hp rec st⟩
    · have hexec := execSetNoticeRing_accepted ha (hst.symm.trans hsuccess)
      rw [Part.setNoticeRing_at_once (p := s.part.taken rec) hwrite] at hexec
      have hq : (s.part.taken rec).Configures
          ((s.part.taken rec).onNotices fun n => { n with ring := createdNoticeRing rec }) :=
        ⟨_, _, rfl⟩
      subst hsuccess
      exact ⟨_, hexec, hq.commandEnds .success, Part.react_notices_ring _, hq.onlyChanges hp .success⟩
    · have hexec := execSetNoticeRing_accepted ha (hst.symm.trans hsuccess)
      rw [Part.setNoticeRing_held (p := s.part.taken rec) hwrite] at hexec
      exact ⟨_, hexec, State.held_noticeRing hp rec _ rfl⟩

end Sys2Proof.Machine
end

section
/-! Which blocks each shared operation of the part may change: one lemma per operation, so that what a command
leaves alone is read off its parts. -/

-- One declaration at a time: every further thread counts against the memory the check allows.
set_option Elab.async false

namespace Sys2Proof.Machine

/-- `q` agrees with `p` on every block but those listed. -/
def Part.Keeps (l : List Region) (p q : Part) : Prop := ∀ r : Region, r ∉ l → r.same p q

variable {p q r : Part} {l l' : List Region}

/-! ### The relation -/

theorem onlyChanges_iff {s t : State} :
    OnlyChanges l s t ↔ t.pending = s.pending ∧ s.part.Keeps l t.part := Iff.rfl

theorem Part.keeps_self (l : List Region) (p : Part) : p.Keeps l p := by
  rintro (_ | _) - <;> rfl

theorem Part.Keeps.mono (h : p.Keeps l q) (hl : l ⊆ l') : p.Keeps l' q :=
  fun r hr => h r fun hmem => hr (hl hmem)

theorem Part.Keeps.trans (h : p.Keeps l q) (h' : q.Keeps l r) : p.Keeps l r := by
  intro b hb
  have h := h b hb
  have h' := h' b hb
  cases b <;> exact Eq.trans h' h

theorem Part.Keeps.symm (h : p.Keeps l q) : q.Keeps l p := by
  intro b hb
  have h := h b hb
  cases b <;> exact Eq.symm h

theorem Part.Keeps.engine (h : p.Keeps l q) (hl : .engine ∉ l := by decide) : q.engine = p.engine :=
  h .engine hl
theorem Part.Keeps.host (h : p.Keeps l q) (hl : .host ∉ l := by decide) : q.host = p.host :=
  h .host hl
theorem Part.Keeps.admin (h : p.Keeps l q) (hl : .admin ∉ l := by decide) : q.admin = p.admin :=
  h .admin hl
theorem Part.Keeps.fetch (h : p.Keeps l q) (hl : .fetch ∉ l := by decide) : q.fetch = p.fetch :=
  h .fetch hl
theorem Part.Keeps.sched (h : p.Keeps l q) (hl : .sched ∉ l := by decide) : q.sched = p.sched :=
  h .sched hl
theorem Part.Keeps.windows (h : p.Keeps l q) (hl : .windows ∉ l := by decide) :
    q.windows = p.windows := h .windows hl
theorem Part.Keeps.master (h : p.Keeps l q) (hl : .master ∉ l := by decide) : q.master = p.master :=
  h .master hl
theorem Part.Keeps.port (h : p.Keeps l q) (hl : .port ∉ l := by decide) : q.port = p.port :=
  h .port hl
theorem Part.Keeps.notices (h : p.Keeps l q) (hl : .notices ∉ l := by decide) :
    q.notices = p.notices := h .notices hl
theorem Part.Keeps.compl (h : p.Keeps l q) (hl : .compl ∉ l := by decide) : q.compl = p.compl :=
  h .compl hl
theorem Part.Keeps.stats (h : p.Keeps l q) (hl : .stats ∉ l := by decide) : q.stats = p.stats :=
  h .stats hl
theorem Part.Keeps.out (h : p.Keeps l q) (hl : .out ∉ l := by decide) : q.out = p.out :=
  h .out hl

theorem Part.Keeps.ring (h : p.Keeps l q) (i : Fin 8) (hl : .fetch ∉ l := by decide) :
    q.ring i = p.ring i := by rw [Part.ring, h.fetch hl, Part.ring]
theorem Part.Keeps.slot (h : p.Keeps l q) (k : Fin 8) (hl : .sched ∉ l := by decide) :
    q.slot k = p.slot k := by rw [Part.slot, h.sched hl, Part.slot]
theorem Part.Keeps.window (h : p.Keeps l q) (w : Fin 16) (hl : .windows ∉ l := by decide) :
    q.window w = p.window w := by rw [Part.window, h.windows hl, Part.window]
theorem Part.Keeps.cring (h : p.Keeps l q) (c : Fin 8) (hl : .compl ∉ l := by decide) :
    q.cring c = p.cring c := by rw [Part.cring, h.compl hl, Part.cring]
theorem Part.Keeps.entry (h : p.Keeps l q) (b : Fin 4) (hl : .notices ∉ l := by decide) :
    q.entry b = p.entry b := by rw [Part.entry, h.notices hl, Part.entry]
theorem Part.Keeps.request (h : p.Keeps l q) (x : Source) (hl : .host ∉ l := by decide) :
    q.request x = p.request x := by rw [Part.request, h.host hl, Part.request]

/-- A change within the blocks listed makes no difference to what is kept. -/
theorem Part.Keeps.iff (h : q.Keeps l' r) (hl : l' ⊆ l) : p.Keeps l r ↔ p.Keeps l q :=
  ⟨fun hr => hr.trans (h.mono hl).symm, fun hq => hq.trans (h.mono hl)⟩

/-! ### The update of one block -/

/-- A block not listed is left alone, so the lemmas on single blocks show that a change is within `l`. -/
theorem Part.Keeps.of_blocks (h : ∀ b : Region, b ∈ l ∨ b.same p q) : p.Keeps l q :=
  fun b hb => (h b).resolve_left hb

@[simp] theorem Part.keeps_onEngine (f : Engine → Engine) (hl : [.engine] ⊆ l) :
    p.Keeps l (q.onEngine f) ↔ p.Keeps l q :=
  Keeps.iff (.of_blocks fun b => by cases b <;> simp [Region.same]) hl

@[simp] theorem Part.keeps_onHost (f : HostPort → HostPort) (hl : [.host] ⊆ l) :
    p.Keeps l (q.onHost f) ↔ p.Keeps l q :=
  Keeps.iff (.of_blocks fun b => by cases b <;> simp [Region.same]) hl

@[simp] theorem Part.keeps_onAdmin (f : AdminUnit → AdminUnit) (hl : [.admin] ⊆ l) :
    p.Keeps l (q.onAdmin f) ↔ p.Keeps l q :=
  Keeps.iff (.of_blocks fun b => by cases b <;> simp [Region.same]) hl

@[simp] theorem Part.keeps_onFetch (f : FetchUnit → FetchUnit) (hl : [.fetch] ⊆ l) :
    p.Keeps l (q.onFetch f) ↔ p.Keeps l q :=
  Keeps.iff (.of_blocks fun b => by cases b <;> simp [Region.same]) hl

@[simp] theorem Part.keeps_onSched (f : Scheduler → Scheduler) (hl : [.sched] ⊆ l) :
    p.Keeps l (q.onSched f) ↔ p.Keeps l q :=
  Keeps.iff (.of_blocks fun b => by cases b <;> simp [Region.same]) hl

@[simp] theorem Part.keeps_onWindows (f : Vector Window 16 → Vector Window 16) (hl : [.windows] ⊆ l) :
    p.Keeps l (q.onWindows f) ↔ p.Keeps l q :=
  Keeps.iff (.of_blocks fun b => by cases b <;> simp [Region.same]) hl

@[simp] theorem Part.keeps_onMaster (f : Master → Master) (hl : [.master] ⊆ l) :
    p.Keeps l (q.onMaster f) ↔ p.Keeps l q :=
  Keeps.iff (.of_blocks fun b => by cases b <;> simp [Region.same]) hl

@[simp] theorem Part.keeps_onPort (f : Port → Port) (hl : [.port] ⊆ l) :
    p.Keeps l (q.onPort f) ↔ p.Keeps l q :=
  Keeps.iff (.of_blocks fun b => by cases b <;> simp [Region.same]) hl

@[simp] theorem Part.keeps_onNotices (f : NoticeUnit → NoticeUnit) (hl : [.notices] ⊆ l) :
    p.Keeps l (q.onNotices f) ↔ p.Keeps l q :=
  Keeps.iff (.of_blocks fun b => by cases b <;> simp [Region.same]) hl

@[simp] theorem Part.keeps_onCompl (f : CompletionUnit → CompletionUnit) (hl : [.compl] ⊆ l) :
    p.Keeps l (q.onCompl f) ↔ p.Keeps l q :=
  Keeps.iff (.of_blocks fun b => by cases b <;> simp [Region.same]) hl

@[simp] theorem Part.keeps_onStats (f : Stats → Stats) (hl : [.stats] ⊆ l) :
    p.Keeps l (q.onStats f) ↔ p.Keeps l q :=
  Keeps.iff (.of_blocks fun b => by cases b <;> simp [Region.same]) hl

@[simp] theorem Part.keeps_emit (o : Output) (hl : [.out] ⊆ l) :
    p.Keeps l (q.emit o) ↔ p.Keeps l q :=
  Keeps.iff (.of_blocks fun b => by cases b <;> simp [Region.same]) hl

@[simp] theorem Part.keeps_modRing (i : Fin 8) (f : SubmissionRing → SubmissionRing) (hl : [.fetch] ⊆ l) :
    p.Keeps l (q.modRing i f) ↔ p.Keeps l q :=
  Keeps.iff (.of_blocks fun b => by cases b <;> simp [Region.same]) hl

@[simp] theorem Part.keeps_modSlot (i : Fin 8) (f : Slot → Slot) (hl : [.sched] ⊆ l) :
    p.Keeps l (q.modSlot i f) ↔ p.Keeps l q :=
  Keeps.iff (.of_blocks fun b => by cases b <;> simp [Region.same]) hl

@[simp] theorem Part.keeps_modWindow (i : Fin 16) (f : Window → Window) (hl : [.windows] ⊆ l) :
    p.Keeps l (q.modWindow i f) ↔ p.Keeps l q :=
  Keeps.iff (.of_blocks fun b => by cases b <;> simp [Region.same]) hl

@[simp] theorem Part.keeps_modCring (i : Fin 8) (f : CompletionRing → CompletionRing) (hl : [.compl] ⊆ l) :
    p.Keeps l (q.modCring i f) ↔ p.Keeps l q :=
  Keeps.iff (.of_blocks fun b => by cases b <;> simp [Region.same]) hl

@[simp] theorem Part.keeps_modEntry (i : Fin 4) (f : BufferEntry → BufferEntry) (hl : [.notices] ⊆ l) :
    p.Keeps l (q.modEntry i f) ↔ p.Keeps l q :=
  Keeps.iff (.of_blocks fun b => by cases b <;> simp [Region.same]) hl

@[simp] theorem Part.keeps_modBank (w : Fin 16) (b : Nat) (f : Bank → Bank) (hl : [.windows] ⊆ l) :
    p.Keeps l (q.modBank w b f) ↔ p.Keeps l q :=
  Keeps.iff (.of_blocks fun b => by cases b <;> simp [Region.same]) hl

@[simp] theorem Part.keeps_modOperation (f : Operation → Operation) (hl : [.master] ⊆ l) :
    p.Keeps l (q.modOperation f) ↔ p.Keeps l q :=
  Keeps.iff (.of_blocks fun b => by cases b <;> simp [Region.same]) hl

@[simp] theorem Part.keeps_clearBars (hl : [.fetch] ⊆ l) :
    p.Keeps l (q.clearBars) ↔ p.Keeps l q :=
  Keeps.iff (.of_blocks fun b => by cases b <;> simp [Region.same]) hl

@[simp] theorem Part.keeps_clearDeferred (hl : [.sched] ⊆ l) :
    p.Keeps l (q.clearDeferred) ↔ p.Keeps l q :=
  Keeps.iff (.of_blocks fun b => by cases b <;> simp [Region.same]) hl

@[simp] theorem Part.keeps_considerSlots (hl : [.sched] ⊆ l) :
    p.Keeps l (q.considerSlots) ↔ p.Keeps l q :=
  Keeps.iff (.of_blocks fun b => by cases b <;> simp [Region.same]) hl

@[simp] theorem Part.keeps_reserve (c : Fin 8) (hl : [.compl] ⊆ l) :
    p.Keeps l (q.reserve c) ↔ p.Keeps l q :=
  Keeps.iff (.of_blocks fun b => by cases b <;> simp [Region.same]) hl

@[simp] theorem Part.keeps_endHold (hl : [.port] ⊆ l) :
    p.Keeps l (q.endHold) ↔ p.Keeps l q :=
  Keeps.iff (.of_blocks fun b => by cases b <;> simp [Region.same]) hl

@[simp] theorem Part.keeps_markFlight (i : Fin 8) (hl : [.fetch] ⊆ l) :
    p.Keeps l (q.markFlight i) ↔ p.Keeps l q :=
  Keeps.iff (.of_blocks fun b => by cases b <;> simp [Region.same]) hl

@[simp] theorem Part.keeps_ask (x : Source) (a : Access) (hl : [.host] ⊆ l) :
    p.Keeps l (q.ask x a) ↔ p.Keeps l q :=
  Keeps.iff (.of_blocks fun b => by cases b <;> simp [Region.same]) hl

@[simp] theorem Part.keeps_closeAccess (hl : [.host] ⊆ l) :
    p.Keeps l (q.closeAccess) ↔ p.Keeps l q :=
  Keeps.iff (.of_blocks fun b => by cases b <;> simp [Region.same]) hl

@[simp] theorem Part.keeps_dropReceiving (hl : [.notices] ⊆ l) :
    p.Keeps l (q.dropReceiving) ↔ p.Keeps l q :=
  Keeps.iff (.of_blocks fun b => by cases b <;> simp [Region.same]) hl

@[simp] theorem Part.keeps_loseBanks (hl : [.windows] ⊆ l) :
    p.Keeps l (q.loseBanks) ↔ p.Keeps l q :=
  Keeps.iff (.of_blocks fun b => by cases b <;> simp [Region.same]) hl

@[simp] theorem Part.keeps_waitFor (x : Waiting) (hl : [.admin] ⊆ l) :
    p.Keeps l (q.waitFor x) ↔ p.Keeps l q :=
  Keeps.iff (.of_blocks fun b => by cases b <;> simp [Region.same]) hl

@[simp] theorem Part.keeps_masterIdle (hl : [.master] ⊆ l) :
    p.Keeps l (q.masterIdle) ↔ p.Keeps l q :=
  Keeps.iff (.of_blocks fun b => by cases b <;> simp [Region.same]) hl

@[simp] theorem Part.keeps_lowerError (hl : [.port] ⊆ l) :
    p.Keeps l (q.lowerError) ↔ p.Keeps l q :=
  Keeps.iff (.of_blocks fun b => by cases b <;> simp [Region.same]) hl

@[simp] theorem Part.keeps_dropRequests (hl : [.host] ⊆ l) :
    p.Keeps l (q.dropRequests) ↔ p.Keeps l q :=
  Keeps.iff (.of_blocks fun b => by cases b <;> simp [Region.same]) hl

@[simp] theorem Part.keeps_dropNotify (hl : [.engine] ⊆ l) :
    p.Keeps l (q.dropNotify) ↔ p.Keeps l q :=
  Keeps.iff (.of_blocks fun b => by cases b <;> simp [Region.same]) hl

@[simp] theorem Part.keeps_enterFifo (c : Completion) (hl : [.compl] ⊆ l) :
    p.Keeps l (q.enterFifo c) ↔ p.Keeps l q :=
  Keeps.iff (.of_blocks fun b => by cases b <;> simp [Region.same]) hl

@[simp] theorem Part.keeps_freed (x : Part) (c : Fin 8) (hl : [.admin, .compl] ⊆ l) :
    p.Keeps l (x.freed q c) ↔ p.Keeps l q :=
  Keeps.iff (.of_blocks fun b => by cases b <;> simp [Region.same]) hl

@[simp] theorem Part.keeps_unreserve (c : Fin 8) (hl : [.admin, .compl] ⊆ l) :
    p.Keeps l (q.unreserve c) ↔ p.Keeps l q :=
  Keeps.iff (.of_blocks fun b => by cases b <;> simp [Region.same]) hl

@[simp] theorem Part.keeps_movePort (hl : [.port] ⊆ l) :
    p.Keeps l (q.movePort) ↔ p.Keeps l q :=
  Keeps.iff (.of_blocks fun b => by cases b <;> simp [Region.same]) hl

@[simp] theorem Part.keeps_react (hl : [.host, .admin, .port, .notices] ⊆ l) :
    p.Keeps l (q.react) ↔ p.Keeps l q :=
  Keeps.iff (.of_blocks fun b => by cases b <;> simp [Region.same]) hl

/-! ### Shared operations -/

@[simp] theorem Part.keeps_refl (l : List Region) (p : Part) : p.Keeps l p := keeps_self l p

theorem Part.endCommand_keeps (p : Part) (st : Status) (x : BitVec 32) :
    p.Keeps [.admin, .compl] (p.endCommand st x) := by
  simp [Part.endCommand]

@[simp] theorem Part.keeps_endCommand (st : Status) (x : BitVec 32) (hl : [.admin, .compl] ⊆ l) :
    p.Keeps l (q.endCommand st x) ↔ p.Keeps l q := (q.endCommand_keeps _ _).iff hl

theorem Part.signal_keeps (p : Part) (v : Fin 16) :
    p.Keeps [.host, .out] (p.signal v) := by
  unfold Part.signal
  (repeat' split) <;> simp

@[simp] theorem Part.keeps_signal (v : Fin 16) (hl : [.host, .out] ⊆ l) :
    p.Keeps l (q.signal v) ↔ p.Keeps l q := (q.signal_keeps _).iff hl

theorem Part.countMerge_keeps (p : Part) (b : Bool) :
    p.Keeps [.stats] (p.countMerge b) := by
  unfold Part.countMerge
  (repeat' split) <;> simp

@[simp] theorem Part.keeps_countMerge (b : Bool) (hl : [.stats] ⊆ l) :
    p.Keeps l (q.countMerge b) ↔ p.Keeps l q := (q.countMerge_keeps _).iff hl

theorem Part.pendAttached_keeps (p : Part) :
    p.Keeps [.notices, .stats] (p.pendAttached) := by
  unfold Part.pendAttached
  (repeat' split) <;> simp

@[simp] theorem Part.keeps_pendAttached (hl : [.notices, .stats] ⊆ l) :
    p.Keeps l (q.pendAttached) ↔ p.Keeps l q := (q.pendAttached_keeps).iff hl

theorem Part.pendDetached_keeps (p : Part) (c : DetachCause) :
    p.Keeps [.notices, .stats] (p.pendDetached c) := by
  unfold Part.pendDetached
  (repeat' split) <;> simp

@[simp] theorem Part.keeps_pendDetached (c : DetachCause) (hl : [.notices, .stats] ⊆ l) :
    p.Keeps l (q.pendDetached c) ↔ p.Keeps l q := (q.pendDetached_keeps _).iff hl

theorem Part.pendFenced_keeps (p : Part) (w : Fin 16) :
    p.Keeps [.notices, .stats] (p.pendFenced w) := by
  simp [Part.pendFenced]

@[simp] theorem Part.keeps_pendFenced (w : Fin 16) (hl : [.notices, .stats] ⊆ l) :
    p.Keeps l (q.pendFenced w) ↔ p.Keeps l q := (q.pendFenced_keeps _).iff hl

theorem Part.freeSlot_keeps (p : Part) (k : Fin 8) :
    p.Keeps [.fetch, .sched] (p.freeSlot k) := by
  simp [Part.freeSlot]

@[simp] theorem Part.keeps_freeSlot (k : Fin 8) (hl : [.fetch, .sched] ⊆ l) :
    p.Keeps l (q.freeSlot k) ↔ p.Keeps l q := (q.freeSlot_keeps _).iff hl

theorem Part.leaveWindow_keeps (p : Part) (w : Option (Fin 16)) :
    p.Keeps [.windows] (p.leaveWindow w) := by
  unfold Part.leaveWindow
  (repeat' split) <;> simp

@[simp] theorem Part.keeps_leaveWindow (w : Option (Fin 16)) (hl : [.windows] ⊆ l) :
    p.Keeps l (q.leaveWindow w) ↔ p.Keeps l q := (q.leaveWindow_keeps _).iff hl

theorem Part.endHoldFor_keeps (p : Part) (i : Fin 8) (n : Nat) :
    p.Keeps [.port] (p.endHoldFor i n) := by
  unfold Part.endHoldFor
  (repeat' split) <;> simp

@[simp] theorem Part.keeps_endHoldFor (i : Fin 8) (n : Nat) (hl : [.port] ⊆ l) :
    p.Keeps l (q.endHoldFor i n) ↔ p.Keeps l q := (q.endHoldFor_keeps _ _).iff hl

theorem Part.discardAdmission_keeps (p : Part) (i : Fin 8) :
    p.Keeps [.admin, .fetch, .port, .compl] (p.discardAdmission i) := by
  unfold Part.discardAdmission
  (repeat' split) <;> simp

@[simp] theorem Part.keeps_discardAdmission (i : Fin 8) (hl : [.admin, .fetch, .port, .compl] ⊆ l) :
    p.Keeps l (q.discardAdmission i) ↔ p.Keeps l q := (q.discardAdmission_keeps _).iff hl

theorem Part.vacate_keeps (p : Part) (k : Fin 8) :
    p.Keeps [.admin, .fetch, .sched, .windows, .compl] (p.vacate k) := by
  simp only [Part.vacate]
  (repeat' split) <;> simp

@[simp] theorem Part.keeps_vacate (k : Fin 8) (hl : [.admin, .fetch, .sched, .windows, .compl] ⊆ l) :
    p.Keeps l (q.vacate k) ↔ p.Keeps l q := (q.vacate_keeps _).iff hl

theorem Part.returnSlot_keeps (p : Part) (k : Fin 8) :
    p.Keeps [.admin, .fetch, .sched, .windows, .compl, .stats] (p.returnSlot k) := by
  simp [Part.returnSlot]

@[simp] theorem Part.keeps_returnSlot (k : Fin 8) (hl : [.admin, .fetch, .sched, .windows, .compl, .stats] ⊆ l) :
    p.Keeps l (q.returnSlot k) ↔ p.Keeps l q := (q.returnSlot_keeps _).iff hl

theorem Part.foldl_keeps {α : Type} {f : Part → α → Part} (hf : ∀ p x, Part.Keeps l p (f p x)) (xs : List α)
    (p : Part) : p.Keeps l (xs.foldl f p) := by
  induction xs generalizing p with
  | nil => exact keeps_self l p
  | cons x xs ih => exact (hf p x).trans (ih _)

theorem Part.returnAll_keeps (p : Part) (i : Fin 8) :
    p.Keeps [.admin, .fetch, .sched, .windows, .compl, .stats] (p.returnAll i) := by
  exact foldl_keeps returnSlot_keeps _ p

@[simp] theorem Part.keeps_returnAll (i : Fin 8) (hl : [.admin, .fetch, .sched, .windows, .compl, .stats] ⊆ l) :
    p.Keeps l (q.returnAll i) ↔ p.Keeps l q := (q.returnAll_keeps _).iff hl

theorem Part.haltReturns_keeps (p : Part) (i : Fin 8) :
    p.Keeps [.admin, .fetch, .sched, .windows, .port, .compl, .stats] (p.haltReturns i) := by
  simp [Part.haltReturns]

@[simp] theorem Part.keeps_haltReturns (i : Fin 8) (hl : [.admin, .fetch, .sched, .windows, .port, .compl, .stats] ⊆ l) :
    p.Keeps l (q.haltReturns i) ↔ p.Keeps l q := (q.haltReturns_keeps _).iff hl

theorem Part.evict_keeps (p : Part) (k : Fin 8) :
    p.Keeps [.admin, .fetch, .sched, .windows, .compl, .stats] (p.evict k) := by
  simp [Part.evict]

@[simp] theorem Part.keeps_evict (k : Fin 8) (hl : [.admin, .fetch, .sched, .windows, .compl, .stats] ⊆ l) :
    p.Keeps l (q.evict k) ↔ p.Keeps l q := (q.evict_keeps _).iff hl

theorem Part.placeIn_keeps (p : Part) (a : Admission) (k : Fin 8) :
    p.Keeps [.fetch, .sched, .windows, .port, .stats] (p.placeIn a k) := by
  simp only [Part.placeIn]
  split <;> simp

@[simp] theorem Part.keeps_placeIn (a : Admission) (k : Fin 8) (hl : [.fetch, .sched, .windows, .port, .stats] ⊆ l) :
    p.Keeps l (q.placeIn a k) ↔ p.Keeps l q := (q.placeIn_keeps _ _).iff hl

theorem Part.attemptFails_keeps (p : Part) (a : Admission) :
    p.Keeps [.admin, .fetch, .port, .compl] (p.attemptFails a) := by
  simp [Part.attemptFails]

@[simp] theorem Part.keeps_attemptFails (a : Admission) (hl : [.admin, .fetch, .port, .compl] ⊆ l) :
    p.Keeps l (q.attemptFails a) ↔ p.Keeps l q := (q.attemptFails_keeps _).iff hl

theorem Part.place_keeps (p : Part) :
    p.Keeps [.admin, .fetch, .sched, .windows, .port, .compl, .stats] (p.place) := by
  unfold Part.place
  (repeat' split) <;> simp

@[simp] theorem Part.keeps_place (hl : [.admin, .fetch, .sched, .windows, .port, .compl, .stats] ⊆ l) :
    p.Keeps l (q.place) ↔ p.Keeps l q := (q.place_keeps).iff hl

theorem Part.handOver_keeps (p : Part) (k : Fin 8) :
    p.Keeps [.fetch, .sched, .compl] (p.handOver k) := by
  unfold Part.handOver
  (repeat' split) <;> simp

@[simp] theorem Part.keeps_handOver (k : Fin 8) (hl : [.fetch, .sched, .compl] ⊆ l) :
    p.Keeps l (q.handOver k) ↔ p.Keeps l q := (q.handOver_keeps _).iff hl

theorem Part.handOverFlushed_keeps (p : Part) (c : Completion) :
    p.Keeps [.sched, .compl] (p.handOverFlushed c) := by
  unfold Part.handOverFlushed
  (repeat' split) <;> simp

@[simp] theorem Part.keeps_handOverFlushed (c : Completion) (hl : [.sched, .compl] ⊆ l) :
    p.Keeps l (q.handOverFlushed c) ↔ p.Keeps l q := (q.handOverFlushed_keeps _).iff hl

theorem Part.resolveChain_keeps (p : Part) (i : Fin 8) (n : Nat) (st : Status) :
    p.Keeps [.sched] (p.resolveChain i n st) := by
  simp [Part.resolveChain]

@[simp] theorem Part.keeps_resolveChain (i : Fin 8) (n : Nat) (st : Status) (hl : [.sched] ⊆ l) :
    p.Keeps l (q.resolveChain i n st) ↔ p.Keeps l q := (q.resolveChain_keeps _ _ _).iff hl

theorem Part.haltOnError_keeps (p : Part) (i : Fin 8) (n : Nat) (st : Status) :
    p.Keeps [.admin, .fetch, .sched, .windows, .port, .compl, .stats] (p.haltOnError i n st) := by
  simp only [Part.haltOnError]
  (repeat' split) <;> simp

@[simp] theorem Part.keeps_haltOnError (i : Fin 8) (n : Nat) (st : Status) (hl : [.admin, .fetch, .sched, .windows, .port, .compl, .stats] ⊆ l) :
    p.Keeps l (q.haltOnError i n st) ↔ p.Keeps l q := (q.haltOnError_keeps _ _ _).iff hl

theorem Part.beginHold_keeps (p : Part) (i : Fin 8) (n : Nat) (x : Block) (st : Status) :
    p.Keeps [.port] (p.beginHold i n x st) := by
  rcases p.beginHold_eq i n x st with h | h <;> simp [h]

@[simp] theorem Part.keeps_beginHold (i : Fin 8) (n : Nat) (x : Block) (st : Status) (hl : [.port] ⊆ l) :
    p.Keeps l (q.beginHold i n x st) ↔ p.Keeps l q := (q.beginHold_keeps _ _ _ _).iff hl

theorem Part.settle_keeps (p : Part) (k : Fin 8) (st : Status) (x : BitVec 32) :
    p.Keeps [.admin, .fetch, .sched, .windows, .port, .compl, .stats] (p.settle k st x) := by
  simp only [Part.settle]
  (repeat' split) <;> simp

@[simp] theorem Part.keeps_settle (k : Fin 8) (st : Status) (x : BitVec 32) (hl : [.admin, .fetch, .sched, .windows, .port, .compl, .stats] ⊆ l) :
    p.Keeps l (q.settle k st x) ↔ p.Keeps l q := (q.settle_keeps _ _ _).iff hl

theorem Part.finishDetach_keeps (p : Part) (c : DetachCause) :
    p.Keeps [.admin, .compl] (p.finishDetach c) := by
  unfold Part.finishDetach
  (repeat' split) <;> simp

@[simp] theorem Part.keeps_finishDetach (c : DetachCause) (hl : [.admin, .compl] ⊆ l) :
    p.Keeps l (q.finishDetach c) ↔ p.Keeps l q := (q.finishDetach_keeps _).iff hl

theorem Part.portDetached_keeps (p : Part) :
    p.Keeps [.port, .notices] (p.portDetached) := by
  simp [Part.portDetached]

@[simp] theorem Part.keeps_portDetached (hl : [.port, .notices] ⊆ l) :
    p.Keeps l (q.portDetached) ↔ p.Keeps l q := (q.portDetached_keeps).iff hl

theorem Part.detach_keeps (p : Part) (c : DetachCause) :
    p.Keeps [.admin, .port, .notices, .compl, .stats] (p.detach c) := by
  simp [Part.detach]

@[simp] theorem Part.keeps_detach (c : DetachCause) (hl : [.admin, .port, .notices, .compl, .stats] ⊆ l) :
    p.Keeps l (q.detach c) ↔ p.Keeps l q := (q.detach_keeps _).iff hl

theorem Part.endTenureFlags_keeps (p : Part) :
    p.Keeps [.sched, .port] (p.endTenureFlags) := by
  simp [Part.endTenureFlags]

@[simp] theorem Part.keeps_endTenureFlags (hl : [.sched, .port] ⊆ l) :
    p.Keeps l (q.endTenureFlags) ↔ p.Keeps l q := (q.endTenureFlags_keeps).iff hl

theorem Part.leaveAtLimit_keeps (p : Part) :
    p.Keeps [.admin, .port, .notices, .compl, .stats] (p.leaveAtLimit) := by
  unfold Part.leaveAtLimit
  (repeat' split) <;> simp

@[simp] theorem Part.keeps_leaveAtLimit (hl : [.admin, .port, .notices, .compl, .stats] ⊆ l) :
    p.Keeps l (q.leaveAtLimit) ↔ p.Keeps l q := (q.leaveAtLimit_keeps).iff hl

theorem Part.raiseError_keeps (p : Part) :
    p.Keeps [.admin, .port, .notices, .compl, .stats] (p.raiseError) := by
  simp only [Part.raiseError]
  (repeat' split) <;> simp

@[simp] theorem Part.keeps_raiseError (hl : [.admin, .port, .notices, .compl, .stats] ⊆ l) :
    p.Keeps l (q.raiseError) ↔ p.Keeps l q := (q.raiseError_keeps).iff hl

theorem Part.abandonFetch_keeps (p : Part) :
    p.Keeps [.host, .sched, .master] (p.abandonFetch) := by
  simp only [Part.abandonFetch]
  (repeat' split) <;> simp

@[simp] theorem Part.keeps_abandonFetch (hl : [.host, .sched, .master] ⊆ l) :
    p.Keeps l (q.abandonFetch) ↔ p.Keeps l q := (q.abandonFetch_keeps).iff hl

theorem Part.takeWithdraw_keeps (p : Part) :
    p.Keeps [.host, .sched, .master, .port] (p.takeWithdraw) := by
  unfold Part.takeWithdraw
  (repeat' split) <;> simp

@[simp] theorem Part.keeps_takeWithdraw (hl : [.host, .sched, .master, .port] ⊆ l) :
    p.Keeps l (q.takeWithdraw) ↔ p.Keeps l q := (q.takeWithdraw_keeps).iff hl

theorem Part.present_keeps (p : Part) (o : Operation) (ph : Phase) :
    p.Keeps [.master, .out] (p.present o ph) := by
  simp [Part.present]

@[simp] theorem Part.keeps_present (o : Operation) (ph : Phase) (hl : [.master, .out] ⊆ l) :
    p.Keeps l (q.present o ph) ↔ p.Keeps l q := (q.present_keeps _ _).iff hl

theorem Part.driveAbort_keeps (p : Part) :
    p.Keeps [.out] (p.driveAbort) := by
  simp [Part.driveAbort]

@[simp] theorem Part.keeps_driveAbort (hl : [.out] ⊆ l) :
    p.Keeps l (q.driveAbort) ↔ p.Keeps l q := (q.driveAbort_keeps).iff hl

theorem Part.countPage_keeps (p : Part) (o : Operation) :
    p.Keeps [.stats] (p.countPage o) := by
  unfold Part.countPage
  (repeat' split) <;> simp

@[simp] theorem Part.keeps_countPage (o : Operation) (hl : [.stats] ⊆ l) :
    p.Keeps l (q.countPage o) ↔ p.Keeps l q := (q.countPage_keeps _).iff hl

theorem Part.startDriving_keeps (p : Part) (o : Operation) :
    p.Keeps [.sched, .master, .stats, .out] (p.startDriving o) := by
  simp [Part.startDriving]

@[simp] theorem Part.keeps_startDriving (o : Operation) (hl : [.sched, .master, .stats, .out] ⊆ l) :
    p.Keeps l (q.startDriving o) ↔ p.Keeps l q := (q.startDriving_keeps _).iff hl

theorem Part.windowTimeout_keeps (p : Part) (w : Fin 16) :
    p.Keeps [.sched, .windows, .notices, .stats] (p.windowTimeout w) := by
  simp only [Part.windowTimeout]
  (repeat' split) <;> simp

@[simp] theorem Part.keeps_windowTimeout (w : Fin 16) (hl : [.sched, .windows, .notices, .stats] ⊆ l) :
    p.Keeps l (q.windowTimeout w) ↔ p.Keeps l q := (q.windowTimeout_keeps _).iff hl

theorem Part.windowAnswered_keeps (p : Part) (w : Fin 16) :
    p.Keeps [.windows] (p.windowAnswered w) := by
  simp [Part.windowAnswered]

@[simp] theorem Part.keeps_windowAnswered (w : Fin 16) (hl : [.windows] ⊆ l) :
    p.Keeps l (q.windowAnswered w) ↔ p.Keeps l q := (q.windowAnswered_keeps _).iff hl

theorem Part.keeps_onOperationWindow {f : Part → Fin 16 → Part} (hf : ∀ p w, Part.Keeps l p (f p w))
    (o : Operation) : p.Keeps l (q.onOperationWindow o f) ↔ p.Keeps l q := by
  unfold Part.onOperationWindow
  split
  · exact (hf _ _).iff (List.Subset.refl l)
  · rfl

theorem Part.bankFails_keeps (p : Part) (o : Operation) :
    p.Keeps [.windows] (p.bankFails o) := by
  unfold Part.bankFails Part.onOperationWindow
  split <;> simp

@[simp] theorem Part.keeps_bankFails (o : Operation) (hl : [.windows] ⊆ l) :
    p.Keeps l (q.bankFails o) ↔ p.Keeps l q := (q.bankFails_keeps _).iff hl

theorem Part.verdict_keeps (p : Part) (o : Operation) (e : OperationEnd) :
    p.Keeps [.admin, .sched, .windows, .port, .notices, .compl, .stats] (p.verdict o e) := by
  unfold Part.verdict Part.onOperationWindow
  (repeat' split) <;> simp

@[simp] theorem Part.keeps_verdict (o : Operation) (e : OperationEnd) (hl : [.admin, .sched, .windows, .port, .notices, .compl, .stats] ⊆ l) :
    p.Keeps l (q.verdict o e) ↔ p.Keeps l q := (q.verdict_keeps _ _).iff hl

theorem Part.markForClose_keeps (p : Part) (o : Operation) (s : Slot) (b : Bool) :
    p.Keeps [.windows] (p.markForClose o s b) := by
  rcases p.markForClose_eq o s b with h | ⟨w, -, h⟩ <;> simp [h]

@[simp] theorem Part.keeps_markForClose (o : Operation) (s : Slot) (b : Bool) (hl : [.windows] ⊆ l) :
    p.Keeps l (q.markForClose o s b) ↔ p.Keeps l q := (q.markForClose_keeps _ _ _).iff hl

theorem Part.reportBurst_keeps (p : Part) (o : Operation) (k : Fin 8) (e : OperationEnd) (n : Nat) (b : Bool) :
    p.Keeps [.admin, .fetch, .sched, .windows, .master, .port, .notices, .compl, .stats] (p.reportBurst o k e n b) := by
  simp only [Part.reportBurst]
  (repeat' split) <;> simp

@[simp] theorem Part.keeps_reportBurst (o : Operation) (k : Fin 8) (e : OperationEnd) (n : Nat) (b : Bool) (hl : [.admin, .fetch, .sched, .windows, .master, .port, .notices, .compl, .stats] ⊆ l) :
    p.Keeps l (q.reportBurst o k e n b) ↔ p.Keeps l q := (q.reportBurst_keeps _ _ _ _ _).iff hl

theorem Part.endClose_keeps (p : Part) (o : Operation) (e : OperationEnd) :
    p.Keeps [.admin, .sched, .windows, .master, .port, .notices, .compl, .stats] (p.endClose o e) := by
  simp only [Part.endClose, Part.onOperationWindow]
  (repeat' split) <;> simp

@[simp] theorem Part.keeps_endClose (o : Operation) (e : OperationEnd) (hl : [.admin, .sched, .windows, .master, .port, .notices, .compl, .stats] ⊆ l) :
    p.Keeps l (q.endClose o e) ↔ p.Keeps l q := (q.endClose_keeps _ _).iff hl

theorem Part.endOperation_keeps (p : Part) (o : Operation) (e : OperationEnd) :
    p.Keeps [.host, .admin, .fetch, .sched, .windows, .master, .port, .notices, .compl, .stats] (p.endOperation o e) := by
  unfold Part.endOperation
  (repeat' split) <;> simp

@[simp] theorem Part.keeps_endOperation (o : Operation) (e : OperationEnd) (hl : [.host, .admin, .fetch, .sched, .windows, .master, .port, .notices, .compl, .stats] ⊆ l) :
    p.Keeps l (q.endOperation o e) ↔ p.Keeps l q := (q.endOperation_keeps _ _).iff hl

theorem Part.abortOperation_keeps (p : Part) (o : Operation) (e : OperationEnd) :
    p.Keeps [.host, .admin, .fetch, .sched, .windows, .master, .port, .notices, .compl, .stats, .out] (p.abortOperation o e) := by
  simp [Part.abortOperation]

@[simp] theorem Part.keeps_abortOperation (o : Operation) (e : OperationEnd) (hl : [.host, .admin, .fetch, .sched, .windows, .master, .port, .notices, .compl, .stats, .out] ⊆ l) :
    p.Keeps l (q.abortOperation o e) ↔ p.Keeps l q := (q.abortOperation_keeps _ _).iff hl

theorem Part.cutOperation_keeps (p : Part) (e : OperationEnd) :
    p.Keeps [.host, .admin, .fetch, .sched, .windows, .master, .port, .notices, .compl, .stats] (p.cutOperation e) := by
  unfold Part.cutOperation
  (repeat' split) <;> simp

@[simp] theorem Part.keeps_cutOperation (e : OperationEnd) (hl : [.host, .admin, .fetch, .sched, .windows, .master, .port, .notices, .compl, .stats] ⊆ l) :
    p.Keeps l (q.cutOperation e) ↔ p.Keeps l q := (q.cutOperation_keeps _).iff hl

theorem Part.acknowledge_keeps (p : Part) (o : Operation) (ph : Phase) (ad : BusWord) :
    p.Keeps [.host, .admin, .fetch, .sched, .windows, .master, .port, .notices, .compl, .stats, .out] (p.acknowledge o ph ad) := by
  simp only [Part.acknowledge, Part.onOperationWindow]
  (repeat' split) <;> simp

@[simp] theorem Part.keeps_acknowledge (o : Operation) (ph : Phase) (ad : BusWord) (hl : [.host, .admin, .fetch, .sched, .windows, .master, .port, .notices, .compl, .stats, .out] ⊆ l) :
    p.Keeps l (q.acknowledge o ph ad) ↔ p.Keeps l q := (q.acknowledge_keeps _ _ _).iff hl

theorem Part.answered_keeps (p : Part) (o : Operation) (ph : Phase) (a : Answer) (ad : BusWord) (g : Bool) :
    p.Keeps [.host, .admin, .fetch, .sched, .windows, .master, .port, .notices, .compl, .stats, .out] (p.answered o ph a ad g) := by
  unfold Part.answered
  (repeat' split) <;> simp

@[simp] theorem Part.keeps_answered (o : Operation) (ph : Phase) (a : Answer) (ad : BusWord) (g : Bool) (hl : [.host, .admin, .fetch, .sched, .windows, .master, .port, .notices, .compl, .stats, .out] ⊆ l) :
    p.Keeps l (q.answered o ph a ad g) ↔ p.Keeps l q := (q.answered_keeps _ _ _ _ _).iff hl

theorem Part.takeAccess_keeps (p : Part) (x : Source) (a : Access) (b : Bool) :
    p.Keeps [.host] (p.takeAccess x a b) := by
  simp [Part.takeAccess]

@[simp] theorem Part.keeps_takeAccess (x : Source) (a : Access) (b : Bool) (hl : [.host] ⊆ l) :
    p.Keeps l (q.takeAccess x a b) ↔ p.Keeps l q := (q.takeAccess_keeps _ _ _).iff hl

theorem Part.takeUnissued_keeps (p : Part) (x : Source) (b : Bool) :
    p.Keeps [.host] (p.takeUnissued x b) := by
  unfold Part.takeUnissued
  (repeat' split) <;> simp

@[simp] theorem Part.keeps_takeUnissued (x : Source) (b : Bool) (hl : [.host] ⊆ l) :
    p.Keeps l (q.takeUnissued x b) ↔ p.Keeps l q := (q.takeUnissued_keeps _ _).iff hl

theorem Part.forRead_keeps (p : Part) (x : Source) (b : Bool) :
    p.Keeps [.host] (p.forRead x b) := by
  unfold Part.forRead
  (repeat' split) <;> simp

@[simp] theorem Part.keeps_forRead (x : Source) (b : Bool) (hl : [.host] ⊆ l) :
    p.Keeps l (q.forRead x b) ↔ p.Keeps l q := (q.forRead_keeps _ _).iff hl

theorem Part.forWrite_keeps (p : Part) (x : Source) (b : Bool) :
    p.Keeps [.host] (p.forWrite x b) := by
  unfold Part.forWrite
  (repeat' split) <;> simp

@[simp] theorem Part.keeps_forWrite (x : Source) (b : Bool) (hl : [.host] ⊆ l) :
    p.Keeps l (q.forWrite x b) ↔ p.Keeps l q := (q.forWrite_keeps _ _).iff hl

theorem Part.dropDelivery_keeps (p : Part) :
    p.Keeps [.admin, .fetch, .sched, .windows, .master, .port, .notices, .compl, .stats] (p.dropDelivery) := by
  unfold Part.dropDelivery
  (repeat' split) <;> simp

@[simp] theorem Part.keeps_dropDelivery (hl : [.admin, .fetch, .sched, .windows, .master, .port, .notices, .compl, .stats] ⊆ l) :
    p.Keeps l (q.dropDelivery) ↔ p.Keeps l q := (q.dropDelivery_keeps).iff hl

theorem Part.failPort_keeps (p : Part) :
    p.Keeps [.port, .notices] (p.failPort) := by
  unfold Part.failPort
  (repeat' split) <;> simp

@[simp] theorem Part.keeps_failPort (hl : [.port, .notices] ⊆ l) :
    p.Keeps l (q.failPort) ↔ p.Keeps l q := (q.failPort_keeps).iff hl

end Sys2Proof.Machine
end

section
/-! The effect of each command on the part, and what has to be shown for a law of the part to be kept by every
step: that each command's effect keeps it, and each of the clocks that 1 µs moves on. -/

-- One declaration at a time: every further thread counts against the memory the check allows.
set_option Elab.async false

namespace Sys2Proof.Machine

/-- What a command does to the part. -/
def effect : Instr → Part → Part
  | .powerOnReset, _ => .reset
  | .functionLevelReset, p | .reset, p => p.functionReset
  | .enable, p => p.enable
  | .quiesce, p => p.quiesce
  | .quiescedReached, p => p.reachQuiesced
  | .stateWrite value, p => p.writeState value
  | .registerWrite offset bytes value, p => p.registerWrite offset bytes value
  | .submit ring index _, p => p.submit ring index
  | .complete ring index arm, p => p.complete ring index arm
  | .notice _ index arm, p => p.notice index arm
  | .adminSubmit _ index _, p => p.adminSubmit index
  | .adminComplete _ index arm, p => p.adminComplete index arm
  | .notifyInvalidKind _, p => p.dropNotify
  | .hostAccessIssue, p => p.issue
  | .hostReadTimeout, p => p.readTimesOut
  | .ringChoice, p => p.choose
  | .submissionReadDone result, p => p.submissionRead result
  | .selection, p => p.select
  | .settleOnlySettlement, p => p.settleOnly
  | .postingHandover, p => p.handNext
  | .writeDataReadDone result, p => p.dataRead result
  | .targetAnswer a ad good, p => p.takeAnswer a ad good
  | .responseLimitExpiry, p => p.expireResponse
  | .readDataWriteDone done, p => p.delivered done
  | .openTimerExpiry w b, p => p.modBank w b.val Bank.expire
  | .closeOperation, p => p.startClose
  | .releaseComplete, p => p.completeRelease
  | .gntRise, p => p.grantRises
  | .gntDrop, p => p.grantDrops
  | .withdraw, p => p.withdraw
  | .linkLoss, p => if p.port.clockPresent then
      (p.onPort fun x => { x with clockPresent := false }).loseLink .linkLost else p
  | .backplaneReset, p => if p.port.rst then p else
      ((p.onPort fun x => { x with rst := true }).dropReceiving).loseLink .backplaneReset
  | .phaseActivity code, p => p.seePhase code
  | .joinTimerExpiry, p => p.finishJoin
  | .inboundNoticePhase ad beats good, p => p.noticePhase ad beats good
  | .inboundNoticeBeat ad good, p => p.noticeBeatTaken ad good
  | .inboundCheckWord ad good, p => p.checkTaken ad good
  | .noticeReceiveTimeout, p => p.dropReceiving
  | .noticeEntryWriteDone done, p => p.noticeWritten done
  | .completionEntryWriteDone done, p => p.completionWritten done
  | .adminCompletionWriteDone done, p => p.adminWritten done
  | .adminCommandReadFailed, p => if (p.forRead .administration false).readOutstanding .administration
      then (p.forRead .administration false).closeAccess.commandReadFails.react
      else p.forRead .administration false
  | .unknownCommand rec, p => p.arrive rec fun p => p.endCommand .unknownCommand 0#32
  | .createCring rec, p => p.arrive rec fun p =>
      p.checked (p.createCringChecks rec) fun p => p.createCring rec
  | .deleteCring rec, p => p.arrive rec fun p =>
      p.checked (p.deleteCringChecks rec) fun p => p.deleteCring rec
  | .createSring rec, p => p.arrive rec fun p =>
      p.checked (p.createSringChecks rec) fun p => p.createSring rec
  | .deleteSring rec, p => p.arrive rec fun p =>
      p.checked (p.deleteSringChecks rec) fun p => p.deleteSring rec
  | .sringDeletionEnd, p => p.finishDeletion
  | .haltSring rec, p => p.arrive rec fun p =>
      p.checked (p.stateChecks rec .active) fun p => p.haltSring rec
  | .resumeSring rec, p => p.arrive rec fun p =>
      p.checked (p.stateChecks rec .halted) fun p => p.resumeSring rec
  | .flushSring rec, p => p.arrive rec fun p =>
      p.checked (p.stateChecks rec .halted) fun p => p.flushSring rec
  | .flushWalk, p => p.flushWalk
  | .setWindow rec, p => p.arrive rec fun p => p.checked (p.setWindowChecks rec) fun p =>
      (p.modWindow (cmdWindow rec) fun _ => windowOf rec).endCommand .success 0#32
  | .clearWindow rec, p => p.arrive rec fun p =>
      p.checked (p.clearWindowChecks rec) fun p => p.clearWindow rec
  | .endOfDraining, p => p.finishDraining
  | .reopenWindow rec, p => p.arrive rec fun p => p.checked (p.reopenWindowChecks rec) fun p =>
      (p.modWindow (cmdWindow rec) fun x =>
        { x with state := .opened, timeouts := 0 }).endCommand .success 0#32
  | .setNode rec, p => p.arrive rec fun p => p.checked (p.setNodeChecks rec) fun p =>
      (p.onNotices fun n =>
        { n with nodeId := some (BitVec.ofNat 5 (cmdTarget rec)) }).endCommand .success 0#32
  | .setNoticeRing rec, p => p.arrive rec fun p =>
      p.checked (p.setNoticeRingChecks rec) fun p => p.setNoticeRing rec
  | .setFilter rec, p => p.arrive rec fun p => p.checked (setFilterChecks rec) fun p => p.setFilter rec
  | .attach rec, p => p.arrive rec fun p => p.checked p.attachChecks fun p =>
      (p.onPort fun x =>
        { x with
          state := .joining, errorCount := 0, mark := .none,
          joinTimer := joinInterval }).endCommand .success 0#32
  | .detach rec, p => p.arrive rec fun p =>
      p.checked [(p.port.state != .detached, .wrongState)] Part.detachCommand
  | .query rec, p => p.arrive rec fun p => p.checked (queryChecks rec) fun p => p.query rec
  | .queryReportWriteDone done, p => p.reportWritten done
  | .vectorUnmask scope, p => p.unmask scope
  | .clockReturn, p => p.onPort fun x => { x with clockPresent := true }
  | .rstReleased, p => p.onPort fun x => { x with rst := false }
  | .wdrDeasserted, p => p.onPort fun x => { x with wdr := false }
  | .vectorMasked scope, p => p.mask scope

/-- Every command completes, with its effect on the part and the same queue. -/
theorem exec_eq (c : Instr) (s : State) : exec c s = .next { s with part := effect c s.part } := by
  cases c <;> rfl

theorem notifyCommand_cases (v : BitVec 32) :
    (∃ r i a, notifyCommand v = .submit r i a) ∨ (∃ r i a, notifyCommand v = .complete r i a)
      ∨ (∃ r i a, notifyCommand v = .notice r i a) ∨ (∃ r i a, notifyCommand v = .adminSubmit r i a)
      ∨ (∃ r i a, notifyCommand v = .adminComplete r i a) ∨ notifyCommand v = .notifyInvalidKind v := by
  unfold notifyCommand
  split <;> simp

/-- A register write has the effect of the row it stands for, or that of a plain write (R164). -/
theorem effect_registerWrite (o : BitVec 12) (n : Nat) (v : BitVec 32) (p : Part) :
    effect (.registerWrite o n v) p =
      match registerCommand o n v with
      | some c => effect c p
      | none => p.plainWrite o n v := by
  change p.registerWrite o n v = _
  unfold Part.registerWrite
  generalize hc : registerCommand o n v = c
  unfold registerCommand at hc
  (repeat' split at hc) <;> subst hc <;> try rfl
  rcases notifyCommand_cases v with ⟨_, _, _, h⟩ | ⟨_, _, _, h⟩ | ⟨_, _, _, h⟩ | ⟨_, _, _, h⟩
    | ⟨_, _, _, h⟩ | h <;> rw [h] <;> rfl

/-- No register write stands for another. -/
theorem registerCommand_ne_registerWrite {o : BitVec 12} {n : Nat} {v : BitVec 32} {c : Instr}
    (h : registerCommand o n v = some c) (o' : BitVec 12) (n' : Nat) (v' : BitVec 32) :
    c ≠ .registerWrite o' n' v' := by
  unfold registerCommand at h
  (repeat' split at h) <;> cases h <;> try simp
  rcases notifyCommand_cases v with ⟨_, _, _, h⟩ | ⟨_, _, _, h⟩ | ⟨_, _, _, h⟩ | ⟨_, _, _, h⟩
    | ⟨_, _, _, h⟩ | h <;> simp [h]

/-- What every other command's effect and a plain write keep, every command's effect keeps. -/
theorem effect_keeps {P : Part → Prop} (hplain : ∀ p o n v, P p → P (p.plainWrite o n v))
    (heffect : ∀ c p, (∀ o n v, c ≠ .registerWrite o n v) → P p → P (effect c p)) (c : Instr)
    {p : Part} (hp : P p) : P (effect c p) := by
  cases c with
  | registerWrite o n v =>
    rw [effect_registerWrite]
    split
    · exact heffect _ p (registerCommand_ne_registerWrite ‹_›) hp
    · exact hplain p o n v hp
  | _ => exact heffect _ p nofun hp

/-- What a step leaves of the part. -/
def State.stepped (s : State) : Part :=
  match s.pending with
  | c :: _ => effect c s.part
  | [] => s.part.idle

theorem step_eq (s : State) : step s = .next { pending := s.pending.tail, part := s.stepped } := by
  unfold step State.stepped
  split
  · rw [exec_eq]; simp_all
  · simp_all [State.andThen]

/-! ### Laws kept by every step -/

/-- Each clock that 1 µs moves on without its running out keeps `P`. -/
structure KeptByClocks (P : Part → Prop) : Prop where
  join : ∀ p, P p → p.port.state = .joining → 1 < p.port.joinTimer →
    P (p.onPort fun x => { x with joinTimer := x.joinTimer - 1 })
  banks : ∀ p, P p → P p.tickBanks
  response : ∀ p, P p → P (p.modOperation fun o => { o with elapsed := o.elapsed + 1 })
  receive : ∀ p b, P p → P (p.modEntry b fun e => { e with elapsed := e.elapsed + 1 })
  read : ∀ p, P p → P (p.onHost fun h =>
    { h with outstanding := h.outstanding.map fun o => { o with elapsed := o.elapsed + 1 } })

/-- Each of the part's own steps is the effect of the command of its row. -/
theorem ownSteps_effect {f : Part → Part} (hf : f ∈ ownSteps) : ∃ c, f = effect c := by
  simp only [ownSteps, List.mem_cons, List.not_mem_nil, or_false] at hf
  rcases hf with rfl | rfl | rfl | rfl | rfl | rfl | rfl | rfl | rfl | rfl | rfl
  exacts [⟨.settleOnlySettlement, rfl⟩, ⟨.postingHandover, rfl⟩, ⟨.flushWalk, rfl⟩,
    ⟨.sringDeletionEnd, rfl⟩, ⟨.endOfDraining, rfl⟩, ⟨.quiescedReached, rfl⟩, ⟨.selection, rfl⟩,
    ⟨.closeOperation, rfl⟩, ⟨.releaseComplete, rfl⟩, ⟨.ringChoice, rfl⟩, ⟨.hostAccessIssue, rfl⟩]

section
variable {P : Part → Prop}

theorem KeptByClocks.tick (hc : KeptByClocks P) (he : ∀ c p, P p → P (effect c p)) {p : Part}
    (hp : P p) : P p.tick := by
  have join : ∀ p, P p → P p.tickJoin := fun p hp => by
    unfold Part.tickJoin
    split
    · split
      · exact he .joinTimerExpiry p hp
      · exact hc.join p hp ‹_› (by omega)
    · exact hp
  have response : ∀ p, P p → P p.tickResponse := fun p hp => by
    unfold Part.tickResponse
    split
    · split
      · exact he .responseLimitExpiry p hp
      · exact hc.response p hp
    · exact hp
  have receive : ∀ p, P p → P p.tickReceive := fun p hp => by
    unfold Part.tickReceive
    split
    · split
      · exact he .noticeReceiveTimeout p hp
      · exact hc.receive p _ hp
    · exact hp
  have read : ∀ p, P p → P p.tickRead := fun p hp => by
    unfold Part.tickRead
    split
    · split
      · exact he .hostReadTimeout p hp
      · exact hc.read p hp
    · exact hp
  exact read _ (receive _ (response _ (hc.banks _ (join _ hp))))

/-- A law of the part that every command's effect keeps, and every clock, is kept by every step. -/
theorem step_keeps (he : ∀ c p, P p → P (effect c p)) (hc : KeptByClocks P) {s t : State}
    (hs : P s.part) (hstep : step s = .next t) : P t.part := by
  rw [step_eq] at hstep
  cases hstep
  unfold State.stepped
  split
  · exact he _ _ hs
  · unfold Part.idle
    split
    · next h =>
      obtain ⟨c, rfl⟩ := ownSteps_effect (List.mem_of_find?_eq_some h)
      exact he c _ hs
    · exact hc.tick he hs

end

end Sys2Proof.Machine
end

section
/-! Which blocks each command may change, and the steps it is made of. -/

-- One declaration at a time: every further thread counts against the memory the check allows.
set_option Elab.async false

namespace Sys2Proof.Machine

variable {p q : Part} {l : List Region}

/-! ### Arms and interrupt messages -/

theorem Part.armTest_keeps (p : Part) (c : Fin 8) :
    p.Keeps [.host, .compl, .out] (p.armTest c) := by
  simp only [Part.armTest]
  (repeat' split) <;> simp

@[simp] theorem Part.keeps_armTest (c : Fin 8) (hl : [.host, .compl, .out] ⊆ l) :
    p.Keeps l (q.armTest c) ↔ p.Keeps l q := (q.armTest_keeps _).iff hl

theorem Part.adminArmTest_keeps (p : Part) :
    p.Keeps [.host, .compl, .out] (p.adminArmTest) := by
  simp only [Part.adminArmTest]
  (repeat' split) <;> simp

@[simp] theorem Part.keeps_adminArmTest (hl : [.host, .compl, .out] ⊆ l) :
    p.Keeps l (q.adminArmTest) ↔ p.Keeps l q := (q.adminArmTest_keeps).iff hl

theorem Part.noticeArmTest_keeps (p : Part) :
    p.Keeps [.host, .notices, .out] (p.noticeArmTest) := by
  simp only [Part.noticeArmTest]
  (repeat' split) <;> simp

@[simp] theorem Part.keeps_noticeArmTest (hl : [.host, .notices, .out] ⊆ l) :
    p.Keeps l (q.noticeArmTest) ↔ p.Keeps l q := (q.noticeArmTest_keeps).iff hl

theorem Part.armPendingTests_keeps (p : Part) :
    p.Keeps [.host, .notices, .compl, .out] p.armPendingTests := by
  have rings : Part.Keeps [.host, .notices, .compl, .out] p ((List.finRange 8).foldl (fun p c =>
      if (p.cring c).armPending then
        (p.modCring c fun r => { r with armPending := false }).armTest c
      else p) p) := foldl_keeps (fun p c => by split <;> simp) _ p
  refine rings.trans ?_
  simp only [Part.armPendingTests]
  (repeat' split) <;> simp

@[simp] theorem Part.keeps_armPendingTests (hl : [.host, .notices, .compl, .out] ⊆ l) :
    p.Keeps l (q.armPendingTests) ↔ p.Keeps l q := (q.armPendingTests_keeps).iff hl

theorem Part.armCring_keeps (p : Part) (c : Fin 8) :
    p.Keeps [.host, .compl, .out] (p.armCring c) := by
  unfold Part.armCring
  (repeat' split) <;> simp

@[simp] theorem Part.keeps_armCring (c : Fin 8) (hl : [.host, .compl, .out] ⊆ l) :
    p.Keeps l (q.armCring c) ↔ p.Keeps l q := (q.armCring_keeps _).iff hl

theorem Part.armAdmin_keeps (p : Part) :
    p.Keeps [.host, .compl, .out] (p.armAdmin) := by
  unfold Part.armAdmin
  (repeat' split) <;> simp

@[simp] theorem Part.keeps_armAdmin (hl : [.host, .compl, .out] ⊆ l) :
    p.Keeps l (q.armAdmin) ↔ p.Keeps l q := (q.armAdmin_keeps).iff hl

theorem Part.armNotices_keeps (p : Part) :
    p.Keeps [.host, .notices, .out] (p.armNotices) := by
  unfold Part.armNotices
  (repeat' split) <;> simp

@[simp] theorem Part.keeps_armNotices (hl : [.host, .notices, .out] ⊆ l) :
    p.Keeps l (q.armNotices) ↔ p.Keeps l q := (q.armNotices_keeps).iff hl

theorem Part.issue_keeps (p : Part) :
    p.Keeps [.host, .out] (p.issue) := by
  unfold Part.issue
  (repeat' split) <;> simp

@[simp] theorem Part.keeps_issue (hl : [.host, .out] ⊆ l) :
    p.Keeps l (q.issue) ↔ p.Keeps l q := (q.issue_keeps).iff hl

theorem Part.sendPending_keeps (p : Part) (v : Fin 16) :
    p.Keeps [.host, .out] (p.sendPending v) := by
  unfold Part.sendPending
  (repeat' split) <;> simp

@[simp] theorem Part.keeps_sendPending (v : Fin 16) (hl : [.host, .out] ⊆ l) :
    p.Keeps l (q.sendPending v) ↔ p.Keeps l q := (q.sendPending_keeps _).iff hl

theorem Part.unmask_keeps (p : Part) (x : VectorScope) :
    p.Keeps [.host, .out] (p.unmask x) := by
  cases x with
  | vector v => simp [Part.unmask]
  | messages =>
    have enabled : p.Keeps [.host, .out] (p.onHost fun h => { h with messagesEnabled := true }) := by simp
    exact enabled.trans (foldl_keeps sendPending_keeps _ _)

@[simp] theorem Part.keeps_unmask (x : VectorScope) (hl : [.host, .out] ⊆ l) :
    p.Keeps l (q.unmask x) ↔ p.Keeps l q := (q.unmask_keeps _).iff hl

theorem Part.mask_keeps (p : Part) (x : VectorScope) :
    p.Keeps [.host] (p.mask x) := by
  cases x <;> simp [Part.mask]

@[simp] theorem Part.keeps_mask (x : VectorScope) (hl : [.host] ⊆ l) :
    p.Keeps l (q.mask x) ↔ p.Keeps l q := (q.mask_keeps _).iff hl

/-! ### Commands of the Administration Unit -/

theorem Part.endDeletion_keeps (p : Part) (i : Fin 8) :
    p.Keeps [.admin, .fetch, .compl] (p.endDeletion i) := by
  simp only [Part.endDeletion]
  (repeat' split) <;> simp

@[simp] theorem Part.keeps_endDeletion (i : Fin 8) (hl : [.admin, .fetch, .compl] ⊆ l) :
    p.Keeps l (q.endDeletion i) ↔ p.Keeps l q := (q.endDeletion_keeps _).iff hl

theorem Part.createCring_keeps (p : Part) (x : Block) :
    p.Keeps [.admin, .compl] (p.createCring x) := by
  simp [Part.createCring]

@[simp] theorem Part.keeps_createCring (x : Block) (hl : [.admin, .compl] ⊆ l) :
    p.Keeps l (q.createCring x) ↔ p.Keeps l q := (q.createCring_keeps _).iff hl

theorem Part.deleteCring_keeps (p : Part) (x : Block) :
    p.Keeps [.admin, .compl] (p.deleteCring x) := by
  simp [Part.deleteCring]

@[simp] theorem Part.keeps_deleteCring (x : Block) (hl : [.admin, .compl] ⊆ l) :
    p.Keeps l (q.deleteCring x) ↔ p.Keeps l q := (q.deleteCring_keeps _).iff hl

theorem Part.createSring_keeps (p : Part) (x : Block) :
    p.Keeps [.admin, .fetch, .compl] (p.createSring x) := by
  simp [Part.createSring]

@[simp] theorem Part.keeps_createSring (x : Block) (hl : [.admin, .fetch, .compl] ⊆ l) :
    p.Keeps l (q.createSring x) ↔ p.Keeps l q := (q.createSring_keeps _).iff hl

theorem Part.deleteSring_keeps (p : Part) (x : Block) :
    p.Keeps [.admin, .fetch, .sched, .windows, .port, .compl, .stats] (p.deleteSring x) := by
  simp only [Part.deleteSring]
  (repeat' split) <;> simp

@[simp] theorem Part.keeps_deleteSring (x : Block) (hl : [.admin, .fetch, .sched, .windows, .port, .compl, .stats] ⊆ l) :
    p.Keeps l (q.deleteSring x) ↔ p.Keeps l q := (q.deleteSring_keeps _).iff hl

theorem Part.haltSring_keeps (p : Part) (x : Block) :
    p.Keeps [.admin, .fetch, .sched, .windows, .port, .compl, .stats] (p.haltSring x) := by
  simp [Part.haltSring]

@[simp] theorem Part.keeps_haltSring (x : Block) (hl : [.admin, .fetch, .sched, .windows, .port, .compl, .stats] ⊆ l) :
    p.Keeps l (q.haltSring x) ↔ p.Keeps l q := (q.haltSring_keeps _).iff hl

theorem Part.resumeSring_keeps (p : Part) (x : Block) :
    p.Keeps [.admin, .fetch, .compl] (p.resumeSring x) := by
  simp [Part.resumeSring]

@[simp] theorem Part.keeps_resumeSring (x : Block) (hl : [.admin, .fetch, .compl] ⊆ l) :
    p.Keeps l (q.resumeSring x) ↔ p.Keeps l q := (q.resumeSring_keeps _).iff hl

theorem Part.flushSring_keeps (p : Part) (x : Block) :
    p.Keeps [.admin, .fetch, .compl] (p.flushSring x) := by
  simp only [Part.flushSring]
  (repeat' split) <;> simp

@[simp] theorem Part.keeps_flushSring (x : Block) (hl : [.admin, .fetch, .compl] ⊆ l) :
    p.Keeps l (q.flushSring x) ↔ p.Keeps l q := (q.flushSring_keeps _).iff hl

theorem Part.finishWalk_keeps (p : Part) (f : Flush) :
    p.Keeps [.admin, .fetch, .compl] (p.finishWalk f) := by
  simp only [Part.finishWalk]
  (repeat' split) <;> simp

@[simp] theorem Part.keeps_finishWalk (f : Flush) (hl : [.admin, .fetch, .compl] ⊆ l) :
    p.Keeps l (q.finishWalk f) ↔ p.Keeps l q := (q.finishWalk_keeps _).iff hl

theorem Part.walked_keeps (p : Part) (f : Flush) (n : Nat) :
    p.Keeps [.admin, .fetch, .compl] (p.walked f n) := by
  unfold Part.walked
  (repeat' split) <;> simp

@[simp] theorem Part.keeps_walked (f : Flush) (n : Nat) (hl : [.admin, .fetch, .compl] ⊆ l) :
    p.Keeps l (q.walked f n) ↔ p.Keeps l q := (q.walked_keeps _ _).iff hl

theorem Part.reserveFlushed_keeps (p : Part) (f : Flush) (c : Fin 8) :
    p.Keeps [.compl] (p.reserveFlushed f c) := by
  unfold Part.reserveFlushed
  (repeat' split) <;> simp

@[simp] theorem Part.keeps_reserveFlushed (f : Flush) (c : Fin 8) (hl : [.compl] ⊆ l) :
    p.Keeps l (q.reserveFlushed f c) ↔ p.Keeps l q := (q.reserveFlushed_keeps _ _).iff hl

theorem Part.endDraining_keeps (p : Part) (w : Fin 16) :
    p.Keeps [.admin, .windows, .compl] (p.endDraining w) := by
  simp only [Part.endDraining]
  (repeat' split) <;> simp

@[simp] theorem Part.keeps_endDraining (w : Fin 16) (hl : [.admin, .windows, .compl] ⊆ l) :
    p.Keeps l (q.endDraining w) ↔ p.Keeps l q := (q.endDraining_keeps _).iff hl

theorem Part.clearWindow_keeps (p : Part) (x : Block) :
    p.Keeps [.admin, .windows, .compl] (p.clearWindow x) := by
  simp only [Part.clearWindow]
  (repeat' split) <;> simp

@[simp] theorem Part.keeps_clearWindow (x : Block) (hl : [.admin, .windows, .compl] ⊆ l) :
    p.Keeps l (q.clearWindow x) ↔ p.Keeps l q := (q.clearWindow_keeps _).iff hl

theorem Part.setNoticeRing_keeps (p : Part) (x : Block) :
    p.Keeps [.admin, .notices, .compl] (p.setNoticeRing x) := by
  simp only [Part.setNoticeRing]
  (repeat' split) <;> simp

@[simp] theorem Part.keeps_setNoticeRing (x : Block) (hl : [.admin, .notices, .compl] ⊆ l) :
    p.Keeps l (q.setNoticeRing x) ↔ p.Keeps l q := (q.setNoticeRing_keeps _).iff hl

theorem Part.setFilter_keeps (p : Part) (x : Block) :
    p.Keeps [.admin, .notices, .compl] (p.setFilter x) := by
  unfold Part.setFilter
  (repeat' split) <;> simp

@[simp] theorem Part.keeps_setFilter (x : Block) (hl : [.admin, .notices, .compl] ⊆ l) :
    p.Keeps l (q.setFilter x) ↔ p.Keeps l q := (q.setFilter_keeps _).iff hl

theorem Part.detachCommand_keeps (p : Part) :
    p.Keeps [.admin, .port, .notices, .compl, .stats] (p.detachCommand) := by
  simp only [Part.detachCommand]
  (repeat' split) <;> simp

@[simp] theorem Part.keeps_detachCommand (hl : [.admin, .port, .notices, .compl, .stats] ⊆ l) :
    p.Keeps l (q.detachCommand) ↔ p.Keeps l q := (q.detachCommand_keeps).iff hl

theorem Part.query_keeps (p : Part) (x : Block) :
    p.Keeps [.host, .admin, .stats] (p.query x) := by
  simp only [Part.query]
  (repeat' split) <;> simp

@[simp] theorem Part.keeps_query (x : Block) (hl : [.host, .admin, .stats] ⊆ l) :
    p.Keeps l (q.query x) ↔ p.Keeps l q := (q.query_keeps _).iff hl

theorem Part.arrive_keeps {f : Part → Part} (hf : ∀ p, Part.Keeps l p (f p)) (p : Part) (x : Block)
    (hl : [.host, .admin, .port, .notices] ⊆ l := by simp) : p.Keeps l (p.arrive x f) := by
  have hl : ∀ b ∈ [Region.host, .admin, .port, .notices], b ∈ l := hl
  simp only [List.mem_cons, List.not_mem_nil, or_false, forall_eq_or_imp, forall_eq] at hl
  obtain ⟨hh, ha, hp, hn⟩ := hl
  simp only [Part.arrive]
  (repeat' split)
  · refine (keeps_react (by simp [*])).2 (Keeps.trans ?_ (hf _))
    simp [hh, ha]
  · simp [hh]
  · simp

theorem Part.checked_keeps {f : Part → Part} (p : Part) (hf : Part.Keeps l p (f p))
    (checks : List (Bool × Status)) (hl : [.admin, .compl] ⊆ l := by simp) :
    p.Keeps l (p.checked checks f) := by
  unfold Part.checked
  split
  · exact (keeps_endCommand _ _ hl).2 (keeps_self l p)
  · exact hf

/-! ### Reports and events -/

theorem Part.dataArrives_keeps (p : Part) (d : BurstData) :
    p.Keeps [.sched, .master, .stats, .out] (p.dataArrives d) := by
  unfold Part.dataArrives
  (repeat' split) <;> simp

@[simp] theorem Part.keeps_dataArrives (d : BurstData) (hl : [.sched, .master, .stats, .out] ⊆ l) :
    p.Keeps l (q.dataArrives d) ↔ p.Keeps l q := (q.dataArrives_keeps _).iff hl

theorem Part.dataReadFails_keeps (p : Part) :
    p.Keeps [.admin, .fetch, .sched, .windows, .master, .port, .notices, .compl, .stats] (p.dataReadFails) := by
  unfold Part.dataReadFails
  (repeat' split) <;> simp

@[simp] theorem Part.keeps_dataReadFails (hl : [.admin, .fetch, .sched, .windows, .master, .port, .notices, .compl, .stats] ⊆ l) :
    p.Keeps l (q.dataReadFails) ↔ p.Keeps l q := (q.dataReadFails_keeps).iff hl

theorem Part.dataRead_keeps (p : Part) (d : Option BurstData) :
    p.Keeps [.host, .admin, .fetch, .sched, .windows, .master, .port, .notices, .compl, .stats, .out] (p.dataRead d) := by
  simp only [Part.dataRead]
  (repeat' split) <;> simp

@[simp] theorem Part.keeps_dataRead (d : Option BurstData) (hl : [.host, .admin, .fetch, .sched, .windows, .master, .port, .notices, .compl, .stats, .out] ⊆ l) :
    p.Keeps l (q.dataRead d) ↔ p.Keeps l q := (q.dataRead_keeps _).iff hl

theorem Part.takeAnswer_keeps (p : Part) (a : Answer) (ad : BusWord) (b : Bool) :
    p.Keeps [.host, .admin, .fetch, .sched, .windows, .master, .port, .notices, .compl, .stats, .out] (p.takeAnswer a ad b) := by
  unfold Part.takeAnswer
  (repeat' split) <;> simp

@[simp] theorem Part.keeps_takeAnswer (a : Answer) (ad : BusWord) (b : Bool) (hl : [.host, .admin, .fetch, .sched, .windows, .master, .port, .notices, .compl, .stats, .out] ⊆ l) :
    p.Keeps l (q.takeAnswer a ad b) ↔ p.Keeps l q := (q.takeAnswer_keeps _ _ _).iff hl

theorem Part.expireResponse_keeps (p : Part) :
    p.Keeps [.host, .admin, .fetch, .sched, .windows, .master, .port, .notices, .compl, .stats, .out] (p.expireResponse) := by
  unfold Part.expireResponse
  (repeat' split) <;> simp

@[simp] theorem Part.keeps_expireResponse (hl : [.host, .admin, .fetch, .sched, .windows, .master, .port, .notices, .compl, .stats, .out] ⊆ l) :
    p.Keeps l (q.expireResponse) ↔ p.Keeps l q := (q.expireResponse_keeps).iff hl

theorem Part.delivered_keeps (p : Part) (b : Bool) :
    p.Keeps [.host, .admin, .fetch, .sched, .windows, .master, .port, .notices, .compl, .stats] (p.delivered b) := by
  simp only [Part.delivered]
  (repeat' split) <;> simp

@[simp] theorem Part.keeps_delivered (b : Bool) (hl : [.host, .admin, .fetch, .sched, .windows, .master, .port, .notices, .compl, .stats] ⊆ l) :
    p.Keeps l (q.delivered b) ↔ p.Keeps l q := (q.delivered_keeps _).iff hl

theorem Part.startClose_keeps (p : Part) :
    p.Keeps [.host, .admin, .windows, .master, .port, .notices, .out] (p.startClose) := by
  unfold Part.startClose
  (repeat' split) <;> simp

@[simp] theorem Part.keeps_startClose (hl : [.host, .admin, .windows, .master, .port, .notices, .out] ⊆ l) :
    p.Keeps l (q.startClose) ↔ p.Keeps l q := (q.startClose_keeps).iff hl

theorem Part.chooseRing_keeps (p : Part) (i : Fin 8) :
    p.Keeps [.host, .fetch, .compl] (p.chooseRing i) := by
  simp [Part.chooseRing]

@[simp] theorem Part.keeps_chooseRing (i : Fin 8) (hl : [.host, .fetch, .compl] ⊆ l) :
    p.Keeps l (q.chooseRing i) ↔ p.Keeps l q := (q.chooseRing_keeps _).iff hl

theorem Part.choose_keeps (p : Part) :
    p.Keeps [.host, .admin, .fetch, .port, .notices, .compl] (p.choose) := by
  unfold Part.choose
  (repeat' split) <;> simp

@[simp] theorem Part.keeps_choose (hl : [.host, .admin, .fetch, .port, .notices, .compl] ⊆ l) :
    p.Keeps l (q.choose) ↔ p.Keeps l q := (q.choose_keeps).iff hl

theorem Part.discardFlight_keeps (p : Part) (f : Flight) :
    p.Keeps [.admin, .fetch, .port, .compl] (p.discardFlight f) := by
  simp [Part.discardFlight]

@[simp] theorem Part.keeps_discardFlight (f : Flight) (hl : [.admin, .fetch, .port, .compl] ⊆ l) :
    p.Keeps l (q.discardFlight f) ↔ p.Keeps l q := (q.discardFlight_keeps _).iff hl

theorem Part.takeRecord_keeps (p : Part) (f : Flight) (x : Block) :
    p.Keeps [.admin, .fetch, .sched, .windows, .port, .compl, .stats] (p.takeRecord f x) := by
  simp only [Part.takeRecord]
  (repeat' split) <;> simp

@[simp] theorem Part.keeps_takeRecord (f : Flight) (x : Block) (hl : [.admin, .fetch, .sched, .windows, .port, .compl, .stats] ⊆ l) :
    p.Keeps l (q.takeRecord f x) ↔ p.Keeps l q := (q.takeRecord_keeps _ _).iff hl

theorem Part.handBurst_keeps (p : Part) (k : Fin 8) :
    p.Keeps [.host, .sched, .master, .stats, .out] (p.handBurst k) := by
  simp only [Part.handBurst]
  (repeat' split) <;> simp

@[simp] theorem Part.keeps_handBurst (k : Fin 8) (hl : [.host, .sched, .master, .stats, .out] ⊆ l) :
    p.Keeps l (q.handBurst k) ↔ p.Keeps l q := (q.handBurst_keeps _).iff hl

theorem Part.select_keeps (p : Part) :
    p.Keeps [.host, .admin, .sched, .master, .port, .notices, .stats, .out] (p.select) := by
  simp only [Part.select]
  (repeat' split) <;> simp

@[simp] theorem Part.keeps_select (hl : [.host, .admin, .sched, .master, .port, .notices, .stats, .out] ⊆ l) :
    p.Keeps l (q.select) ↔ p.Keeps l q := (q.select_keeps).iff hl

theorem Part.settleOnly_keeps (p : Part) :
    p.Keeps [.host, .admin, .fetch, .sched, .windows, .port, .notices, .compl, .stats] (p.settleOnly) := by
  unfold Part.settleOnly
  (repeat' split) <;> simp

@[simp] theorem Part.keeps_settleOnly (hl : [.host, .admin, .fetch, .sched, .windows, .port, .notices, .compl, .stats] ⊆ l) :
    p.Keeps l (q.settleOnly) ↔ p.Keeps l q := (q.settleOnly_keeps).iff hl

theorem Part.handNext_keeps (p : Part) :
    p.Keeps [.host, .admin, .fetch, .sched, .port, .notices, .compl] (p.handNext) := by
  unfold Part.handNext
  (repeat' split) <;> simp

@[simp] theorem Part.keeps_handNext (hl : [.host, .admin, .fetch, .sched, .port, .notices, .compl] ⊆ l) :
    p.Keeps l (q.handNext) ↔ p.Keeps l q := (q.handNext_keeps).iff hl

theorem Part.walkStep_keeps (p : Part) (f : Flush) (n : Nat) :
    p.Keeps [.host, .admin, .fetch, .sched, .port, .notices, .compl] (p.walkStep f n) := by
  simp only [Part.walkStep]
  (repeat' split) <;> simp

@[simp] theorem Part.keeps_walkStep (f : Flush) (n : Nat) (hl : [.host, .admin, .fetch, .sched, .port, .notices, .compl] ⊆ l) :
    p.Keeps l (q.walkStep f n) ↔ p.Keeps l q := (q.walkStep_keeps _ _).iff hl

theorem Part.flushWalk_keeps (p : Part) :
    p.Keeps [.host, .admin, .fetch, .sched, .port, .notices, .compl] (p.flushWalk) := by
  unfold Part.flushWalk
  (repeat' split) <;> simp

@[simp] theorem Part.keeps_flushWalk (hl : [.host, .admin, .fetch, .sched, .port, .notices, .compl] ⊆ l) :
    p.Keeps l (q.flushWalk) ↔ p.Keeps l q := (q.flushWalk_keeps).iff hl

theorem Part.finishDeletion_keeps (p : Part) :
    p.Keeps [.host, .admin, .fetch, .port, .notices, .compl] (p.finishDeletion) := by
  unfold Part.finishDeletion
  (repeat' split) <;> simp

@[simp] theorem Part.keeps_finishDeletion (hl : [.host, .admin, .fetch, .port, .notices, .compl] ⊆ l) :
    p.Keeps l (q.finishDeletion) ↔ p.Keeps l q := (q.finishDeletion_keeps).iff hl

theorem Part.finishDraining_keeps (p : Part) :
    p.Keeps [.host, .admin, .windows, .port, .notices, .compl] (p.finishDraining) := by
  unfold Part.finishDraining
  (repeat' split) <;> simp

@[simp] theorem Part.keeps_finishDraining (hl : [.host, .admin, .windows, .port, .notices, .compl] ⊆ l) :
    p.Keeps l (q.finishDraining) ↔ p.Keeps l q := (q.finishDraining_keeps).iff hl

theorem Part.reportWritten_keeps (p : Part) (b : Bool) :
    p.Keeps [.host, .admin, .port, .notices, .compl] (p.reportWritten b) := by
  simp only [Part.reportWritten]
  (repeat' split) <;> simp

@[simp] theorem Part.keeps_reportWritten (b : Bool) (hl : [.host, .admin, .port, .notices, .compl] ⊆ l) :
    p.Keeps l (q.reportWritten b) ↔ p.Keeps l q := (q.reportWritten_keeps _).iff hl

theorem Part.completeRelease_keeps (p : Part) :
    p.Keeps [.port] (p.completeRelease) := by
  unfold Part.completeRelease
  (repeat' split) <;> simp

@[simp] theorem Part.keeps_completeRelease (hl : [.port] ⊆ l) :
    p.Keeps l (q.completeRelease) ↔ p.Keeps l q := (q.completeRelease_keeps).iff hl

theorem Part.takeGrant_keeps (p : Part) :
    p.Keeps [.port, .notices] (p.takeGrant) := by
  simp [Part.takeGrant]

@[simp] theorem Part.keeps_takeGrant (hl : [.port, .notices] ⊆ l) :
    p.Keeps l (q.takeGrant) ↔ p.Keeps l q := (q.takeGrant_keeps).iff hl

theorem Part.grantRises_keeps (p : Part) :
    p.Keeps [.host, .admin, .sched, .master, .port, .notices] (p.grantRises) := by
  simp only [Part.grantRises]
  (repeat' split) <;> simp

@[simp] theorem Part.keeps_grantRises (hl : [.host, .admin, .sched, .master, .port, .notices] ⊆ l) :
    p.Keeps l (q.grantRises) ↔ p.Keeps l q := (q.grantRises_keeps).iff hl

theorem Part.afterTenure_keeps (p : Part) :
    p.Keeps [.admin, .port, .notices, .compl, .stats] (p.afterTenure) := by
  unfold Part.afterTenure
  (repeat' split) <;> simp

@[simp] theorem Part.keeps_afterTenure (hl : [.admin, .port, .notices, .compl, .stats] ⊆ l) :
    p.Keeps l (q.afterTenure) ↔ p.Keeps l q := (q.afterTenure_keeps).iff hl

theorem Part.endTenure_keeps (p : Part) :
    p.Keeps [.admin, .sched, .port, .notices, .compl, .stats] (p.endTenure) := by
  simp [Part.endTenure]

@[simp] theorem Part.keeps_endTenure (hl : [.admin, .sched, .port, .notices, .compl, .stats] ⊆ l) :
    p.Keeps l (q.endTenure) ↔ p.Keeps l q := (q.endTenure_keeps).iff hl

theorem Part.loseGrant_keeps (p : Part) :
    p.Keeps [.host, .admin, .fetch, .sched, .windows, .master, .port, .notices, .compl, .stats] (p.loseGrant) := by
  simp only [Part.loseGrant]
  (repeat' split) <;> simp

@[simp] theorem Part.keeps_loseGrant (hl : [.host, .admin, .fetch, .sched, .windows, .master, .port, .notices, .compl, .stats] ⊆ l) :
    p.Keeps l (q.loseGrant) ↔ p.Keeps l q := (q.loseGrant_keeps).iff hl

theorem Part.grantDrops_keeps (p : Part) :
    p.Keeps [.host, .admin, .fetch, .sched, .windows, .master, .port, .notices, .compl, .stats] (p.grantDrops) := by
  simp only [Part.grantDrops]
  (repeat' split) <;> simp

@[simp] theorem Part.keeps_grantDrops (hl : [.host, .admin, .fetch, .sched, .windows, .master, .port, .notices, .compl, .stats] ⊆ l) :
    p.Keeps l (q.grantDrops) ↔ p.Keeps l q := (q.grantDrops_keeps).iff hl

theorem Part.withdraw_keeps (p : Part) :
    p.Keeps [.host, .admin, .sched, .master, .port, .notices] (p.withdraw) := by
  simp only [Part.withdraw]
  (repeat' split) <;> simp

@[simp] theorem Part.keeps_withdraw (hl : [.host, .admin, .sched, .master, .port, .notices] ⊆ l) :
    p.Keeps l (q.withdraw) ↔ p.Keeps l q := (q.withdraw_keeps).iff hl

theorem Part.loseLink_keeps (p : Part) (c : DetachCause) :
    p.Keeps [.host, .admin, .fetch, .sched, .windows, .master, .port, .notices, .compl, .stats] (p.loseLink c) := by
  unfold Part.loseLink
  (repeat' split) <;> simp

@[simp] theorem Part.keeps_loseLink (c : DetachCause) (hl : [.host, .admin, .fetch, .sched, .windows, .master, .port, .notices, .compl, .stats] ⊆ l) :
    p.Keeps l (q.loseLink c) ↔ p.Keeps l q := (q.loseLink_keeps _).iff hl

theorem Part.seePhase_keeps (p : Part) (c : PhaseCode) :
    p.Keeps [.port, .notices] (p.seePhase c) := by
  simp only [Part.seePhase]
  (repeat' split) <;> simp

@[simp] theorem Part.keeps_seePhase (c : PhaseCode) (hl : [.port, .notices] ⊆ l) :
    p.Keeps l (q.seePhase c) ↔ p.Keeps l q := (q.seePhase_keeps _).iff hl

theorem Part.finishJoin_keeps (p : Part) :
    p.Keeps [.host, .admin, .port, .notices, .stats] (p.finishJoin) := by
  unfold Part.finishJoin
  (repeat' split) <;> simp

@[simp] theorem Part.keeps_finishJoin (hl : [.host, .admin, .port, .notices, .stats] ⊆ l) :
    p.Keeps l (q.finishJoin) ↔ p.Keeps l q := (q.finishJoin_keeps).iff hl

theorem Part.answerNotice_keeps (p : Part) (n : Nat) :
    p.Keeps [.notices, .stats, .out] (p.answerNotice n) := by
  unfold Part.answerNotice
  (repeat' split) <;> simp

@[simp] theorem Part.keeps_answerNotice (n : Nat) (hl : [.notices, .stats, .out] ⊆ l) :
    p.Keeps l (q.answerNotice n) ↔ p.Keeps l q := (q.answerNotice_keeps _).iff hl

theorem Part.noticePhase_keeps (p : Part) (ad : BusWord) (n : Nat) (b : Bool) :
    p.Keeps [.port, .notices, .stats, .out] (p.noticePhase ad n b) := by
  simp only [Part.noticePhase]
  (repeat' split) <;> simp

@[simp] theorem Part.keeps_noticePhase (ad : BusWord) (n : Nat) (b : Bool) (hl : [.port, .notices, .stats, .out] ⊆ l) :
    p.Keeps l (q.noticePhase ad n b) ↔ p.Keeps l q := (q.noticePhase_keeps _ _ _).iff hl

theorem Part.noticeBeatTaken_keeps (p : Part) (ad : BusWord) (b : Bool) :
    p.Keeps [.port, .notices, .out] (p.noticeBeatTaken ad b) := by
  simp only [Part.noticeBeatTaken]
  (repeat' split) <;> simp

@[simp] theorem Part.keeps_noticeBeatTaken (ad : BusWord) (b : Bool) (hl : [.port, .notices, .out] ⊆ l) :
    p.Keeps l (q.noticeBeatTaken ad b) ↔ p.Keeps l q := (q.noticeBeatTaken_keeps _ _).iff hl

theorem Part.filterNotice_keeps (p : Part) (i : Fin 4) :
    p.Keeps [.notices, .stats] (p.filterNotice i) := by
  simp only [Part.filterNotice]
  (repeat' split) <;> simp

@[simp] theorem Part.keeps_filterNotice (i : Fin 4) (hl : [.notices, .stats] ⊆ l) :
    p.Keeps l (q.filterNotice i) ↔ p.Keeps l q := (q.filterNotice_keeps _).iff hl

theorem Part.checkTaken_keeps (p : Part) (ad : BusWord) (b : Bool) :
    p.Keeps [.host, .admin, .port, .notices, .compl, .stats, .out] (p.checkTaken ad b) := by
  simp only [Part.checkTaken]
  (repeat' split) <;> simp

@[simp] theorem Part.keeps_checkTaken (ad : BusWord) (b : Bool) (hl : [.host, .admin, .port, .notices, .compl, .stats, .out] ⊆ l) :
    p.Keeps l (q.checkTaken ad b) ↔ p.Keeps l q := (q.checkTaken_keeps _ _).iff hl

theorem Part.noticeSignals_keeps (p : Part) (b : Bool) :
    p.Keeps [.host, .notices, .out] (p.noticeSignals b) := by
  simp only [Part.noticeSignals]
  (repeat' split) <;> simp

@[simp] theorem Part.keeps_noticeSignals (b : Bool) (hl : [.host, .notices, .out] ⊆ l) :
    p.Keeps l (q.noticeSignals b) ↔ p.Keeps l q := (q.noticeSignals_keeps _).iff hl

theorem Part.finishNoticeRing_keeps (p : Part) :
    p.Keeps [.admin, .notices, .compl] (p.finishNoticeRing) := by
  unfold Part.finishNoticeRing
  (repeat' split) <;> simp

@[simp] theorem Part.keeps_finishNoticeRing (hl : [.admin, .notices, .compl] ⊆ l) :
    p.Keeps l (q.finishNoticeRing) ↔ p.Keeps l q := (q.finishNoticeRing_keeps).iff hl

theorem Part.postingSignal_keeps (p : Part) (i : Fin 8) :
    p.Keeps [.host, .compl, .out] (p.postingSignal i) := by
  unfold Part.postingSignal
  (repeat' split) <;> simp

@[simp] theorem Part.keeps_postingSignal (i : Fin 8) (hl : [.host, .compl, .out] ⊆ l) :
    p.Keeps l (q.postingSignal i) ↔ p.Keeps l q := (q.postingSignal_keeps _).iff hl

theorem Part.flushedWritten_keeps (p : Part) (c : Completion) :
    p.Keeps [.admin, .compl] (p.flushedWritten c) := by
  simp only [Part.flushedWritten]
  (repeat' split) <;> simp

@[simp] theorem Part.keeps_flushedWritten (c : Completion) (hl : [.admin, .compl] ⊆ l) :
    p.Keeps l (q.flushedWritten c) ↔ p.Keeps l q := (q.flushedWritten_keeps _).iff hl

end Sys2Proof.Machine
end

section
/-! The engine law (R165, R166, R172, R174): of the commands, only ENABLE, QUIESCE, the resets, the register
writes and the fatal reports touch Engine Control. -/

-- One declaration at a time: every further thread counts against the memory the check allows.
set_option Elab.async false

namespace Sys2Proof.Machine

variable {p q : Part}

/-! ### The fields the law is about -/

/-- Engine Control as the law sees it: NOTIFY_DROPPED and the admin registers play no part in it. -/
structure Engine.SameLaw (a b : Engine) : Prop where
  state : b.state = a.state
  cause : b.cause = a.cause
  ringId : b.ringId = a.ringId
  areaBase : b.areaBase = a.areaBase
  areaSize : b.areaSize = a.areaSize

theorem EngineLaw.congr (h : EngineLaw p) (hq : p.engine.SameLaw q.engine) : EngineLaw q := by
  obtain ⟨hstate, hcause, hid, hbase, hsize⟩ := hq
  obtain ⟨pair, off, alive, failed, area⟩ := h
  constructor <;> simp only [hstate, hcause, hid, hbase, hsize] <;> assumption

/-- Every block but Engine Control. -/
abbrev besideEngine : List Region :=
  [.host, .admin, .fetch, .sched, .windows, .master, .port, .notices, .compl, .stats, .out]

theorem EngineLaw.keeps (h : EngineLaw p) (hq : p.Keeps besideEngine q) : EngineLaw q :=
  h.congr (by rw [hq.engine]; exact ⟨rfl, rfl, rfl, rfl, rfl⟩)

theorem EngineLaw.react (h : EngineLaw p) : EngineLaw p.react := h.keeps (by simp)

/-! ### Engine Control and the registers -/

theorem EngineLaw.of_reset (h : p.engine = Engine.reset) : EngineLaw p := by
  constructor <;> simp [h, Engine.reset, fatalPair, EngineState.alive]

theorem EngineLaw.dropNotify (h : EngineLaw p) : EngineLaw p.dropNotify :=
  h.congr ⟨rfl, rfl, rfl, rfl, rfl⟩

/-- A change of engine state between RUNNING, QUIESCING and QUIESCED. -/
theorem EngineLaw.onAlive (h : EngineLaw p) {st : EngineState} (hp : p.engine.state.alive = true)
    (hst : st.alive = true) : EngineLaw (p.onEngine fun e => { e with state := st }) where
  pair := h.pair
  off := by rintro rfl; cases hst
  alive _ := h.alive hp
  failed := by rintro rfl; cases hst
  area _ := h.area hp

theorem EngineLaw.enableFromOff (hlegal : p.engine.adminLegal = true) : EngineLaw p.enableFromOff where
  pair := rfl
  off := nofun
  alive _ := rfl
  failed := nofun
  area _ := Bool.and_eq_true_iff.1 hlegal

theorem EngineLaw.badAdmin (h : p.engine.state = .off) :
    EngineLaw (p.onEngine fun e => { e with cause := .badAdmin, ringId := 0 }) where
  pair := rfl
  off _ := .inr rfl
  alive ha := by simp [h, EngineState.alive] at ha
  failed hf := by simp [h] at hf
  area ha := by simp [h, EngineState.alive] at ha

theorem EngineLaw.enable (h : EngineLaw p) : EngineLaw p.enable := by
  unfold Part.enable
  split
  · split
    · exact (EngineLaw.enableFromOff ‹_›).react
    · exact .badAdmin ‹_›
  · have hrunning := h.onAlive (st := .running) (by simp [*, EngineState.alive]) rfl
    exact (hrunning.keeps (by simp)).react
  all_goals exact h

theorem EngineLaw.reachQuiesced (h : EngineLaw p) : EngineLaw p.reachQuiesced := by
  unfold Part.reachQuiesced
  split
  · next hq => exact h.onAlive (by simp [hq.1, EngineState.alive]) rfl
  · exact h

theorem EngineLaw.quiesce (h : EngineLaw p) : EngineLaw p.quiesce := by
  unfold Part.quiesce
  split
  · have hquiescing := h.onAlive (st := .quiescing) (by simp [*, EngineState.alive]) rfl
    exact ((hquiescing.keeps (q := Part.endHold _) (by simp)).react).reachQuiesced
  all_goals exact h

theorem EngineLaw.writeState (h : EngineLaw p) (v : BitVec 32) : EngineLaw (p.writeState v) := by
  unfold Part.writeState
  split
  · exact h.congr ⟨rfl, rfl, rfl, rfl, rfl⟩
  · exact h

theorem EngineLaw.plainWrite (h : EngineLaw p) (o : BitVec 12) (n : Nat) (v : BitVec 32) :
    EngineLaw (p.plainWrite o n v) := by
  unfold Part.plainWrite
  (repeat' split)
  iterate 3 exact h.congr ⟨rfl, rfl, rfl, rfl, rfl⟩
  all_goals exact h

/-! ### NOTIFY -/

theorem EngineLaw.submit (h : EngineLaw p) (ring : BitVec 4) (index : BitVec 12) :
    EngineLaw (p.submit ring index) := by
  unfold Part.submit
  (repeat' split)
  · exact h.keeps (by simp)
  all_goals exact h.dropNotify

theorem EngineLaw.complete (h : EngineLaw p) (ring : BitVec 4) (index : BitVec 12) (arm : Bool) :
    EngineLaw (p.complete ring index arm) := by
  simp only [Part.complete]
  (repeat' split)
  iterate 2 exact h.keeps (by simp)
  all_goals exact h.dropNotify

theorem EngineLaw.notice (h : EngineLaw p) (index : BitVec 12) (arm : Bool) :
    EngineLaw (p.notice index arm) := by
  simp only [Part.notice]
  (repeat' split)
  iterate 2 exact h.keeps (by simp)
  exact h.dropNotify

theorem EngineLaw.adminSubmit (h : EngineLaw p) (index : BitVec 12) :
    EngineLaw (p.adminSubmit index) := by
  unfold Part.adminSubmit
  split
  · exact h.keeps (by simp)
  · exact h.dropNotify

theorem EngineLaw.adminComplete (h : EngineLaw p) (index : BitVec 12) (arm : Bool) :
    EngineLaw (p.adminComplete index arm) := by
  simp only [Part.adminComplete]
  (repeat' split)
  iterate 2 exact h.keeps (by simp)
  exact h.dropNotify

/-! ### The entry into FAILED (R174) -/

/-- A fatal cause and its ring id, as R165's table gives them. -/
structure Fatal (c : FatalCause) (id : Nat) : Prop where
  pair : fatalPair c id
  some : c ≠ .none
  report : c ≠ .badAdmin

theorem fatal_submissionRead (r : Fin 8) : Fatal .submissionRead r.val := ⟨r.isLt, nofun, nofun⟩
theorem fatal_completionWrite (c : Fin 8) : Fatal .completionWrite c.val := ⟨c.isLt, nofun, nofun⟩
theorem fatal_adminRead : Fatal .adminRead 15 := ⟨rfl, nofun, nofun⟩
theorem fatal_adminCompletionWrite : Fatal .adminCompletionWrite 15 := ⟨rfl, nofun, nofun⟩
theorem fatal_noticeWrite : Fatal .noticeWrite 14 := ⟨rfl, nofun, nofun⟩

theorem EngineLaw.enterFailed (h : EngineLaw p) {c : FatalCause} {id : Nat} (hc : Fatal c id) :
    EngineLaw (p.enterFailed c id) := by
  simp only [Part.enterFailed]
  split
  · have hfailed : EngineLaw (p.onEngine fun e =>
        { e with state := .failed, cause := c, ringId := id }) :=
      ⟨hc.pair, nofun, nofun, fun _ => ⟨hc.some, hc.report⟩, nofun⟩
    exact hfailed.keeps (by simp)
  · exact h

theorem EngineLaw.submissionReadFails (h : EngineLaw p) : EngineLaw p.submissionReadFails := by
  unfold Part.submissionReadFails
  split
  · next f _ => exact h.enterFailed (fatal_submissionRead f.ring)
  · exact h

theorem EngineLaw.commandReadFails (h : EngineLaw p) : EngineLaw p.commandReadFails :=
  h.enterFailed fatal_adminRead

theorem EngineLaw.readTimesOut (h : EngineLaw p) : EngineLaw p.readTimesOut := by
  have hclosed : EngineLaw p.closeAccess := h.keeps (by simp)
  unfold Part.readTimesOut
  (repeat' split)
  · exact hclosed.submissionReadFails.react
  · exact hclosed.commandReadFails.react
  iterate 2 exact h.keeps (by simp)
  · exact h

theorem EngineLaw.submissionRead (h : EngineLaw p) (result : Option Block) :
    EngineLaw (p.submissionRead result) := by
  have hclosed : EngineLaw (p.forRead .ringFetch result.isSome).closeAccess := h.keeps (by simp)
  simp only [Part.submissionRead]
  (repeat' split)
  iterate 2 exact hclosed.keeps (by simp)
  · exact hclosed.submissionReadFails.react
  iterate 2 exact hclosed
  · exact h.keeps (by simp)

theorem EngineLaw.noticeWritten (h : EngineLaw p) (done : Bool) : EngineLaw (p.noticeWritten done) := by
  have hclosed : EngineLaw (p.forWrite .notices done).closeAccess := h.keeps (by simp)
  simp only [Part.noticeWritten]
  (repeat' split)
  iterate 2 exact hclosed.keeps (by simp)
  · exact (hclosed.enterFailed fatal_noticeWrite).react
  · exact hclosed
  · exact h.keeps (by simp)

theorem EngineLaw.completionWritten (h : EngineLaw p) (done : Bool) :
    EngineLaw (p.completionWritten done) := by
  have hclosed : EngineLaw (p.forWrite .posting done).closeAccess := h.keeps (by simp)
  simp only [Part.completionWritten]
  (repeat' split)
  · exact hclosed.keeps (by simp)
  · next c _ _ _ => exact (hclosed.enterFailed (fatal_completionWrite c.reservation)).react
  · exact hclosed
  · exact h.keeps (by simp)

theorem EngineLaw.adminWritten (h : EngineLaw p) (done : Bool) : EngineLaw (p.adminWritten done) := by
  have hclosed : EngineLaw (p.forWrite .adminPosting done).closeAccess := h.keeps (by simp)
  simp only [Part.adminWritten]
  (repeat' split)
  iterate 2 exact hclosed.keeps (by simp)
  · exact (hclosed.enterFailed fatal_adminCompletionWrite).react
  · exact h.keeps (by simp)

/-! ### Every command -/

theorem EngineLaw.arrive (h : EngineLaw p) (rec : Block) {f : Part → Part}
    (hf : ∀ p, Part.Keeps besideEngine p (f p)) : EngineLaw (p.arrive rec f) :=
  h.keeps (Part.arrive_keeps hf p rec)

theorem EngineLaw.arrive_checked (h : EngineLaw p) (rec : Block)
    {checks : Part → List (Bool × Status)} {f : Part → Part}
    (hf : ∀ p, Part.Keeps besideEngine p (f p)) :
    EngineLaw (p.arrive rec fun p => p.checked (checks p) f) :=
  h.arrive rec fun p => p.checked_keeps (hf p) _

/-- The effect of a command other than a register write. -/
theorem EngineLaw.effect (h : EngineLaw p) (c : Instr) (hc : ∀ o n v, c ≠ .registerWrite o n v) :
    EngineLaw (effect c p) := by
  cases c with
  | registerWrite o n v => exact absurd rfl (hc o n v)
  | powerOnReset => exact .of_reset rfl
  | functionLevelReset | reset => exact .of_reset rfl
  | enable => exact h.enable
  | quiesce => exact h.quiesce
  | quiescedReached => exact h.reachQuiesced
  | stateWrite value => exact h.writeState value
  | submit ring index arm => exact h.submit ring index
  | complete ring index arm => exact h.complete ring index arm
  | notice ring index arm => exact h.notice index arm
  | adminSubmit ring index arm => exact h.adminSubmit index
  | adminComplete ring index arm => exact h.adminComplete index arm
  | notifyInvalidKind word => exact h.dropNotify
  | hostReadTimeout => exact h.readTimesOut
  | submissionReadDone result => exact h.submissionRead result
  | noticeEntryWriteDone done => exact h.noticeWritten done
  | completionEntryWriteDone done => exact h.completionWritten done
  | adminCompletionWriteDone done => exact h.adminWritten done
  | adminCommandReadFailed =>
    have hread : EngineLaw (p.forRead .administration false) := h.keeps (by simp)
    have hclosed : EngineLaw (p.forRead .administration false).closeAccess := h.keeps (by simp)
    simp only [Machine.effect]
    split
    · exact hclosed.commandReadFails.react
    · exact hread
  | unknownCommand rec =>
    exact h.arrive rec (f := (Part.endCommand · .unknownCommand 0#32)) fun p => by simp
  | createCring rec | deleteCring rec | createSring rec | deleteSring rec | haltSring rec
  | resumeSring rec | flushSring rec | setWindow rec | clearWindow rec | reopenWindow rec | setNode rec
  | setNoticeRing rec | setFilter rec | attach rec | detach rec | query rec =>
    simp only [Machine.effect]
    exact h.arrive_checked rec fun p => by simp
  | linkLoss | backplaneReset =>
    simp only [Machine.effect]
    split
    all_goals exact h.keeps (by simp)
  | hostAccessIssue | ringChoice | selection | settleOnlySettlement | postingHandover
  | writeDataReadDone | targetAnswer | responseLimitExpiry | readDataWriteDone | openTimerExpiry
  | closeOperation | releaseComplete | gntRise | gntDrop | withdraw | phaseActivity | joinTimerExpiry
  | inboundNoticePhase | inboundNoticeBeat | inboundCheckWord | noticeReceiveTimeout
  | sringDeletionEnd | flushWalk | endOfDraining | queryReportWriteDone | vectorUnmask | clockReturn
  | rstReleased | wdrDeasserted | vectorMasked => exact h.keeps (by simp [Machine.effect])

theorem keptByClocks_engineLaw : KeptByClocks EngineLaw where
  join _ h _ _ := h.keeps (by simp)
  banks _ h := h.keeps (by simp [Part.tickBanks])
  response _ h := h.keeps (by simp)
  receive _ _ h := h.keeps (by simp)
  read _ h := h.keeps (by simp)

/-- Settles O4. A command's effect leaves Engine Control as it is, or is one of those that R165 to R174 let
change it; a register write has the effect of its row. -/
theorem everyStepKeepsTheEngineLaw : Obligations.EveryStepKeepsTheEngineLaw := by
  intro s t hs hstep
  exact step_keeps (fun c p => effect_keeps (fun _ o n v h => h.plainWrite o n v)
    (fun c _ hc h => h.effect c hc) c) keptByClocks_engineLaw hs hstep

end Sys2Proof.Machine
end

section
/-! Settled states (R93, R97, R98, R101, R103, R20, R121, R128, R139, R148): what has to hold for each of the
seven things that follow at the same event to have nothing to do, that the reaction always ends there, and
which parts are settled with a settled one. -/

-- One declaration at a time: every further thread counts against the memory the check allows.
set_option Elab.async false

namespace Sys2Proof.Machine

variable {p q : Part}

/-! ### When nothing is left to do -/

/-- The port has no move to make (R97, R98, R101, R103, R110). -/
def Part.portStill (p : Part) : Prop :=
  match p.port.state with
  | .idle => p.reportedSet = [] ∨ p.port.gnt = true
  | .requesting => p.setStaysEmpty = false
  | .owner => ¬(p.master.state = .idle ∧ p.setStaysEmpty ∧ p.noHoldComes)
  | .yielding => p.master.state ≠ .idle
  | .detached | .joining | .releasing => True

theorem Part.movePort_eq_self_iff : p.movePort = p ↔ p.portStill := by
  have moved (f : Port → Port) (hf : (f p.port).state ≠ p.port.state) : p.onPort f ≠ p :=
    fun h => hf (congrArg (fun p : Part => p.port.state) h)
  unfold Part.movePort Part.portStill
  cases h : p.port.state <;> simp only
  case idle =>
    split
    · next hset =>
      simp only [Bool.and_eq_true, Bool.not_eq_true', List.isEmpty_eq_false_iff] at hset
      exact iff_of_false (moved _ (by simp [h])) (by simp [hset])
    · next hset => simp_all [← or_iff_not_imp_left]
  case requesting =>
    split
    · next hset => exact iff_of_false (moved _ (by simp [h])) (by simp [hset])
    · next hset => simpa using hset
  case owner =>
    split
    · next hset => exact iff_of_false (moved _ (by simp [h])) (not_not.2 hset)
    · next hset => simpa using hset
  case yielding =>
    split
    · next hset => exact iff_of_false (moved _ (by simp [h])) (not_not.2 hset)
    · next hset => simpa using hset

theorem Part.driveLevel_eq_self_iff :
    p.driveLevel = p ↔ p.port.lvl = if p.port.req then p.requestLevel.getD p.port.lvl else 3 := by
  constructor
  · intro h
    exact (congrArg (fun p : Part => p.port.lvl) h).symm
  · intro h
    simp only [Part.driveLevel, Part.onPort, ← h]

/-- The flush in progress has its end still to be taken (R20). -/
def Part.captureDue (p : Part) : Prop :=
  ∃ f, p.admin.state = .waiting (.flushRing f) ∧ f.stop = none ∧ (p.ring f.ring).heldCount = 0
    ∧ p.engine.state.alive = true

theorem Part.captureFlush_eq_self_iff : p.captureFlush = p ↔ ¬p.captureDue := by
  unfold Part.captureFlush Part.captureDue
  split
  · next f hf =>
    split
    · next h =>
      have : p.waitFor (.flushRing { f with stop := some (p.ring f.ring).producer }) ≠ p := fun he => by
        have hstate := congrArg (fun p : Part => p.admin.state) he
        simp only [Part.waitFor, Part.onAdmin, hf] at hstate
        injection hstate with hstate
        injection hstate with hstate
        simpa [h.1] using congrArg Flush.stop hstate
      simpa [this, hf] using h
    · next h => simpa [hf] using h
  · next h => simp_all

/-- The entry of the completion at the head of the FIFO is still to be asked for (R121). -/
def Part.postingDue (p : Part) : Prop :=
  p.engine.state.working = true ∧ p.hasAccess .posting = false ∧ p.compl.fifo ≠ []

theorem Part.ask_ne_self {x : Source} {a : Access} (h : p.hasAccess x = false) : p.ask x a ≠ p := fun he => by
  have hrequest := congrArg (fun p : Part => p.request x) he
  simp only [Part.ask_request, if_true] at hrequest
  simp [Part.hasAccess, ← hrequest] at h

theorem Part.askPosting_eq_self_iff : p.askPosting = p ↔ ¬p.postingDue := by
  unfold Part.askPosting Part.postingDue
  split
  · next h =>
    simp only [Bool.and_eq_true, Bool.not_eq_true'] at h
    split <;> simp [*, Part.ask_ne_self h.2]
  · next h => simp_all

/-- The entry of the admin completion handed over is still to be asked for (R128). -/
def Part.adminPostingDue (p : Part) : Prop :=
  p.engine.state.working = true ∧ p.hasAccess .adminPosting = false ∧ p.compl.adminHeld ≠ none

theorem Part.askAdminPosting_eq_self_iff : p.askAdminPosting = p ↔ ¬p.adminPostingDue := by
  unfold Part.askAdminPosting Part.adminPostingDue
  split
  · next h =>
    simp only [Bool.and_eq_true, Bool.not_eq_true'] at h
    split <;> simp [*, Part.ask_ne_self h.2]
  · next h => simp_all

theorem Part.askNotice_eq_self_iff :
    p.askNotice = p ↔ ¬(p.engine.state = .running ∧ p.notices.Due) := by
  refine ⟨fun h ⟨hrunning, hdue⟩ => ?_, fun h => Part.askNotice_of_not_due fun hr hd => h ⟨hr, hd⟩⟩
  have hasked := Part.askNotice_write_of_due hrunning hdue
  obtain ⟨⟨-, -, hwrite⟩, -⟩ := hdue
  rw [h] at hasked
  exact hasked hwrite

/-- The next admin command's fetch is still to be asked for (R148). -/
def Part.commandDue (p : Part) : Prop :=
  p.engine.state = .running ∧ p.admin.state = .idle ∧ p.admin.producer ≠ p.admin.consumer
    ∧ 1 ≤ p.adminFree

theorem Part.askCommand_eq_self_iff : p.askCommand = p ↔ ¬p.commandDue := by
  unfold Part.askCommand Part.commandDue
  split
  · next h =>
    refine iff_of_false (fun he => ?_) (not_not.2 h)
    have hstate := congrArg (fun p : Part => p.admin.state) he
    simp [h.2.1] at hstate
  · next h => simp [h]

theorem settled_iff : Settled p ↔ p.portStill
    ∧ (p.port.lvl = if p.port.req then p.requestLevel.getD p.port.lvl else 3)
    ∧ ¬p.captureDue ∧ ¬p.postingDue ∧ ¬p.adminPostingDue
    ∧ ¬(p.engine.state = .running ∧ p.notices.Due) ∧ ¬p.commandDue := by
  rw [← Part.movePort_eq_self_iff, ← Part.driveLevel_eq_self_iff, ← Part.captureFlush_eq_self_iff,
    ← Part.askPosting_eq_self_iff, ← Part.askAdminPosting_eq_self_iff, ← Part.askNotice_eq_self_iff,
    ← Part.askCommand_eq_self_iff]
  exact ⟨fun ⟨a, b, c, d, e, f, g⟩ => ⟨a, b, c, d, e, f, g⟩,
    fun ⟨a, b, c, d, e, f, g⟩ => ⟨a, b, c, d, e, f, g⟩⟩

/-! ### What the port's moves depend on -/

theorem Part.settleView_ring (p : Part) (r : Fin 8) :
    p.settleView.ring r = { p.ring r with producer := 0 } := by
  simp [Part.settleView, Part.ring, Vector.get_eq_getElem]

theorem Part.settleView_readsFenced (p : Part) (w : Fin 16) :
    (p.settleView.window w).readsFenced = (p.window w).readsFenced := by
  have view : p.settleView.window w
      = { Window.unused with state := if (p.window w).readsFenced then .fenced else .unused } := by
    simp [Part.settleView, Part.window, Vector.get_eq_getElem]
  rw [view]
  cases h : (p.window w).readsFenced <;> simp [Window.readsFenced]

theorem Part.settleView_slot (p : Part) (k : Fin 8) : p.settleView.slot k = p.slot k := rfl

theorem Part.settleView_orderMet (p : Part) (s : Slot) : p.settleView.orderMet s = p.orderMet s := by
  simp only [Part.orderMet, Part.settleView_ring]

theorem Part.settleView_slotFenced (p : Part) (s : Slot) :
    p.settleView.slotFenced s = p.slotFenced s := by
  unfold Part.slotFenced
  split
  · exact p.settleView_readsFenced _
  · rfl

theorem Part.settleView_settleStatus (p : Part) (s : Slot) :
    p.settleView.settleStatus s = p.settleStatus s := by
  simp only [Part.settleStatus, Part.settleView_orderMet, Part.settleView_slotFenced]

theorem Part.settleView_busEligible (p : Part) (s : Slot) :
    p.settleView.busEligible s = p.busEligible s := by
  simp only [Part.busEligible, Part.settleView_orderMet, Part.settleView_settleStatus]

theorem Part.settleView_reportedSet (p : Part) : p.settleView.reportedSet = p.reportedSet := by
  simp only [Part.reportedSet, Part.busSet, Part.settleView_busEligible, Part.settleView_slot]
  rfl

theorem Part.settleView_requestLevel (p : Part) : p.settleView.requestLevel = p.requestLevel := by
  simp only [Part.requestLevel, Part.settleView_reportedSet]
  rfl

theorem Part.settleView_settleNext (p : Part) : p.settleView.settleNext = p.settleNext := by
  simp only [Part.settleNext, Part.settleView_settleStatus, Part.settleView_slot]
  rfl

theorem Part.reportedSet_congr (h : q.settleView = p.settleView) : q.reportedSet = p.reportedSet := by
  rw [← p.settleView_reportedSet, ← h, q.settleView_reportedSet]

theorem Part.requestLevel_congr (h : q.settleView = p.settleView) :
    q.requestLevel = p.requestLevel := by
  rw [← p.settleView_requestLevel, ← h, q.settleView_requestLevel]

theorem Part.settleNext_congr (h : q.settleView = p.settleView) : q.settleNext = p.settleNext := by
  rw [← p.settleView_settleNext, ← h, q.settleView_settleNext]

theorem Part.engine_state_congr (h : q.settleView = p.settleView) : q.engine.state = p.engine.state := by
  have hview := congrArg (fun p : Part => p.engine.state) h
  exact hview

theorem Part.ring_congr (h : q.settleView = p.settleView) (r : Fin 8) :
    { q.ring r with producer := 0 } = { p.ring r with producer := 0 } := by
  rw [← p.settleView_ring, ← h, q.settleView_ring]

/-- `q` is like `p` in all that the port's own moves depend on. -/
structure Part.SameMoves (p q : Part) : Prop where
  view : q.settleView = p.settleView
  admission : q.fetch.admission = p.fetch.admission
  flight : q.fetch.flight = p.fetch.flight
  master : q.master.state = p.master.state
  state : q.port.state = p.port.state
  gnt : p.port.state = .idle → q.port.gnt = p.port.gnt
  tenure : q.port.tenure = p.port.tenure
  chainHold : q.port.chainHold = p.port.chainHold

theorem Part.SameMoves.portStill (h : p.SameMoves q) (hp : p.portStill) : q.portStill := by
  unfold Part.portStill at *
  rw [h.state, Part.reportedSet_congr h.view, Part.setStaysEmpty_congr h.view,
    Part.noHoldComes_congr h.view h.admission h.flight h.tenure h.chainHold, h.master]
  split at hp <;> simp_all [h.gnt]

/-- An empty reported set and a set that stays empty are the same where nothing settles. -/
theorem Part.reportedSet_of_setStaysEmpty (h : p.setStaysEmpty = true) : p.reportedSet = [] := by
  by_contra hset
  have hnow : Part.settlesInto (fun q => !q.reportedSet.isEmpty) 8 p.settleView = true :=
    Part.settlesInto_of (by simpa [Part.settleView_reportedSet] using hset)
  simp [Part.setStaysEmpty, hnow] at h

/-! ### The reaction ends in a settled state -/

theorem Part.movePort_portStill (p : Part) : p.movePort.portStill := by
  have view : p.movePort.settleView = p.settleView := by
    unfold Part.movePort
    (repeat' split) <;> rfl
  have hset := Part.reportedSet_congr view
  have hstays := Part.setStaysEmpty_congr view
  by_cases hstill : p.portStill
  · rwa [Part.movePort_eq_self_iff.2 hstill]
  unfold Part.portStill at hstill
  split at hstill
  case h_1 h =>
    have hmoved : p.movePort.port.state = .requesting := by simp_all [Part.movePort]
    have hfull : p.setStaysEmpty = false := by
      by_contra hempty
      exact hstill (.inl (Part.reportedSet_of_setStaysEmpty (by simpa using hempty)))
    simpa [Part.portStill, hmoved, hstays] using hfull
  case h_2 h =>
    have hempty : p.setStaysEmpty = true := by simpa using hstill
    have hmoved : p.movePort.port.state = .idle := by simp [Part.movePort, h, hempty]
    simp [Part.portStill, hmoved, hset, Part.reportedSet_of_setStaysEmpty hempty]
  case h_3 h =>
    have hmoved : p.movePort.port.state = .releasing := by simp [Part.movePort, h, not_not.1 hstill]
    simp [Part.portStill, hmoved]
  case h_4 h =>
    have hmoved : p.movePort.port.state = .releasing := by simp [Part.movePort, h, not_not.1 hstill]
    simp [Part.portStill, hmoved]
  all_goals exact absurd trivial hstill

theorem Part.captureFlush_not_due (p : Part) : ¬p.captureFlush.captureDue := by
  by_cases hdue : p.captureDue
  · obtain ⟨f, hf, hstop, hheld, halive⟩ := hdue
    rintro ⟨g, hg, hnone, -⟩
    simp only [Part.captureFlush, hf, hstop, hheld, halive, and_self, if_true, Part.waitFor,
      Part.onAdmin] at hg
    cases hg
    cases hnone
  · rwa [Part.captureFlush_eq_self_iff.2 hdue]

theorem Part.ask_hasAccess (p : Part) (x : Source) (a : Access) : (p.ask x a).hasAccess x = true := by
  simp [Part.hasAccess, Part.ask_request]

theorem Part.askPosting_not_due (p : Part) : ¬p.askPosting.postingDue := by
  by_cases hdue : p.postingDue
  · obtain ⟨hworking, haccess, hfifo⟩ := hdue
    obtain ⟨c, rest, hc⟩ := List.exists_cons_of_ne_nil hfifo
    rintro ⟨-, hno, -⟩
    simp [Part.askPosting, hworking, haccess, hc, Part.ask_hasAccess] at hno
  · rwa [Part.askPosting_eq_self_iff.2 hdue]

theorem Part.askAdminPosting_not_due (p : Part) : ¬p.askAdminPosting.adminPostingDue := by
  by_cases hdue : p.adminPostingDue
  · obtain ⟨hworking, haccess, hheld⟩ := hdue
    obtain ⟨c, hc⟩ := Option.ne_none_iff_exists'.1 hheld
    rintro ⟨-, hno, -⟩
    simp [Part.askAdminPosting, hworking, haccess, hc, Part.ask_hasAccess] at hno
  · rwa [Part.askAdminPosting_eq_self_iff.2 hdue]

theorem Part.askNotice_not_due (p : Part) :
    ¬(p.askNotice.engine.state = .running ∧ p.askNotice.notices.Due) := by
  rintro ⟨hrunning, hdue⟩
  rw [Part.askNotice_engine] at hrunning
  by_cases hp : p.notices.Due
  · obtain ⟨⟨-, -, hwrite⟩, -⟩ := hdue
    exact Part.askNotice_write_of_due hrunning hp hwrite
  · rw [Part.askNotice_of_not_due fun _ => hp] at hdue
    exact hp hdue

theorem Part.askCommand_not_due (p : Part) : ¬p.askCommand.commandDue := by
  by_cases hdue : p.commandDue
  · rintro ⟨-, hidle, -⟩
    have hasked : p.askCommand.admin.state = .fetching := by
      simp only [Part.askCommand]
      split
      · rfl
      · next hno => exact absurd hdue hno
    simp [hasked] at hidle
  · rwa [Part.askCommand_eq_self_iff.2 hdue]

/-- A request once made stays: asking elsewhere and fetching a command withdraw none. -/
theorem Part.hasAccess_ask {x y : Source} {a : Access} (h : p.hasAccess y = true) :
    (p.ask x a).hasAccess y = true := by
  unfold Part.hasAccess at *
  rw [Part.ask_request]
  split
  · rfl
  · exact h

theorem Part.askAdminPosting_hasAccess {y : Source} (h : p.hasAccess y = true) :
    p.askAdminPosting.hasAccess y = true := by
  unfold Part.askAdminPosting
  (repeat' split)
  · exact Part.hasAccess_ask h
  all_goals exact h

theorem Part.askNotice_hasAccess {y : Source} (h : p.hasAccess y = true) :
    p.askNotice.hasAccess y = true := by
  simp only [Part.askNotice]
  (repeat' split)
  iterate 4 exact Part.hasAccess_ask h
  all_goals exact h

theorem Part.askCommand_hasAccess {y : Source} (h : p.hasAccess y = true) :
    p.askCommand.hasAccess y = true := by
  unfold Part.askCommand
  split
  · exact Part.hasAccess_ask h
  · exact h


theorem Part.SameMoves.refl (p : Part) : p.SameMoves p := ⟨rfl, rfl, rfl, rfl, rfl, fun _ => rfl, rfl, rfl⟩

theorem Part.driveLevel_portStill (h : p.portStill) : p.driveLevel.portStill := by
  have hsame : p.SameMoves p.driveLevel := ⟨rfl, rfl, rfl, rfl, rfl, fun _ => rfl, rfl, rfl⟩
  exact hsame.portStill h

theorem Part.driveLevel_level (p : Part) : p.driveLevel.port.lvl =
    if p.driveLevel.port.req then p.driveLevel.requestLevel.getD p.driveLevel.port.lvl else 3 := by
  have hlevel : p.driveLevel.requestLevel = p.requestLevel := Part.requestLevel_congr rfl
  rw [hlevel]
  simp only [Part.driveLevel, Part.onPort]
  split
  · cases p.requestLevel <;> rfl
  · rfl

theorem Part.Keeps.settleView (h : p.Keeps [.host, .admin, .master, .port, .notices, .compl, .stats, .out] q) :
    q.settleView = p.settleView :=
  Part.settleView_congr (by rw [h.engine]) h.sched (fun r => by rw [h.ring r]) fun w => by rw [h.window w]

theorem Part.Keeps.sameMoves (h : p.Keeps [.host, .admin, .notices, .compl, .stats, .out] q) :
    p.SameMoves q where
  view := (h.mono (by simp)).settleView
  admission := by rw [h.fetch]
  flight := by rw [h.fetch]
  master := by rw [h.master]
  state := by rw [h.port]
  gnt := fun _ => by rw [h.port]
  tenure := by rw [h.port]
  chainHold := by rw [h.port]

@[simp] theorem Part.keeps_captureFlush {l : List Region} (hl : [.admin] ⊆ l) :
    p.Keeps l q.captureFlush ↔ p.Keeps l q :=
  Part.Keeps.iff (.of_blocks fun b => by cases b <;> simp [Region.same]) hl

@[simp] theorem Part.keeps_askPosting {l : List Region} (hl : [.host] ⊆ l) :
    p.Keeps l q.askPosting ↔ p.Keeps l q :=
  Part.Keeps.iff (.of_blocks fun b => by cases b <;> simp [Region.same]) hl

@[simp] theorem Part.keeps_askAdminPosting {l : List Region} (hl : [.host] ⊆ l) :
    p.Keeps l q.askAdminPosting ↔ p.Keeps l q :=
  Part.Keeps.iff (.of_blocks fun b => by cases b <;> simp [Region.same]) hl

@[simp] theorem Part.keeps_askNotice {l : List Region} (hl : [.host, .notices] ⊆ l) :
    p.Keeps l q.askNotice ↔ p.Keeps l q :=
  Part.Keeps.iff (.of_blocks fun b => by cases b <;> simp [Region.same]) hl

@[simp] theorem Part.keeps_askCommand {l : List Region} (hl : [.host, .admin] ⊆ l) :
    p.Keeps l q.askCommand ↔ p.Keeps l q :=
  Part.Keeps.iff (.of_blocks fun b => by cases b <;> simp [Region.same]) hl

theorem Part.captureDue.of_keeps (hq : q.captureDue)
    (h : p.Keeps [.host, .admin, .sched, .windows, .master, .port, .notices, .compl, .stats, .out] q)
    (hstate : q.admin.state = p.admin.state) : p.captureDue := by
  obtain ⟨f, hf, hstop, hheld, halive⟩ := hq
  exact ⟨f, hstate ▸ hf, hstop, h.ring f.ring ▸ hheld, h.engine ▸ halive⟩

theorem Part.postingDue.of_access (hq : q.postingDue) (hengine : q.engine.state = p.engine.state)
    (hcompl : q.compl = p.compl) (haccess : p.hasAccess .posting = true → q.hasAccess .posting = true) :
    p.postingDue := by
  obtain ⟨hworking, hno, hfifo⟩ := hq
  refine ⟨hengine ▸ hworking, ?_, hcompl ▸ hfifo⟩
  by_contra h
  simp [haccess (by simpa using h)] at hno

theorem Part.adminPostingDue.of_access (hq : q.adminPostingDue)
    (hengine : q.engine.state = p.engine.state) (hcompl : q.compl = p.compl)
    (haccess : p.hasAccess .adminPosting = true → q.hasAccess .adminPosting = true) :
    p.adminPostingDue := by
  obtain ⟨hworking, hno, hheld⟩ := hq
  refine ⟨hengine ▸ hworking, ?_, hcompl ▸ hheld⟩
  by_contra h
  simp [haccess (by simpa using h)] at hno

theorem Part.askCommand_captureDue (h : p.askCommand.captureDue) : p.captureDue := by
  by_cases hdue : p.commandDue
  · have hfetching : p.askCommand.admin.state = .fetching := by
      simp only [Part.askCommand]
      split
      · rfl
      · next hno => exact absurd hdue hno
    obtain ⟨f, hf, -⟩ := h
    simp [hfetching] at hf
  · rwa [Part.askCommand_eq_self_iff.2 hdue] at h

/-- What follows at one event leaves nothing more to follow. -/
theorem settled_react (p : Part) : Settled p.react := by
  have hmoved : p.movePort.driveLevel.Keeps [.host, .admin, .notices] p.react := by
    simp [Part.react]
  refine settled_iff.2 ⟨hmoved.mono (by simp) |>.sameMoves.portStill
    (Part.driveLevel_portStill p.movePort_portStill), ?_, ?_, ?_, ?_, ?_, Part.askCommand_not_due _⟩
  · rw [hmoved.port, Part.requestLevel_congr (hmoved.mono (by simp)).settleView]
    exact Part.driveLevel_level _
  · intro hdue
    have hasked := Part.askCommand_captureDue hdue
    exact Part.captureFlush_not_due p.movePort.driveLevel (hasked.of_keeps (by simp) (by simp))
  · intro hdue
    refine Part.askPosting_not_due p.movePort.driveLevel.captureFlush
      (Part.postingDue.of_access hdue (by simp) (by simp) fun h => ?_)
    exact Part.askCommand_hasAccess (Part.askNotice_hasAccess (Part.askAdminPosting_hasAccess h))
  · intro hdue
    refine Part.askAdminPosting_not_due p.movePort.driveLevel.captureFlush.askPosting
      (Part.adminPostingDue.of_access hdue (by simp) (by simp) fun h => ?_)
    exact Part.askCommand_hasAccess (Part.askNotice_hasAccess h)
  · rintro ⟨hrunning, hdue⟩
    exact Part.askNotice_not_due p.movePort.driveLevel.captureFlush.askPosting.askAdminPosting
      ⟨by simpa using hrunning, by simpa only [Part.react, Part.askCommand_notices] using hdue⟩

/-! ### Changes that make nothing due -/

/-- `q` is like `p` in all that the seven things depend on, or less of it is due. -/
structure Part.SameDue (p q : Part) : Prop where
  moves : p.SameMoves q
  req : q.port.req = p.port.req
  lvl : q.port.lvl = p.port.lvl
  admin : q.admin = p.admin
  area : q.engine.areaSize = p.engine.areaSize
  compl : q.compl = p.compl
  posting : p.compl.fifo ≠ [] → p.hasAccess .posting = true → q.hasAccess .posting = true
  adminPosting : p.hasAccess .adminPosting = true → q.hasAccess .adminPosting = true
  notices : q.notices.Due → p.notices.Due

theorem Settled.congr (h : Settled p) (hq : p.SameDue q) : Settled q := by
  obtain ⟨hport, hlevel, hflush, hposting, hadmin, hnotice, hcommand⟩ := settled_iff.1 h
  have hengine := Part.engine_state_congr hq.moves.view
  refine settled_iff.2 ⟨hq.moves.portStill hport, ?_, ?_, ?_, ?_, ?_, ?_⟩
  · rw [hq.lvl, hq.req, Part.requestLevel_congr hq.moves.view]
    exact hlevel
  · rintro ⟨f, hf, hstop, hheld, halive⟩
    have hring := congrArg SubmissionRing.heldCount (Part.ring_congr hq.moves.view f.ring)
    exact hflush ⟨f, hq.admin ▸ hf, hstop, hring ▸ hheld, hengine ▸ halive⟩
  · intro hdue
    have hfifo : p.compl.fifo ≠ [] := hq.compl ▸ hdue.2.2
    exact hposting (hdue.of_access hengine hq.compl (hq.posting hfifo))
  · exact fun hdue => hadmin (hdue.of_access hengine hq.compl hq.adminPosting)
  · exact fun ⟨hrunning, hdue⟩ => hnotice ⟨hengine ▸ hrunning, hq.notices hdue⟩
  · rintro ⟨hrunning, hidle, hwaits, hfree⟩
    refine hcommand ⟨hengine ▸ hrunning, hq.admin ▸ hidle, hq.admin ▸ hwaits, ?_⟩
    rwa [Part.adminFree, hq.area, hq.compl] at hfree

/-- An event within these blocks that touches nothing the seven things depend on. -/
theorem Part.Keeps.sameDue (h : p.Keeps [.stats, .out] q) : p.SameDue q where
  moves := (h.mono (by simp)).sameMoves
  req := by rw [h.port]
  lvl := by rw [h.port]
  admin := h.admin
  area := by rw [h.engine]
  compl := h.compl
  posting := fun _ => by simp [Part.hasAccess, Part.outstandingFor, h.host, h.request]
  adminPosting := by simp [Part.hasAccess, Part.outstandingFor, h.host, h.request]
  notices := by rw [h.notices]; exact id

theorem Part.SameDue.trans {r : Part} (h : p.SameDue q) (h' : q.SameDue r) : p.SameDue r where
  moves := { view := h'.moves.view.trans h.moves.view
             admission := h'.moves.admission.trans h.moves.admission
             flight := h'.moves.flight.trans h.moves.flight
             master := h'.moves.master.trans h.moves.master
             state := h'.moves.state.trans h.moves.state
             gnt := fun hp => (h'.moves.gnt (h.moves.state.trans hp)).trans (h.moves.gnt hp)
             tenure := h'.moves.tenure.trans h.moves.tenure
             chainHold := h'.moves.chainHold.trans h.moves.chainHold }
  req := h'.req.trans h.req
  lvl := h'.lvl.trans h.lvl
  admin := h'.admin.trans h.admin
  area := h'.area.trans h.area
  compl := h'.compl.trans h.compl
  posting := fun hfifo hp => h'.posting (h.compl ▸ hfifo) (h.posting hfifo hp)
  adminPosting := h'.adminPosting ∘ h.adminPosting
  notices := h.notices ∘ h'.notices

theorem Part.SameDue.refl (p : Part) : p.SameDue p := (Part.keeps_self _ p).sameDue

/-- A line of the port, its timer or its clock moves nothing. -/
theorem Part.sameDue_onPort {f : Port → Port} (hstate : (f p.port).state = p.port.state)
    (hgnt : p.port.state = .idle → (f p.port).gnt = p.port.gnt)
    (htenure : (f p.port).tenure = p.port.tenure) (hhold : (f p.port).chainHold = p.port.chainHold)
    (hreq : (f p.port).req = p.port.req) (hlvl : (f p.port).lvl = p.port.lvl) :
    p.SameDue (p.onPort f) where
  moves := ⟨rfl, rfl, rfl, rfl, hstate, hgnt, htenure, hhold⟩
  req := hreq
  lvl := hlvl
  admin := rfl
  area := rfl
  compl := rfl
  posting := fun _ => id
  adminPosting := id
  notices := id

theorem Part.sameDue_onHost {f : HostPort → HostPort}
    (hposting : p.compl.fifo ≠ [] → p.hasAccess .posting = true →
      (p.onHost f).hasAccess .posting = true)
    (hadmin : p.hasAccess .adminPosting = true → (p.onHost f).hasAccess .adminPosting = true) :
    p.SameDue (p.onHost f) where
  moves := ⟨rfl, rfl, rfl, rfl, rfl, fun _ => rfl, rfl, rfl⟩
  req := rfl
  lvl := rfl
  admin := rfl
  area := rfl
  compl := rfl
  posting := hposting
  adminPosting := hadmin
  notices := id

theorem Part.sameDue_onEngine {f : Engine → Engine} (hstate : (f p.engine).state = p.engine.state)
    (harea : (f p.engine).areaSize = p.engine.areaSize) : p.SameDue (p.onEngine f) where
  moves := { view := Part.settleView_congr hstate rfl (fun _ => rfl) fun _ => rfl
             admission := rfl, flight := rfl, master := rfl, state := rfl, gnt := fun _ => rfl
             tenure := rfl, chainHold := rfl }
  req := rfl
  lvl := rfl
  admin := rfl
  area := harea
  compl := rfl
  posting := fun _ => id
  adminPosting := id
  notices := id

theorem Part.sameDue_onMaster {f : Master → Master} (h : (f p.master).state = p.master.state) :
    p.SameDue (p.onMaster f) where
  moves := ⟨rfl, rfl, rfl, h, rfl, fun _ => rfl, rfl, rfl⟩
  req := rfl
  lvl := rfl
  admin := rfl
  area := rfl
  compl := rfl
  posting := fun _ => id
  adminPosting := id
  notices := id

theorem Part.sameDue_onWindows {f : Vector Window 16 → Vector Window 16}
    (h : ∀ w, ((p.onWindows f).window w).readsFenced = (p.window w).readsFenced) :
    p.SameDue (p.onWindows f) where
  moves := { view := Part.settleView_congr rfl rfl (fun _ => rfl) h
             admission := rfl, flight := rfl, master := rfl, state := rfl, gnt := fun _ => rfl
             tenure := rfl, chainHold := rfl }
  req := rfl
  lvl := rfl
  admin := rfl
  area := rfl
  compl := rfl
  posting := fun _ => id
  adminPosting := id
  notices := id

theorem Part.sameDue_onNotices {f : NoticeUnit → NoticeUnit}
    (h : (f p.notices).Due → p.notices.Due) : p.SameDue (p.onNotices f) where
  moves := ⟨rfl, rfl, rfl, rfl, rfl, fun _ => rfl, rfl, rfl⟩
  req := rfl
  lvl := rfl
  admin := rfl
  area := rfl
  compl := rfl
  posting := fun _ => id
  adminPosting := id
  notices := h

/-! ### Notice buffer entries and what is due -/

/-- A search that at each element keeps what it has or takes the element finds something in every list
but the empty one. -/
theorem foldl_keep_eq_none {α : Type} {f : Option α → α → Option α} (hnone : ∀ k, f none k = some k)
    (hsome : ∀ a k, f (some a) k = some a ∨ f (some a) k = some k) (l : List α)
    (h : l.foldl f none = none) : l = [] := by
  induction l using List.reverseRecOn with
  | nil => rfl
  | append_singleton l x ih =>
    rw [List.foldl_concat] at h
    cases hbest : l.foldl f none with
    | none => simp [hbest, hnone] at h
    | some a => rcases hsome a x with hx | hx <;> simp [hbest, hx] at h

theorem NoticeUnit.earliest_ne_none {n : NoticeUnit} :
    n.earliest ≠ none ↔ ∃ b, (n.buffer.get b).state = .accepted := by
  constructor
  · intro h
    obtain ⟨b, hb⟩ := Option.ne_none_iff_exists'.1 h
    exact ⟨b, NoticeUnit.earliest_accepted hb⟩
  · rintro ⟨b, hb⟩ hnone
    have hempty := foldl_keep_eq_none (fun _ => rfl) (fun _ _ => (ite_eq_or_eq ..).symm) _ hnone
    have hmem : b ∈ (List.finRange 4).filter fun b => (n.buffer.get b).state == .accepted := by
      simpa using hb
    rw [hempty] at hmem
    exact absurd hmem List.not_mem_nil

/-- With no entry newly ACCEPTED nothing new is due at the Notice Unit. -/
theorem NoticeUnit.Due.of_buffer {m n : NoticeUnit} (h : n.Due) (hring : n.ring = m.ring)
    (hwrite : n.write = m.write) (hattached : n.attached = m.attached)
    (hdetached : n.detached = m.detached) (hfenced : n.fenced = m.fenced)
    (hbuffer : ∀ b, (n.buffer.get b).state = .accepted → (m.buffer.get b).state = .accepted) :
    m.Due := by
  obtain ⟨hmay, hwaits⟩ := h
  rw [hring, hwrite] at hmay
  rw [hattached, hdetached, hfenced, NoticeUnit.earliest_ne_none] at hwaits
  refine ⟨hmay, hwaits.imp id (.imp id (.imp id ?_))⟩
  exact fun ⟨b, hb⟩ => NoticeUnit.earliest_ne_none.2 ⟨b, hbuffer b hb⟩

theorem Part.sameDue_dropReceiving (p : Part) : p.SameDue p.dropReceiving :=
  Part.sameDue_onNotices fun h => h.of_buffer rfl rfl rfl rfl rfl fun b => by
    rw [tabMap_get]
    split <;> simp [BufferEntry.empty]

theorem Part.sameDue_modEntry {b : Fin 4} {f : BufferEntry → BufferEntry}
    (h : (f (p.entry b)).state = .accepted → (p.entry b).state = .accepted) :
    p.SameDue (p.modEntry b f) :=
  Part.sameDue_onNotices fun hdue => hdue.of_buffer rfl rfl rfl rfl rfl fun c => by
    rw [tabUpdate_get]
    split
    · next hc => subst hc; exact h
    · exact id

end Sys2Proof.Machine
end

section
/-! O3: every step leaves a settled state. What ends with the reaction is settled; what does not end with it
changes nothing that the seven things of a settled state depend on. -/

-- One declaration at a time: every further thread counts against the memory the check allows.
set_option Elab.async false

namespace Sys2Proof.Machine

variable {p q : Part} {x y : Source}

/-! ### Accesses asked for -/

theorem Part.takeAccess_hasAccess {a : Access} {stale : Bool} (hfree : p.host.outstanding = none)
    (h : p.hasAccess x = true) : (p.takeAccess y a stale).hasAccess x = true := by
  by_cases hxy : x = y
  · simp [Part.hasAccess, Part.outstandingFor, Part.takeAccess, hxy]
  · have hplace : x.place ≠ y.place := fun he => hxy (Source.place_inj.1 he)
    have hrequest : (p.takeAccess y a stale).request x = p.request x := by
      simp only [Part.request, Part.takeAccess, Part.onHost_host]
      split
      · rfl
      · rw [tabUpdate_get, if_neg hplace]
    have hasked : (p.request x).isSome = true := by
      simpa [Part.hasAccess, Part.outstandingFor, hfree] using h
    simp [Part.hasAccess, hrequest, hasked]

theorem Part.nextAccess_free {n : Source × Access × Bool} (h : p.nextAccess = some n) :
    p.host.outstanding = none := by
  unfold Part.nextAccess at h
  split at h
  · next hmay =>
    simp only [Part.mayIssue, Bool.and_eq_true, Option.isNone_iff_eq_none] at hmay
    exact hmay.2
  · cases h

theorem Part.takeUnissued_hasAccess {read : Bool} (h : p.hasAccess x = true) :
    (p.takeUnissued y read).hasAccess x = true := by
  unfold Part.takeUnissued
  split
  · next hnext =>
    split
    · exact Part.takeAccess_hasAccess (Part.nextAccess_free hnext) h
    · exact h
  · exact h

/-- A report that is of no access of its source, outstanding or next, changes nothing. -/
theorem Part.forWrite_of_not_outstanding {done : Bool}
    (h : (p.forWrite x done).writeOutstanding x = false) : p.forWrite x done = p := by
  revert h
  simp only [Part.forWrite, Part.takeUnissued]
  split
  · exact fun _ => rfl
  split
  · next s a _ _ =>
    split
    · next htaken =>
      obtain ⟨rfl, hkind⟩ := htaken
      cases a <;> simp_all [Part.writeOutstanding, Part.takeAccess, Access.isRead]
    · exact fun _ => rfl
  · exact fun _ => rfl

theorem Part.forRead_of_not_outstanding {done : Bool}
    (h : (p.forRead x done).readOutstanding x = false) : p.forRead x done = p := by
  revert h
  simp only [Part.forRead, Part.takeUnissued]
  split
  · exact fun _ => rfl
  split
  · next s a _ _ =>
    split
    · next htaken =>
      obtain ⟨rfl, hkind⟩ := htaken
      cases a <;> simp_all [Part.readOutstanding, Part.takeAccess, Access.isRead]
    · exact fun _ => rfl
  · exact fun _ => rfl

theorem Part.outstandingFor_of_write (h : p.writeOutstanding y = true) (hxy : x ≠ y) :
    p.outstandingFor x = false := by
  unfold Part.writeOutstanding at h
  unfold Part.outstandingFor
  split
  · next o ho =>
    simp only [ho, Bool.and_eq_true, beq_iff_eq] at h
    simpa [h.1] using Ne.symm hxy
  · rfl

theorem Part.outstandingFor_of_read (h : p.readOutstanding y = true) (hxy : x ≠ y) :
    p.outstandingFor x = false := by
  unfold Part.readOutstanding at h
  unfold Part.outstandingFor
  split
  · next o ho =>
    simp only [ho, Bool.and_eq_true, beq_iff_eq] at h
    simpa [h.1] using Ne.symm hxy
  · rfl

theorem Part.closeAccess_hasAccess (h : p.outstandingFor x = false) (hx : p.hasAccess x = true) :
    p.closeAccess.hasAccess x = true := by
  have hrequest : p.closeAccess.request x = p.request x := rfl
  have hasked : (p.request x).isSome = true := by simpa [Part.hasAccess, h] using hx
  simp [Part.hasAccess, hrequest, hasked]

/-- Closing the access of one source leaves what is due to the others. -/
theorem Part.sameDue_closeAccess (y : Source) (h : y = .posting → p.compl.fifo = []) (hy : y ≠ .adminPosting)
    (hother : ∀ x, x ≠ y → p.outstandingFor x = false) : p.SameDue p.closeAccess := by
  refine Part.sameDue_onHost (fun hfifo hx => ?_) fun hx => ?_
  · exact Part.closeAccess_hasAccess (hother _ fun he => hfifo (h he.symm)) hx
  · exact Part.closeAccess_hasAccess (hother _ (Ne.symm hy)) hx

theorem Part.Keeps.sameDue_host (h : p.Keeps [.host] q)
    (hposting : p.hasAccess .posting = true → q.hasAccess .posting = true)
    (hadmin : p.hasAccess .adminPosting = true → q.hasAccess .adminPosting = true) : p.SameDue q where
  moves := (h.mono (by simp)).sameMoves
  req := by rw [h.port]
  lvl := by rw [h.port]
  admin := h.admin
  area := by rw [h.engine]
  compl := h.compl
  posting := fun _ => hposting
  adminPosting := hadmin
  notices := by rw [h.notices]; exact id

theorem Part.sameDue_takeUnissued (p : Part) (x : Source) (read : Bool) :
    p.SameDue (p.takeUnissued x read) :=
  (p.takeUnissued_keeps x read).sameDue_host Part.takeUnissued_hasAccess Part.takeUnissued_hasAccess

theorem Part.sameDue_forWrite (p : Part) (x : Source) (done : Bool) : p.SameDue (p.forWrite x done) := by
  unfold Part.forWrite
  split
  · exact .refl p
  · exact p.sameDue_takeUnissued x false

theorem Part.sameDue_forRead (p : Part) (x : Source) (done : Bool) : p.SameDue (p.forRead x done) := by
  unfold Part.forRead
  split
  · exact .refl p
  · exact p.sameDue_takeUnissued x true

/-! ### The commands -/

theorem settled_functionReset (p : Part) : Settled p.functionReset := by
  have hport : p.functionReset.port.state = .detached ∧ p.functionReset.port.req = false
      ∧ p.functionReset.port.lvl = 3 := ⟨rfl, rfl, rfl⟩
  have hadmin : p.functionReset.admin.state = .idle := rfl
  have hengine : p.functionReset.engine.state = .off := rfl
  obtain ⟨hstate, hreq, hlvl⟩ := hport
  refine settled_iff.2 ⟨?_, ?_, ?_, ?_, ?_, ?_, ?_⟩
  · simp [Part.portStill, hstate]
  · simp [hreq, hlvl]
  · simp [Part.captureDue, hadmin]
  · simp [Part.postingDue, hengine, EngineState.working]
  · simp [Part.adminPostingDue, hengine, EngineState.working]
  · simp [hengine]
  · simp [Part.commandDue, hengine]

theorem settled_reset : Settled Part.reset := by
  refine settled_iff.2 ⟨?_, ?_, ?_, ?_, ?_, ?_, ?_⟩
  · simp [Part.portStill, Part.reset, Port.reset]
  · simp [Part.reset, Port.reset]
  · simp [Part.captureDue, Part.reset, AdminUnit.reset]
  · simp [Part.postingDue, Part.reset, Engine.reset, EngineState.working]
  · simp [Part.adminPostingDue, Part.reset, Engine.reset, EngineState.working]
  · simp [Part.reset, Engine.reset]
  · simp [Part.commandDue, Part.reset, Engine.reset]

theorem Part.reportedSet_of_still (h : p.engine.state ≠ .running) : p.reportedSet = [] := by
  simp [Part.reportedSet, h]

theorem Part.setStaysEmpty_of_still (h : p.engine.state ≠ .running) : p.setStaysEmpty = true := by
  have hview : p.settleView.engine.state ≠ .running := h
  rw [Part.setStaysEmpty, Part.settlesInto_still hview, Part.reportedSet_of_still hview]
  rfl

theorem Part.noHoldComes_of_still (h : p.engine.state ≠ .running) :
    p.noHoldComes = p.port.chainHold.isNone := by
  have hview : p.holdView.engine.state ≠ .running := h
  rw [Part.noHoldComes, Part.settlesInto_still hview]
  cases hhold : p.port.chainHold <;> simp [Part.holdView, hhold]

/-- With the engine not RUNNING an owning port waits for the Master and for a chain hold alone. -/
theorem Part.portStill_of_still (h : p.engine.state ≠ .running) : p.portStill ↔
    (p.port.state ≠ .requesting ∧ (p.port.state = .owner → p.master.state = .idle →
      p.port.chainHold.isNone = false) ∧ (p.port.state = .yielding → p.master.state ≠ .idle)) := by
  unfold Part.portStill
  rw [Part.reportedSet_of_still h, Part.setStaysEmpty_of_still h, Part.noHoldComes_of_still h]
  cases p.port.state <;> simp [Option.isSome_iff_ne_none]

/-- Becoming QUIESCED leaves nothing more due than QUIESCING did: neither is RUNNING (R173). -/
theorem Settled.reachQuiesced (h : Settled p) : Settled p.reachQuiesced := by
  unfold Part.reachQuiesced
  split
  case isFalse => exact h
  case isTrue hq =>
    obtain ⟨hquiescing, -⟩ := hq
    obtain ⟨hport, hlevel, hflush, -⟩ := settled_iff.1 h
    refine settled_iff.2 ⟨?_, ?_, ?_, ?_, ?_, ?_, ?_⟩
    · rw [Part.portStill_of_still (by simp [hquiescing])] at hport
      exact (Part.portStill_of_still (by simp)).2 hport
    · rw [Part.requestLevel, Part.reportedSet_of_still (by simp [hquiescing])] at hlevel
      rw [Part.requestLevel, Part.reportedSet_of_still (by simp)]
      exact hlevel
    · exact fun ⟨f, hf, hstop, hheld, _⟩ =>
        hflush ⟨f, hf, hstop, hheld, by simp [hquiescing, EngineState.alive]⟩
    · simp [Part.postingDue, EngineState.working]
    · simp [Part.adminPostingDue, EngineState.working]
    · simp
    · simp [Part.commandDue]

theorem Settled.arrive (h : Settled p) (rec : Block) (f : Part → Part) : Settled (p.arrive rec f) := by
  simp only [Part.arrive]
  split
  · next hread =>
    split
    · exact settled_react _
    · exact h.congr (Part.sameDue_closeAccess .administration nofun nofun fun x hx => Part.outstandingFor_of_read hread hx)
  · exact h

theorem Settled.completed (h : Settled p) (x : Source) (hxy : x ≠ .adminPosting)
    (hfifo : x = .posting → p.compl.fifo = []) {done : Bool}
    (hwrite : (p.forWrite x done).writeOutstanding x = true) : Settled (p.forWrite x done).closeAccess :=
  (h.congr (p.sameDue_forWrite x done)).congr (Part.sameDue_closeAccess x
    (fun hx => by rw [(p.sameDue_forWrite x done).compl]; exact hfifo hx) hxy
    fun _ hy => Part.outstandingFor_of_write hwrite hy)

theorem settled_effect_plainWrite (h : Settled p) (o : BitVec 12) (n : Nat) (v : BitVec 32) :
    Settled (p.plainWrite o n v) := by
  unfold Part.plainWrite
  split
  · (repeat' split)
    iterate 3 exact h.congr (Part.sameDue_onEngine rfl rfl)
    exact h
  · exact h

theorem Settled.delivered (h : Settled p) (done : Bool) : Settled (p.delivered done) := by
  simp only [Part.delivered]
  split
  · next hwrite =>
    have hclosed := h.completed .master nofun nofun hwrite
    split
    · split
      · exact settled_react _
      · exact hclosed
    · exact hclosed
  · exact h.congr (p.sameDue_forWrite _ _)

theorem Settled.noticeWritten (h : Settled p) (done : Bool) : Settled (p.noticeWritten done) := by
  simp only [Part.noticeWritten]
  split
  · next hwrite =>
    split
    · split <;> exact settled_react _
    · exact h.completed .notices nofun nofun hwrite
  · exact h.congr (p.sameDue_forWrite _ _)

theorem Settled.completionWritten (h : Settled p) (done : Bool) : Settled (p.completionWritten done) := by
  simp only [Part.completionWritten]
  split
  · next hwrite =>
    split
    · split <;> exact settled_react _
    · next hfifo =>
      refine h.completed .posting nofun (fun _ => ?_) hwrite
      rwa [← (p.sameDue_forWrite .posting done).compl]
  · exact h.congr (p.sameDue_forWrite _ _)

theorem Settled.adminWritten (h : Settled p) (done : Bool) : Settled (p.adminWritten done) := by
  simp only [Part.adminWritten]
  split
  · split <;> exact settled_react _
  · exact h.congr (p.sameDue_forWrite _ _)

theorem Settled.reportWritten (h : Settled p) (done : Bool) : Settled (p.reportWritten done) := by
  simp only [Part.reportWritten]
  split
  · next hwrite =>
    split
    · exact settled_react _
    · exact h.completed .administration nofun nofun hwrite
  · exact h.congr (p.sameDue_forWrite _ _)

theorem Settled.submissionRead (h : Settled p) (result : Option Block) :
    Settled (p.submissionRead result) := by
  simp only [Part.submissionRead]
  split
  · next hread =>
    have hclosed := (h.congr (p.sameDue_forRead .ringFetch result.isSome)).congr
      (Part.sameDue_closeAccess .ringFetch nofun nofun fun _ hx => Part.outstandingFor_of_read hread hx)
    split
    · split
      · exact settled_react _
      · exact settled_react _
      · exact hclosed
    · exact hclosed
  · exact h.congr (p.sameDue_forRead _ _)

theorem Settled.dataRead (h : Settled p) (result : Option BurstData) : Settled (p.dataRead result) := by
  simp only [Part.dataRead]
  split
  · exact settled_react _
  · exact h.congr (p.sameDue_forRead _ _)

theorem Settled.readTimesOut (h : Settled p) : Settled p.readTimesOut := by
  unfold Part.readTimesOut
  split
  · exact settled_react _
  split
  · exact settled_react _
  split
  · exact settled_react _
  · exact h

theorem Settled.issue (h : Settled p) : Settled p.issue := by
  unfold Part.issue
  split
  · next s a stale hnext =>
    have hfree := Part.nextAccess_free hnext
    have htaken : p.SameDue (p.takeAccess s a stale) :=
      Part.sameDue_onHost (fun _ => Part.takeAccess_hasAccess hfree) (Part.takeAccess_hasAccess hfree)
    exact (h.congr htaken).congr (Part.Keeps.sameDue (by simp))
  · exact h

theorem Part.sameDue_emit (p : Part) (o : Output) : p.SameDue (p.emit o) :=
  Part.Keeps.sameDue (by simp)

theorem Part.sameDue_signal (p : Part) (v : Fin 16) : p.SameDue (p.signal v) := by
  unfold Part.signal
  split
  · exact p.sameDue_emit _
  · exact Part.sameDue_onHost (fun _ => id) id

theorem Part.sameDue_sendPending (p : Part) (v : Fin 16) : p.SameDue (p.sendPending v) := by
  unfold Part.sendPending
  split
  · exact (Part.sameDue_onHost (fun _ => id) id).trans (Part.sameDue_emit _ _)
  · exact .refl p

theorem Settled.unmask (h : Settled p) (scope : VectorScope) : Settled (p.unmask scope) := by
  unfold Part.unmask
  split
  · exact (h.congr (Part.sameDue_onHost (fun _ => id) id)).congr (Part.sameDue_sendPending _ _)
  · have enabled := h.congr (q := p.onHost fun h => { h with messagesEnabled := true })
      (Part.sameDue_onHost (fun _ => id) id)
    exact List.foldlRecOn _ _ enabled fun q hq v _ => hq.congr (q.sameDue_sendPending v)

theorem Settled.mask (h : Settled p) (scope : VectorScope) : Settled (p.mask scope) := by
  unfold Part.mask
  split <;> exact h.congr (Part.sameDue_onHost (fun _ => id) id)

theorem Settled.loseLink (h : Settled p) (cause : DetachCause) : Settled (p.loseLink cause) := by
  unfold Part.loseLink
  split
  · exact h
  · exact settled_react _

theorem Part.sameDue_seePhase (p : Part) (code : PhaseCode) : p.SameDue (p.seePhase code) := by
  have hjoin : p.SameDue (if p.port.state = .joining then
      p.onPort fun x => { x with joinTimer := joinInterval } else p) := by
    split
    · exact Part.sameDue_onPort rfl (fun _ => rfl) rfl rfl rfl rfl
    · exact .refl p
  simp only [Part.seePhase]
  split
  · exact hjoin
  · exact hjoin.trans (Part.sameDue_dropReceiving _)

theorem Part.sameDue_answerNotice (p : Part) (beats : Nat) : p.SameDue (p.answerNotice beats) := by
  unfold Part.answerNotice
  split
  · exact Part.Keeps.sameDue (by simp)
  split
  · exact (Part.sameDue_modEntry (by simp)).trans (Part.sameDue_emit _ _)
  · exact Part.Keeps.sameDue (by simp)

theorem BufferEntry.takeBeat_state (e : BufferEntry) (ad : BusWord) (good : Bool) :
    (e.takeBeat ad good).state = e.state := by
  simp only [BufferEntry.takeBeat]
  split <;> rfl

theorem Settled.noticePhase (h : Settled p) (ad : BusWord) (beats : Nat) (good : Bool) :
    Settled (p.noticePhase ad beats good) := by
  have hseen := h.congr (p.sameDue_seePhase .notice)
  simp only [Part.noticePhase]
  split
  · exact hseen.congr (Part.sameDue_answerNotice _ _)
  · exact hseen

theorem Settled.noticeBeatTaken (h : Settled p) (ad : BusWord) (good : Bool) :
    Settled (p.noticeBeatTaken ad good) := by
  have hseen := h.congr (p.sameDue_seePhase .data)
  simp only [Part.noticeBeatTaken]
  split
  · split
    · refine (hseen.congr (Part.sameDue_modEntry fun he => ?_)).congr (Part.sameDue_emit _ _)
      rwa [BufferEntry.takeBeat_state] at he
    · exact hseen
  · exact hseen

theorem Settled.checkTaken (h : Settled p) (ad : BusWord) (good : Bool) :
    Settled (p.checkTaken ad good) := by
  have hseen := h.congr (p.sameDue_seePhase .data)
  simp only [Part.checkTaken]
  split
  · split
    · exact settled_react _
    · exact hseen
  · exact hseen

theorem Settled.completeRelease (h : Settled p) : Settled p.completeRelease := by
  unfold Part.completeRelease
  split
  · next hreleases =>
    obtain ⟨hstate, -, -⟩ := hreleases
    obtain ⟨-, -, hflush, hposting, hadmin, hnotice, hcommand⟩ := settled_iff.1 h
    refine settled_iff.2 ⟨?_, rfl, hflush, hposting, hadmin, hnotice, hcommand⟩
    simp [Part.portStill, Port.dropRequest, hstate]
  · exact h

theorem Settled.grantRises (h : Settled p) : Settled p.grantRises := by
  simp only [Part.grantRises]
  split
  · exact h
  split
  · exact settled_react _
  · exact settled_react _
  all_goals exact h.congr (Part.sameDue_onPort rfl (by simp_all) rfl rfl rfl rfl)

theorem Settled.modBank (h : Settled p) (w : Fin 16) (b : Nat) (f : Bank → Bank) :
    Settled (p.modBank w b f) :=
  h.congr (Part.sameDue_onWindows fun v => by
    change ((p.modBank w b f).window v).readsFenced = _
    rw [Part.modBank, Part.modWindow_window]
    split <;> rfl)

theorem Settled.enable (h : Settled p) : Settled p.enable := by
  unfold Part.enable
  split
  · split
    · exact settled_react _
    · exact h.congr (Part.sameDue_onEngine rfl rfl)
  · exact settled_react _
  all_goals exact h

theorem Settled.quiesce (h : Settled p) : Settled p.quiesce := by
  unfold Part.quiesce
  split
  · exact (settled_react _).reachQuiesced
  all_goals exact h

theorem Settled.writeState (h : Settled p) (v : BitVec 32) : Settled (p.writeState v) := by
  unfold Part.writeState
  split
  · exact h.congr (Part.sameDue_onEngine rfl rfl)
  · exact h

theorem Settled.dropNotify (h : Settled p) : Settled p.dropNotify := h.congr (Part.sameDue_onEngine rfl rfl)

theorem Settled.submit (h : Settled p) (r : BitVec 4) (i : BitVec 12) : Settled (p.submit r i) := by
  unfold Part.submit
  split
  · split
    · exact settled_react _
    · exact h.dropNotify
  · exact h.dropNotify

theorem Settled.complete (h : Settled p) (r : BitVec 4) (i : BitVec 12) (arm : Bool) :
    Settled (p.complete r i arm) := by
  simp only [Part.complete]
  split
  · split
    · exact settled_react _
    · exact h.dropNotify
  · exact h.dropNotify

theorem Settled.noticeConsumed (h : Settled p) (i : BitVec 12) (arm : Bool) : Settled (p.notice i arm) := by
  simp only [Part.notice]
  split
  · exact settled_react _
  · exact h.dropNotify

theorem Settled.adminSubmit (h : Settled p) (i : BitVec 12) : Settled (p.adminSubmit i) := by
  unfold Part.adminSubmit
  split
  · exact settled_react _
  · exact h.dropNotify

theorem Settled.adminComplete (h : Settled p) (i : BitVec 12) (arm : Bool) :
    Settled (p.adminComplete i arm) := by
  simp only [Part.adminComplete]
  split
  · exact settled_react _
  · exact h.dropNotify

theorem Settled.choose (h : Settled p) : Settled p.choose := by
  unfold Part.choose
  split
  · split
    · exact settled_react _
    · exact h
  · exact h

theorem Settled.select (h : Settled p) : Settled p.select := by
  simp only [Part.select]
  split
  · split
    · exact settled_react _
    · exact h
  · exact h

theorem Settled.settleOnly (h : Settled p) : Settled p.settleOnly := by
  unfold Part.settleOnly
  split
  · split
    · split
      · exact settled_react _
      · exact h
    · exact h
  · exact h

theorem Settled.handNext (h : Settled p) : Settled p.handNext := by
  unfold Part.handNext
  split
  · split
    · exact settled_react _
    · exact settled_react _
    · exact h
  · exact h

theorem Settled.takeAnswer (h : Settled p) (a : Answer) (ad : BusWord) (good : Bool) :
    Settled (p.takeAnswer a ad good) := by
  unfold Part.takeAnswer
  split
  · split
    · exact h
    · exact settled_react _
  · exact h

theorem Settled.expireResponse (h : Settled p) : Settled p.expireResponse := by
  unfold Part.expireResponse
  split
  · exact settled_react _
  · exact h

theorem Settled.startClose (h : Settled p) : Settled p.startClose := by
  unfold Part.startClose
  split
  · exact settled_react _
  · exact h

theorem Settled.grantDrops (h : Settled p) : Settled p.grantDrops := by
  simp only [Part.grantDrops]
  split
  · exact settled_react _
  · exact h

theorem Settled.withdraw (h : Settled p) : Settled p.withdraw := by
  simp only [Part.withdraw]
  split
  · exact settled_react _
  · exact h.congr (Part.sameDue_onPort rfl (fun _ => rfl) rfl rfl rfl rfl)

theorem Settled.finishJoin (h : Settled p) : Settled p.finishJoin := by
  unfold Part.finishJoin
  split
  · exact settled_react _
  · exact h

theorem Settled.finishDeletion (h : Settled p) : Settled p.finishDeletion := by
  unfold Part.finishDeletion
  split
  · exact settled_react _
  · exact h

theorem Settled.finishDraining (h : Settled p) : Settled p.finishDraining := by
  unfold Part.finishDraining
  split
  · exact settled_react _
  · exact h

theorem Settled.walkStep (h : Settled p) (f : Flush) (stop : Nat) : Settled (p.walkStep f stop) := by
  simp only [Part.walkStep]
  split
  · exact settled_react _
  split
  · exact settled_react _
  split
  · exact settled_react _
  · exact h

theorem Settled.flushWalk (h : Settled p) : Settled p.flushWalk := by
  unfold Part.flushWalk
  split
  · split
    · split
      · exact h.walkStep _ _
      · exact h
    · exact h
  · exact h

theorem settled_effect (c : Instr) (hp : Settled p) : Settled (effect c p) := by
  refine effect_keeps (P := Settled) (fun p o n v h => settled_effect_plainWrite h o n v)
    (fun c p hc h => ?_) c hp
  cases c with
  | registerWrite o n v => exact absurd rfl (hc o n v)
  | powerOnReset => exact settled_reset
  | functionLevelReset | reset => exact settled_functionReset p
  | enable => exact h.enable
  | quiesce => exact h.quiesce
  | quiescedReached => exact h.reachQuiesced
  | stateWrite v => exact h.writeState v
  | submit r i a => exact h.submit r i
  | complete r i a => exact h.complete r i a
  | notice r i a => exact h.noticeConsumed i a
  | adminSubmit r i a => exact h.adminSubmit i
  | adminComplete r i a => exact h.adminComplete i a
  | notifyInvalidKind w => exact h.dropNotify
  | hostAccessIssue => exact h.issue
  | hostReadTimeout => exact h.readTimesOut
  | ringChoice => exact h.choose
  | submissionReadDone result => exact h.submissionRead result
  | selection => exact h.select
  | settleOnlySettlement => exact h.settleOnly
  | postingHandover => exact h.handNext
  | writeDataReadDone result => exact h.dataRead result
  | targetAnswer a ad good => exact h.takeAnswer a ad good
  | responseLimitExpiry => exact h.expireResponse
  | readDataWriteDone done => exact h.delivered done
  | openTimerExpiry w b => exact h.modBank w b Bank.expire
  | closeOperation => exact h.startClose
  | releaseComplete => exact h.completeRelease
  | gntRise => exact h.grantRises
  | gntDrop => exact h.grantDrops
  | withdraw => exact h.withdraw
  | linkLoss =>
    simp only [Machine.effect]
    split
    · exact (h.congr (Part.sameDue_onPort rfl (fun _ => rfl) rfl rfl rfl rfl)).loseLink _
    · exact h
  | backplaneReset =>
    simp only [Machine.effect]
    split
    · exact h
    · exact ((h.congr (Part.sameDue_onPort rfl (fun _ => rfl) rfl rfl rfl rfl)).congr
        (Part.sameDue_dropReceiving _)).loseLink _
  | phaseActivity code => exact h.congr (p.sameDue_seePhase code)
  | joinTimerExpiry => exact h.finishJoin
  | inboundNoticePhase ad beats good => exact h.noticePhase ad beats good
  | inboundNoticeBeat ad good => exact h.noticeBeatTaken ad good
  | inboundCheckWord ad good => exact h.checkTaken ad good
  | noticeReceiveTimeout => exact h.congr p.sameDue_dropReceiving
  | noticeEntryWriteDone done => exact h.noticeWritten done
  | completionEntryWriteDone done => exact h.completionWritten done
  | adminCompletionWriteDone done => exact h.adminWritten done
  | adminCommandReadFailed =>
    simp only [Machine.effect]
    split
    · exact settled_react _
    · exact h.congr (p.sameDue_forRead _ _)
  | sringDeletionEnd => exact h.finishDeletion
  | flushWalk => exact h.flushWalk
  | endOfDraining => exact h.finishDraining
  | queryReportWriteDone done => exact h.reportWritten done
  | vectorUnmask scope => exact h.unmask scope
  | vectorMasked scope => exact h.mask scope
  | clockReturn | rstReleased | wdrDeasserted =>
    simp only [Machine.effect]
    exact h.congr (Part.sameDue_onPort rfl (fun _ => rfl) rfl rfl rfl rfl)
  | unknownCommand rec => exact h.arrive rec (Part.endCommand · .unknownCommand 0#32)
  | createCring rec | deleteCring rec | createSring rec | deleteSring rec | haltSring rec
  | resumeSring rec | flushSring rec | setWindow rec | clearWindow rec | reopenWindow rec
  | setNode rec | setNoticeRing rec | setFilter rec | attach rec | detach rec | query rec =>
    simp only [Machine.effect]
    exact h.arrive rec _

theorem Part.tickBanks_window (p : Part) (w : Fin 16) :
    p.tickBanks.window w = { p.window w with banks := (p.window w).banks.map Bank.tick } := by
  simp only [Part.tickBanks, Part.window, Part.onWindows_windows, tabMap_get]

theorem settled_clocks : KeptByClocks Settled where
  join p h _ _ := h.congr (Part.sameDue_onPort rfl (fun _ => rfl) rfl rfl rfl rfl)
  banks p h := h.congr (Part.sameDue_onWindows fun w => by
    change (p.tickBanks.window w).readsFenced = _
    rw [p.tickBanks_window]
    rfl)
  response p h := h.congr (Part.sameDue_onMaster rfl)
  receive p b h := h.congr (Part.sameDue_modEntry id)
  read p h := by
    have later (x : Source) : p.hasAccess x = true → (p.onHost fun h =>
        { h with outstanding := h.outstanding.map fun o =>
          { o with elapsed := o.elapsed + 1 } }).hasAccess x = true := by
      unfold Part.hasAccess Part.outstandingFor
      cases hout : p.host.outstanding <;> simp [hout, Part.request]
    exact h.congr (Part.sameDue_onHost (fun _ => later _) (later _))

/-- Settles O3, by the reaction's ending in a settled state and the commands that do not end with it. -/
theorem everyStepSettles : Obligations.EveryStepSettles := by
  unfold Obligations.EveryStepSettles
  intro s t hs hstep
  exact step_keeps (fun c p => settled_effect c) settled_clocks hs hstep

end Sys2Proof.Machine
end

section
/-! What the port's own operations leave of the port: a settlement and a return touch at most the chain hold, and a
report of a burst the error count besides, but where it brings the count to its limit. -/

-- One declaration at a time: every further thread counts against the memory the check allows.
set_option Elab.async false

namespace Sys2Proof.Machine

variable {p q r : Part}

/-- Every block but the port. -/
abbrev besidePort : List Region :=
  [.engine, .host, .admin, .fetch, .sched, .windows, .master, .notices, .compl, .stats, .out]

/-! ### The stages of a settlement (R40, R41) -/

/-- The slot goes POSTING with its final status, and its window and its position are done with it. -/
def Part.concluded (p : Part) (k : Fin 8) (st : Status) (x : BitVec 32) : Part :=
  ((p.modSlot k fun s =>
    { s with
      state := .posting, finalStatus := some st, result := x, window := none,
      deferred := false }).leaveWindow (p.slot k).window).modRing (p.slot k).ring fun r =>
        r.settleAt (p.slot k).index (linkOf (p.slot k).record st)

/-- The next record of the chain learns what came of the one of slot `s` (R26). -/
def Part.chainTold (p : Part) (s : Slot) (st : Status) : Part :=
  if recChain s.record then p.resolveChain s.ring s.index st else p

/-- Where nothing is to be posted the slot is free, with its entry; its completion goes on otherwise. -/
def Part.passedOn (p : Part) (s : Slot) (k : Fin 8) (st : Status) : Part :=
  if recQuiet s.record && st == .success then
    (match s.reservation with
      | some c => p.unreserve c
      | none => p).freeSlot k
  else p.handOver k

theorem Part.settle_eq (p : Part) (k : Fin 8) (st : Status) (x : BitVec 32) :
    p.settle k st x = (((((p.concluded k st x).chainTold (p.slot k) st).passedOn (p.slot k) k st).beginHold
      (p.slot k).ring (p.slot k).index (p.slot k).record st).haltOnError
      (p.slot k).ring (p.slot k).index st).considerSlots := rfl

theorem Part.concluded_keeps (p : Part) (k : Fin 8) (st : Status) (x : BitVec 32) :
    p.Keeps [.fetch, .sched, .windows] (p.concluded k st x) := by
  simp [Part.concluded]

@[simp] theorem Part.keeps_concluded {l : List Region} (k : Fin 8) (st : Status) (x : BitVec 32)
    (hl : [.fetch, .sched, .windows] ⊆ l) : p.Keeps l (q.concluded k st x) ↔ p.Keeps l q :=
  (q.concluded_keeps k st x).iff hl

theorem Part.chainTold_keeps (p : Part) (s : Slot) (st : Status) : p.Keeps [.sched] (p.chainTold s st) := by
  unfold Part.chainTold
  split <;> simp

@[simp] theorem Part.keeps_chainTold {l : List Region} (s : Slot) (st : Status) (hl : [.sched] ⊆ l) :
    p.Keeps l (q.chainTold s st) ↔ p.Keeps l q := (q.chainTold_keeps s st).iff hl

theorem Part.passedOn_keeps (p : Part) (s : Slot) (k : Fin 8) (st : Status) :
    p.Keeps [.admin, .fetch, .sched, .compl] (p.passedOn s k st) := by
  unfold Part.passedOn
  (repeat' split) <;> simp

@[simp] theorem Part.keeps_passedOn {l : List Region} (s : Slot) (k : Fin 8) (st : Status)
    (hl : [.admin, .fetch, .sched, .compl] ⊆ l) : p.Keeps l (q.passedOn s k st) ↔ p.Keeps l q :=
  (q.passedOn_keeps s k st).iff hl

/-! ### The stages of a report (R36, R37, R38, R67) -/

/-- The Master is IDLE, the verdict of the end is given and the report counted. -/
def Part.reported (p : Part) (o : Operation) (e : OperationEnd) : Part :=
  (p.masterIdle.verdict o e).onStats fun t =>
    { t with
      bursts := satSucc t.bursts
      retries := if e = .retry then satSucc t.retries else t.retries }

/-- The slot with the report's bytes and its retry. -/
def Slot.tookReport (s : Slot) (e : OperationEnd) (bytes : Nat) : Slot :=
  { s with
    progress := s.progress + bytes
    retries := s.retries + (if e = .retry then 1 else 0) }

/-- What the report of a burst settles its slot with. -/
def Part.reportEnd (p : Part) (o : Operation) (k : Fin 8) (e : OperationEnd) (bytes : Nat)
    (delivered : Bool) : Option (Status × BitVec 32) :=
  (p.reported o e).reportSettles (((p.reported o e).slot k).tookReport e bytes) o e delivered

/-- The report with its bank marked for closing where R86 says so. -/
def Part.pageLeft (p : Part) (o : Operation) (k : Fin 8) (e : OperationEnd) (bytes : Nat)
    (delivered : Bool) : Part :=
  if e = .hostReadError then p.reported o e
  else (p.reported o e).markForClose o (((p.reported o e).slot k).tookReport e bytes)
    ((p.reportEnd o k e bytes delivered).isSome && (p.reported o e).engine.state != .failed)

theorem Part.reportBurst_eq (p : Part) (o : Operation) (k : Fin 8) (e : OperationEnd) (bytes : Nat)
    (delivered : Bool) : p.reportBurst o k e bytes delivered =
      if (p.pageLeft o k e bytes delivered).engine.state = .failed then
        (p.pageLeft o k e bytes delivered).modSlot k fun _ =>
          { ((p.reported o e).slot k).tookReport e bytes with state := .started }
      else match p.reportEnd o k e bytes delivered with
        | some (st, result) => ((p.pageLeft o k e bytes delivered).modSlot k fun _ =>
            ((p.reported o e).slot k).tookReport e bytes).settle k st result
        | none => ((p.pageLeft o k e bytes delivered).modSlot k fun _ =>
            { ((p.reported o e).slot k).tookReport e bytes with
              state := .started, deferred := e == .retry }).considerSlots := rfl

theorem Part.reported_keeps (p : Part) (o : Operation) (e : OperationEnd) :
    (p.masterIdle.verdict o e).Keeps [.stats] (p.reported o e) := by
  simp [Part.reported]

theorem Part.pageLeft_keeps (p : Part) (o : Operation) (k : Fin 8) (e : OperationEnd) (bytes : Nat)
    (delivered : Bool) : (p.reported o e).Keeps [.windows] (p.pageLeft o k e bytes delivered) := by
  unfold Part.pageLeft
  split <;> simp

/-! ### Operations that touch at most the chain hold -/

/-- The port of `q` is that of `p` but for the chain hold. -/
def Part.HoldOnly (p q : Part) : Prop := q.port = { p.port with chainHold := q.port.chainHold }

theorem Part.HoldOnly.refl (p : Part) : p.HoldOnly p := rfl

theorem Part.HoldOnly.trans (h : p.HoldOnly q) (h' : q.HoldOnly r) : p.HoldOnly r := by
  unfold Part.HoldOnly at *
  rw [h'] at *
  rw [h]

theorem Part.Keeps.holdOnly (h : p.Keeps besidePort q) : p.HoldOnly q := by
  rw [Part.HoldOnly, h.port]

theorem Part.HoldOnly.beside (h : p.HoldOnly q) (h' : q.Keeps besidePort r) : p.HoldOnly r :=
  h.trans h'.holdOnly

/-! ### Operations of the queue: of the port and the windows they touch the chain hold and the counts -/

/-- Every block but the port and the windows. -/
abbrev besidePortAndWindows : List Region :=
  [.engine, .host, .admin, .fetch, .sched, .master, .notices, .compl, .stats, .out]

/-- Of port and windows, `q` differs from `p` in the chain hold and the in-flight counts alone. -/
structure Part.QueueOnly (p q : Part) : Prop where
  hold : p.HoldOnly q
  windows : ∀ w, ∃ n, q.window w = { p.window w with inFlight := n }

theorem Part.QueueOnly.refl (p : Part) : p.QueueOnly p := ⟨.refl p, fun _ => ⟨_, rfl⟩⟩

theorem Part.QueueOnly.trans (h : p.QueueOnly q) (h' : q.QueueOnly r) : p.QueueOnly r where
  hold := h.hold.trans h'.hold
  windows w := by
    obtain ⟨n, hn⟩ := h.windows w
    obtain ⟨m, hm⟩ := h'.windows w
    exact ⟨m, by rw [hm, hn]⟩

theorem Part.Keeps.queueOnly (h : p.Keeps besidePortAndWindows q) : p.QueueOnly q :=
  ⟨(h.mono (by simp)).holdOnly, fun w => ⟨_, by rw [h.window w]⟩⟩

theorem Part.QueueOnly.beside (h : p.QueueOnly q) (h' : q.Keeps besidePortAndWindows r) : p.QueueOnly r :=
  h.trans h'.queueOnly

theorem Part.QueueOnly.endHold (h : p.QueueOnly q) : p.QueueOnly q.endHold :=
  h.trans ⟨rfl, fun _ => ⟨_, rfl⟩⟩

section
variable (h : p.QueueOnly q)
include h

theorem Part.QueueOnly.onFetch (f : FetchUnit → FetchUnit) : p.QueueOnly (q.onFetch f) := h.beside (by simp)
theorem Part.QueueOnly.onSched (f : Scheduler → Scheduler) : p.QueueOnly (q.onSched f) := h.beside (by simp)
theorem Part.QueueOnly.onStats (f : Stats → Stats) : p.QueueOnly (q.onStats f) := h.beside (by simp)
theorem Part.QueueOnly.modRing (i : Fin 8) (f : SubmissionRing → SubmissionRing) :
    p.QueueOnly (q.modRing i f) := h.beside (by simp)
theorem Part.QueueOnly.modSlot (k : Fin 8) (f : Slot → Slot) : p.QueueOnly (q.modSlot k f) :=
  h.beside (by simp)
theorem Part.QueueOnly.freeSlot (k : Fin 8) : p.QueueOnly (q.freeSlot k) := h.beside (by simp)
theorem Part.QueueOnly.unreserve (c : Fin 8) : p.QueueOnly (q.unreserve c) := h.beside (by simp)
theorem Part.QueueOnly.considerSlots : p.QueueOnly q.considerSlots := h.beside (by simp)
theorem Part.QueueOnly.markFlight (i : Fin 8) : p.QueueOnly (q.markFlight i) := h.beside (by simp)

theorem Part.QueueOnly.modWindow (w : Fin 16) {f : Window → Window}
    (hf : ∀ x, ∃ n, f x = { x with inFlight := n }) : p.QueueOnly (q.modWindow w f) := by
  refine h.trans ⟨rfl, fun v => ?_⟩
  rw [Part.modWindow_window]
  split
  · next hv =>
    subst hv
    exact hf _
  · exact ⟨_, rfl⟩

end

theorem Part.QueueOnly.leaveWindow (h : p.QueueOnly q) (w : Option (Fin 16)) :
    p.QueueOnly (q.leaveWindow w) := by
  unfold Part.leaveWindow
  split
  · exact h.modWindow _ fun _ => ⟨_, rfl⟩
  · exact h

theorem Part.QueueOnly.endHoldFor (h : p.QueueOnly q) (i : Fin 8) (n : Nat) :
    p.QueueOnly (q.endHoldFor i n) := by
  unfold Part.endHoldFor
  split
  · exact h.endHold
  · exact h

theorem Part.QueueOnly.beginHold (h : p.QueueOnly q) (i : Fin 8) (n : Nat) (x : Block) (st : Status) :
    p.QueueOnly (q.beginHold i n x st) := by
  rcases q.beginHold_eq i n x st with hq | hq <;> rw [hq]
  · exact h
  · exact h.trans ⟨rfl, fun _ => ⟨_, rfl⟩⟩

theorem Part.QueueOnly.discardAdmission (h : p.QueueOnly q) (i : Fin 8) :
    p.QueueOnly (q.discardAdmission i) := by
  unfold Part.discardAdmission
  split
  · split
    · exact ((h.onFetch _).unreserve _).endHoldFor _ _
    · exact h
  · exact h

theorem Part.QueueOnly.vacate (h : p.QueueOnly q) (k : Fin 8) : p.QueueOnly (q.vacate k) := by
  simp only [Part.vacate]
  split
  · exact (((h.unreserve _).leaveWindow _).modRing _ _).freeSlot k
  · exact ((h.leaveWindow _).modRing _ _).freeSlot k

theorem Part.QueueOnly.returnAll (h : p.QueueOnly q) (i : Fin 8) : p.QueueOnly (q.returnAll i) :=
  List.foldlRecOn _ _ h fun _ hr k _ => (hr.vacate k).onStats _

theorem Part.QueueOnly.haltReturns (h : p.QueueOnly q) (i : Fin 8) : p.QueueOnly (q.haltReturns i) :=
  (((h.returnAll i).modRing i _).discardAdmission i).markFlight i

theorem Part.QueueOnly.haltOnError (h : p.QueueOnly q) (i : Fin 8) (n : Nat) (st : Status) :
    p.QueueOnly (q.haltOnError i n st) := by
  simp only [Part.haltOnError]
  split
  · split
    · split
      · exact (h.modRing i _).haltReturns i
      · exact h
    · exact h.modRing _ _
    · exact h
    · exact h
  · exact h

theorem Part.QueueOnly.concluded (h : p.QueueOnly q) (k : Fin 8) (st : Status) (x : BitVec 32) :
    p.QueueOnly (q.concluded k st x) :=
  ((h.modSlot k _).leaveWindow _).modRing _ _

theorem Part.QueueOnly.settle (h : p.QueueOnly q) (k : Fin 8) (st : Status) (x : BitVec 32) :
    p.QueueOnly (q.settle k st x) := by
  rw [Part.settle_eq]
  have hpassed : (q.concluded k st x).Keeps besidePortAndWindows
      (((q.concluded k st x).chainTold (q.slot k) st).passedOn (q.slot k) k st) := by simp
  exact ((((h.concluded k st x).beside hpassed).beginHold _ _ _ _).haltOnError _ _ _).considerSlots

theorem Part.QueueOnly.placeIn (h : p.QueueOnly q) (a : Admission) (k : Fin 8) :
    p.QueueOnly (q.placeIn a k) := by
  simp only [Part.placeIn]
  split
  · exact (((((h.onSched _).modRing _ _).modWindow _ fun _ => ⟨_, rfl⟩).onStats _).onFetch _).endHoldFor _ _
  · exact ((((h.onSched _).modRing _ _).onStats _).onFetch _).endHoldFor _ _

theorem Part.QueueOnly.attemptFails (h : p.QueueOnly q) (a : Admission) : p.QueueOnly (q.attemptFails a) :=
  (((h.onFetch _).unreserve _).modRing _ _).endHoldFor _ _

theorem Part.QueueOnly.evict (h : p.QueueOnly q) (k : Fin 8) : p.QueueOnly (q.evict k) := by
  simp only [Part.evict]
  exact ((h.vacate k).modRing _ _).onStats _

theorem Part.QueueOnly.place (h : p.QueueOnly q) : p.QueueOnly q.place := by
  unfold Part.place
  split
  · exact h
  split
  · exact h.placeIn _ _
  split
  · exact h.attemptFails _
  · split
    · exact (h.evict _).placeIn _ _
    · exact h.attemptFails _

theorem Part.QueueOnly.discardFlight (h : p.QueueOnly q) (f : Flight) : p.QueueOnly (q.discardFlight f) :=
  ((h.onFetch _).unreserve _).endHoldFor _ _

theorem Part.QueueOnly.takeRecord (h : p.QueueOnly q) (f : Flight) (rec : Block) :
    p.QueueOnly (q.takeRecord f rec) := by
  have htaken : p.QueueOnly (q.onFetch fun u => { u with
      flight := none
      admission := some
        { ring := f.ring, index := f.index, record := rec, reservation := f.reservation } }) :=
    h.beside (by simp)
  simp only [Part.takeRecord]
  split
  · exact htaken.place
  · exact htaken

theorem Part.QueueOnly.deleteSring (h : p.QueueOnly q) (rec : Block) : p.QueueOnly (q.deleteSring rec) := by
  have hdiscarded := ((h.modRing (cmdRing rec) fun x => { x with state := .deleting }).returnAll
    (cmdRing rec)).discardAdmission (cmdRing rec)
  simp only [Part.deleteSring]
  split <;> exact hdiscarded.beside (by simp)

theorem Part.QueueOnly.haltSring (h : p.QueueOnly q) (rec : Block) : p.QueueOnly (q.haltSring rec) := by
  have hreturned := (h.modRing (cmdRing rec) fun x =>
    { x with state := .halted, haltedAt := none }).haltReturns (cmdRing rec)
  exact hreturned.beside (by simp [Part.haltSring])

/-- After its verdict a report touches of the port at most the chain hold. -/
theorem Part.holdOnly_reportBurst (p : Part) (o : Operation) (k : Fin 8) (e : OperationEnd) (bytes : Nat)
    (delivered : Bool) : (p.masterIdle.verdict o e).HoldOnly (p.reportBurst o k e bytes delivered) := by
  have hleft : (p.masterIdle.verdict o e).HoldOnly (p.pageLeft o k e bytes delivered) :=
    (((p.reported_keeps o e).mono (by simp)).trans
      ((p.pageLeft_keeps o k e bytes delivered).mono (by simp))).holdOnly
  rw [Part.reportBurst_eq]
  split
  · exact hleft.beside (by simp)
  split
  · exact (hleft.beside (r := Part.modSlot _ k _) (by simp)).trans ((Part.QueueOnly.refl _).settle _ _ _).hold
  · exact hleft.beside (by simp)

/-! ### The two ways an acknowledged phase goes on (R47) -/

/-- `b` is the same burst or close operation as `a`, further on. -/
structure Operation.SameBurst (a b : Operation) : Prop where
  slot : b.slot = a.slot
  opcode : b.opcode = a.opcode
  window : b.window = a.window
  bank : b.bank = a.bank

/-- The Master goes on with the operation: only it, its window's banks and the lines have changed. -/
structure Part.GoesOn (p : Part) (o : Operation) (q : Part) : Prop where
  keeps : p.Keeps [.windows, .master, .out] q
  state : q.master.state = p.master.state
  operation : ∃ o', q.master.operation = some o' ∧ o.SameBurst o'
  windows : ∀ w, ∃ l, q.window w = { p.window w with banks := l }

theorem Part.GoesOn.refl {o : Operation} (ho : p.master.operation = some o) : p.GoesOn o p :=
  ⟨p.keeps_self _, rfl, ⟨o, ho, ⟨rfl, rfl, rfl, rfl⟩⟩, fun _ => ⟨_, rfl⟩⟩

theorem Part.GoesOn.onMaster {o o' : Operation} (h : p.GoesOn o q) {f : Master → Master}
    (hstate : (f q.master).state = q.master.state) (hop : (f q.master).operation = some o')
    (ho : o.SameBurst o') : p.GoesOn o (q.onMaster f) :=
  ⟨h.keeps.trans (by simp), hstate.trans h.state, ⟨o', hop, ho⟩, h.windows⟩

theorem Part.GoesOn.modOperation {o : Operation} (h : p.GoesOn o q) {f : Operation → Operation}
    (hf : ∀ x, o.SameBurst x → o.SameBurst (f x)) : p.GoesOn o (q.modOperation f) := by
  obtain ⟨x, hx, hsame⟩ := h.operation
  exact h.onMaster rfl (by simp [hx]) (hf x hsame)

theorem Part.GoesOn.present {o o' : Operation} (h : p.GoesOn o q) (ph : Phase) :
    p.GoesOn o (q.present o' ph) := by
  have hmoved := h.modOperation (f := fun x => { x with phase := some ph, elapsed := 0 })
    fun x hx => ⟨hx.slot, hx.opcode, hx.window, hx.bank⟩
  exact ⟨hmoved.keeps.trans (by simp [Part.present]), hmoved.state, hmoved.operation, hmoved.windows⟩

theorem Part.GoesOn.modBank {o o' : Operation} (h : p.GoesOn o q) (n : Nat) (f : Part → Fin 16 → Bank → Bank) :
    p.GoesOn o (q.onOperationWindow o' fun p w => p.modBank w n (f p w)) := by
  unfold Part.onOperationWindow
  split
  · next w _ =>
    refine ⟨h.keeps.trans (by simp), h.state, h.operation, fun v => ?_⟩
    obtain ⟨l, hl⟩ := h.windows v
    simp only [Part.modBank, Part.modWindow_window]
    split
    · next hv =>
      subst hv
      exact ⟨_, by rw [hl]⟩
    · exact ⟨l, hl⟩
  · exact h

/-- A phase acknowledged is followed by another of the same operation, or is its last. -/
theorem Part.acknowledge_cases {o : Operation} (ho : p.master.operation = some o) (ph : Phase)
    (ad : BusWord) : p.GoesOn o (p.acknowledge o ph ad)
      ∨ ∃ q o', p.acknowledge o ph ad = q.endOperation o' .clean ∧ p.GoesOn o q ∧ o.SameBurst o'
        ∧ q.windows = p.windows ∧ q.out = p.out := by
  have start := Part.GoesOn.refl ho
  have same : o.SameBurst o := ⟨rfl, rfl, rfl, rfl⟩
  unfold Part.acknowledge
  split
  · split
    · exact .inr ⟨p, o, rfl, start, same, rfl, rfl⟩
    · exact .inl ((start.modBank _ _).present _)
  · exact .inl ((start.modBank _ _).present _)
  · exact .inl (start.present _)
  iterate 2 exact .inl (start.present _)
  · have locked : o.SameBurst { o with lockHeld := true } := ⟨rfl, rfl, rfl, rfl⟩
    exact .inl ((start.modOperation fun _ _ => locked).present _)
  · have further : o.SameBurst { o with acked := o.acked + 1 } := ⟨rfl, rfl, rfl, rfl⟩
    have kept : o.SameBurst { o with acked := o.acked + 1, oldValue := some ad } := ⟨rfl, rfl, rfl, rfl⟩
    simp only
    split
    · exact .inl ((start.modOperation fun _ _ => kept).present _)
    all_goals
      have taken := start.onMaster (f := fun m =>
        { m with staging := m.staging ++ leBytes o.width ad.toNat,
                 operation := some { o with acked := o.acked + 1 } }) rfl rfl further
      split
      · exact .inr ⟨_, _, rfl, taken, further, rfl, rfl⟩
      · exact .inl (taken.present _)
  · have further : o.SameBurst { o with acked := o.acked + 1 } := ⟨rfl, rfl, rfl, rfl⟩
    have taken := start.modOperation (f := fun _ => { o with acked := o.acked + 1 }) fun _ _ => further
    simp only
    split
    · exact .inl (taken.present _)
    all_goals
      split
      · exact .inr ⟨_, _, rfl, taken, further, rfl, rfl⟩
      · exact .inl (taken.present _)
  · exact .inr ⟨p, _, rfl, start, ⟨rfl, rfl, rfl, rfl⟩, rfl, rfl⟩

/-- An answer other than HOLD leaves the operation going on or ends it, with ABORT driven or not. -/
theorem Part.answered_cases {o : Operation} (ho : p.master.operation = some o) (ph : Phase) (a : Answer)
    (ad : BusWord) (good : Bool) : p.GoesOn o (p.answered o ph a ad good)
      ∨ ∃ q o' e, p.answered o ph a ad good = q.endOperation o' e ∧ p.GoesOn o q ∧ o.SameBurst o'
        ∧ q.windows = p.windows := by
  have start := Part.GoesOn.refl ho
  have same : o.SameBurst o := ⟨rfl, rfl, rfl, rfl⟩
  have aborts (e : OperationEnd) : ∃ q o' e', p.abortOperation o e = q.endOperation o' e' ∧ p.GoesOn o q
      ∧ o.SameBurst o' ∧ q.windows = p.windows :=
    ⟨p.driveAbort, o, e, rfl, ⟨by simp, rfl, ⟨o, ho, same⟩, fun w => ⟨_, rfl⟩⟩, same, rfl⟩
  have ends (e : OperationEnd) : ∃ q o' e', p.endOperation o e = q.endOperation o' e' ∧ p.GoesOn o q
      ∧ o.SameBurst o' ∧ q.windows = p.windows := ⟨p, o, e, rfl, start, same, rfl⟩
  unfold Part.answered
  split
  · exact .inr (aborts _)
  split
  · exact .inl start
  · rcases p.acknowledge_cases ho ph ad with h | ⟨q, o', h, goes, hsame, hwin, -⟩
    · exact .inl h
    · exact .inr ⟨q, o', _, h, goes, hsame, hwin⟩
  · split
    · exact .inr (ends _)
    · exact .inr (aborts _)
  · split
    · exact .inr (aborts _)
    · exact .inr (ends _)

theorem Part.waitingPhase_eq_some {o : Operation} {ph : Phase} (h : p.waitingPhase = some (o, ph)) :
    p.master.operation = some o ∧ o.phase = some ph
      ∧ (p.master.state = .driving ∨ p.master.state = .closing) := by
  unfold Part.waitingPhase at h
  split at h
  · next x hs hx =>
    obtain ⟨ph', hph, he⟩ := Option.map_eq_some_iff.1 h
    cases he
    exact ⟨hx, hph, .inl hs⟩
  · next x hs hx =>
    obtain ⟨ph', hph, he⟩ := Option.map_eq_some_iff.1 h
    cases he
    exact ⟨hx, hph, .inr hs⟩
  · cases h

theorem Part.writeState_keeps (p : Part) (v : BitVec 32) : p.Keeps [.engine] (p.writeState v) := by
  unfold Part.writeState
  split <;> simp

@[simp] theorem Part.keeps_writeState {l : List Region} (v : BitVec 32) (hl : [.engine] ⊆ l) :
    p.Keeps l (q.writeState v) ↔ p.Keeps l q := (q.writeState_keeps v).iff hl

theorem Part.plainWrite_keeps (p : Part) (o : BitVec 12) (n : Nat) (v : BitVec 32) :
    p.Keeps [.engine] (p.plainWrite o n v) := by
  unfold Part.plainWrite
  (repeat' split) <;> simp

/-! ### Commands that change some blocks, with what follows at the same event -/

/-- `q` comes of `p` by a change within the blocks listed, with what follows at the same event or without. -/
def Part.Reacts (l : List Region) (p q : Part) : Prop := ∃ r, p.Keeps l r ∧ (q = r ∨ q = r.react)

/-- What the change and the reaction keep holds afterwards. -/
theorem Part.Reacts.holds {l : List Region} {P : Part → Prop} (h : p.Reacts l q)
    (hkeeps : ∀ q, p.Keeps l q → P q) (hreact : ∀ q, P q → P q.react) : P q := by
  obtain ⟨r, hr, rfl | rfl⟩ := h
  · exact hkeeps _ hr
  · exact hreact _ (hkeeps _ hr)

section
variable {l : List Region}

theorem Part.Reacts.still (h : p.Keeps l q) : p.Reacts l q := ⟨q, h, .inl rfl⟩
theorem Part.Reacts.react (h : p.Keeps l q) : p.Reacts l q.react := ⟨q, h, .inr rfl⟩
theorem Part.Reacts.refl (p : Part) : p.Reacts l p := .still (p.keeps_self l)

end

theorem Part.reacts_submit (p : Part) (r : BitVec 4) (i : BitVec 12) :
    p.Reacts [.engine, .fetch] (p.submit r i) := by
  unfold Part.submit
  (repeat' split)
  · exact .react (by simp)
  all_goals exact .still (by simp)

theorem Part.reacts_complete (p : Part) (r : BitVec 4) (i : BitVec 12) (arm : Bool) :
    p.Reacts [.engine, .host, .admin, .compl, .out] (p.complete r i arm) := by
  simp only [Part.complete]
  split
  · split
    · exact .react (by split <;> simp)
    · exact .still (by simp)
  · exact .still (by simp)

theorem Part.reacts_notice (p : Part) (i : BitVec 12) (arm : Bool) :
    p.Reacts [.engine, .host, .notices, .out] (p.notice i arm) := by
  simp only [Part.notice]
  split
  · exact .react (by split <;> simp)
  · exact .still (by simp)

theorem Part.reacts_adminSubmit (p : Part) (i : BitVec 12) :
    p.Reacts [.engine, .admin] (p.adminSubmit i) := by
  unfold Part.adminSubmit
  split
  · exact .react (by simp)
  · exact .still (by simp)

theorem Part.reacts_adminComplete (p : Part) (i : BitVec 12) (arm : Bool) :
    p.Reacts [.engine, .host, .compl, .out] (p.adminComplete i arm) := by
  simp only [Part.adminComplete]
  split
  · exact .react (by split <;> simp)
  · exact .still (by simp)

theorem Part.reacts_choose (p : Part) : p.Reacts [.host, .fetch, .compl] p.choose := by
  unfold Part.choose
  (repeat' split)
  · exact .react (by simp)
  all_goals exact .refl p

theorem Part.reacts_select (p : Part) : p.Reacts [.host, .sched, .master, .stats, .out] p.select := by
  simp only [Part.select]
  split
  · split
    · exact .react (by split <;> simp)
    · exact .refl p
  · exact .refl p

theorem Part.reacts_handNext (p : Part) : p.Reacts [.fetch, .sched, .compl] p.handNext := by
  unfold Part.handNext
  (repeat' split)
  iterate 2 exact .react (by simp)
  all_goals exact .refl p

theorem Part.reacts_startClose (p : Part) : p.Reacts [.windows, .master, .out] p.startClose := by
  unfold Part.startClose
  split
  · exact .react (by simp)
  · exact .refl p

theorem Part.reacts_finishDeletion (p : Part) : p.Reacts [.admin, .fetch, .compl] p.finishDeletion := by
  unfold Part.finishDeletion
  split
  · exact .react (by simp)
  · exact .refl p

theorem Part.reacts_finishDraining (p : Part) : p.Reacts [.admin, .windows, .compl] p.finishDraining := by
  unfold Part.finishDraining
  split
  · exact .react (by simp)
  · exact .refl p

theorem Part.reacts_flushWalk (p : Part) : p.Reacts [.admin, .fetch, .sched, .compl] p.flushWalk := by
  unfold Part.flushWalk
  split
  · split
    · split
      · simp only [Part.walkStep]
        split
        · exact .react (by simp)
        split
        · exact .react (by simp)
        split
        · exact .react (by simp)
        · exact .refl p
      · exact .refl p
    · exact .refl p
  · exact .refl p

theorem Part.reacts_reportWritten (p : Part) (done : Bool) :
    p.Reacts [.host, .admin, .compl] (p.reportWritten done) := by
  simp only [Part.reportWritten]
  (repeat' split)
  iterate 2 exact .react (by simp)
  all_goals exact .still (by simp)

end Sys2Proof.Machine
end

section
/-! The port law (R92, R93, R95, R96, R99, R104, R107), kept by every step, and the level on LVL (R34, R93). -/

-- One declaration at a time: every further thread counts against the memory the check allows.
set_option Elab.async false

namespace Sys2Proof.Machine

variable {p q : Part}

/-! ### Changes the law does not see -/

/-- The port as the law sees it: the chain hold, the lines and a smaller error count play no part in it. -/
structure Port.SameLaw (x y : Port) : Prop where
  state : y.state = x.state
  mark : y.mark = x.mark
  joinTimer : y.joinTimer = x.joinTimer
  tenure : y.tenure = x.tenure
  req : y.req = x.req
  lvl : y.lvl = x.lvl
  errors : x.errorCount ≤ 16 → y.errorCount ≤ 16

theorem PortLaw.congr (h : PortLaw p) (hq : p.port.SameLaw q.port) : PortLaw q := by
  obtain ⟨hstate, hmark, hjoin, htenure, hreq, hlvl, herrors⟩ := hq
  obtain ⟨errors, level, raised, raises, tenure, join, mark⟩ := h
  refine ⟨herrors errors, ?_, ?_, ?_, ?_, ?_, ?_⟩ <;>
    simp only [hstate, hmark, hjoin, htenure, hreq, hlvl] <;> assumption

theorem PortLaw.keeps (h : PortLaw p) (hq : p.Keeps besidePort q) : PortLaw q :=
  h.congr (by rw [hq.port]; exact ⟨rfl, rfl, rfl, rfl, rfl, rfl, id⟩)

theorem Part.HoldOnly.sameLaw (h : p.HoldOnly q) : p.port.SameLaw q.port := by
  rw [h]
  exact ⟨rfl, rfl, rfl, rfl, rfl, rfl, id⟩

theorem PortLaw.holdOnly (h : PortLaw p) (hq : p.HoldOnly q) : PortLaw q := h.congr hq.sameLaw

theorem PortLaw.not_raised (h : PortLaw p) (hstate : p.port.state = .detached ∨ p.port.state = .joining
    ∨ p.port.state = .idle) : p.port.req = false := by
  by_contra hreq
  have := h.raised (by simpa using hreq)
  rcases hstate with hs | hs | hs <;> simp [hs] at this

theorem PortLaw.no_mark (h : PortLaw p) (hstate : p.port.state ≠ .yielding ∧ p.port.state ≠ .releasing) :
    p.port.mark = .none := by
  by_contra hmark
  exact (h.mark hmark).elim hstate.1 hstate.2

theorem PortLaw.no_timer (h : PortLaw p) (hstate : p.port.state ≠ .joining) : p.port.joinTimer = 0 :=
  h.join.2.2 hstate

/-- A port that neither owns, waits nor joins meets the law with everything clear. -/
theorem PortLaw.of_away (hstate : p.port.state = .detached ∨ p.port.state = .idle)
    (herrors : p.port.errorCount ≤ 16) (hreq : p.port.req = false) (hlvl : p.port.lvl = 3)
    (htenure : p.port.tenure = false) (hjoin : p.port.joinTimer = 0) (hmark : p.port.mark = .none) :
    PortLaw p := by
  constructor <;> rcases hstate with h | h <;> simp_all [PortState.owns]

/-- A port that owns the backplane meets the law. -/
theorem PortLaw.of_owns (hstate : p.port.state.owns = true) (herrors : p.port.errorCount ≤ 16)
    (hreq : p.port.state ≠ .releasing → p.port.req = true) (hlvl : p.port.req = false → p.port.lvl = 3)
    (htenure : p.port.tenure = true) (hjoin : p.port.joinTimer = 0)
    (hmark : p.port.state = .owner → p.port.mark = .none) : PortLaw p := by
  constructor <;> cases h : p.port.state <;> simp_all [PortState.owns]

/-- An owning port may go on to YIELDING or RELEASING, with any mark and without its chain hold. -/
theorem PortLaw.leave (h : PortLaw p) (hstate : p.port.state.owns = true) {st : PortState}
    (hst : st = .releasing ∨ (st = .yielding ∧ p.port.state ≠ .releasing)) (m : DetachMark)
    (n : Option (Fin 8 × Nat)) :
    PortLaw (p.onPort fun x => { x with mark := m, chainHold := n, state := st }) := by
  have hnot : p.port.state ≠ .joining := by intro he; simp [he, PortState.owns] at hstate
  refine .of_owns ?_ h.errors ?_ h.level (h.tenure.trans hstate) (h.no_timer hnot) ?_
  · rcases hst with rfl | ⟨rfl, -⟩ <;> rfl
  · rcases hst with rfl | ⟨rfl, hp⟩
    · simp
    · intro _
      refine h.raises ?_
      cases hs : p.port.state <;> simp_all [PortState.owns]
  · rcases hst with rfl | ⟨rfl, -⟩ <;> simp

/-! ### The port's own moves -/

theorem PortLaw.movePort (h : PortLaw p) : PortLaw p.movePort := by
  unfold Part.movePort
  split
  · next hs =>
    split
    · have hnone := h.no_mark (by simp [hs])
      have hno := h.tenure
      have hjoin := h.no_timer (by simp [hs])
      constructor <;> simp_all [PortState.owns, h.errors]
    · exact h
  · next hs =>
    split
    · exact .of_away (.inr rfl) h.errors rfl rfl (by simpa [hs, PortState.owns, Port.dropRequest] using h.tenure)
        (h.no_timer (by simp [hs])) (h.no_mark (by simp [hs]))
    · exact h
  · next hs =>
    split
    · exact h.leave (by rw [hs]; rfl) (.inl rfl) _ _
    · exact h
  · next hs =>
    split
    · exact h.leave (by rw [hs]; rfl) (.inl rfl) _ _
    · exact h
  all_goals exact h

theorem PortLaw.driveLevel (h : PortLaw p) : PortLaw p.driveLevel where
  errors := h.errors
  level hreq := by
    change (if p.port.req then _ else (3 : Fin 4)) = 3
    have hno : p.port.req = false := hreq
    simp [hno]
  raised := h.raised
  raises := h.raises
  tenure := h.tenure
  join := h.join
  mark := h.mark

theorem PortLaw.react (h : PortLaw p) : PortLaw p.react := by
  refine h.movePort.driveLevel.keeps ?_
  simp [Part.react]

/-! ### Leaving the backplane -/

theorem Part.portDetached_law (h : p.port.errorCount ≤ 16) : PortLaw p.portDetached :=
  .of_away (.inl rfl) h rfl rfl rfl rfl rfl

theorem Part.detach_law (h : p.port.errorCount ≤ 16) (cause : DetachCause) : PortLaw (p.detach cause) :=
  (Part.portDetached_law h).keeps (by simp [Part.detach])

theorem PortLaw.leaveAtLimit (h : PortLaw p) : PortLaw p.leaveAtLimit := by
  unfold Part.leaveAtLimit
  split
  · exact Part.detach_law h.errors _
  · exact Part.detach_law h.errors _
  · next hs => exact h.leave (by rw [hs]; rfl) (.inl rfl) _ _
  · next hs =>
    have := h.leave (by rw [hs]; rfl) (.inr ⟨rfl, by simp [hs]⟩) .errorLimit none
    rwa [← hs] at this
  · next hs =>
    have := h.leave (by rw [hs]; rfl) (.inl rfl) .errorLimit none
    rwa [← hs] at this
  · exact h
  · exact h

theorem PortLaw.raiseError (h : PortLaw p) : PortLaw p.raiseError := by
  have hraised : PortLaw (p.onPort Port.raise) :=
    h.congr ⟨rfl, rfl, rfl, rfl, rfl, rfl, fun _ => by simp [Port.raise, errorLimit]⟩
  simp only [Part.raiseError]
  split
  · exact hraised.leaveAtLimit
  · exact hraised

theorem PortLaw.failPort (h : PortLaw p) : PortLaw p.failPort := by
  unfold Part.failPort
  split
  iterate 3 exact Part.portDetached_law h.errors
  · next hs =>
    have hst : (if p.master.state = .idle then PortState.releasing else .yielding) = .releasing
        ∨ (if p.master.state = .idle then PortState.releasing else .yielding) = .yielding
          ∧ p.port.state ≠ .releasing := by
      split <;> simp [hs]
    exact h.leave (by rw [hs]; rfl) hst _ _
  all_goals exact h.holdOnly (Part.QueueOnly.refl p).endHold.hold

/-! ### Reports and settlements -/

theorem PortLaw.lowerError (h : PortLaw p) : PortLaw p.lowerError :=
  h.congr ⟨rfl, rfl, rfl, rfl, rfl, rfl, fun he => (Nat.sub_le ..).trans he⟩

theorem PortLaw.verdict (h : PortLaw p) (o : Operation) (e : OperationEnd) : PortLaw (p.verdict o e) := by
  unfold Part.verdict
  split
  · exact h.lowerError.keeps (by simp [Part.keeps_onOperationWindow])
  · exact h.keeps (by simp [Part.keeps_onOperationWindow])
  · exact h.keeps (by simp [Part.keeps_onOperationWindow])
  · exact h.keeps (by simp [Part.keeps_onOperationWindow])
  · exact PortLaw.raiseError (h.keeps (by simp [Part.keeps_onOperationWindow]))
  all_goals exact h

theorem PortLaw.reportBurst (h : PortLaw p) (o : Operation) (k : Fin 8) (e : OperationEnd) (n : Nat)
    (delivered : Bool) : PortLaw (p.reportBurst o k e n delivered) :=
  ((h.keeps (q := p.masterIdle) (by simp)).verdict o e).holdOnly
    (p.holdOnly_reportBurst o k e n delivered)

theorem PortLaw.endClose (h : PortLaw p) (o : Operation) (e : OperationEnd) : PortLaw (p.endClose o e) := by
  simp only [Part.endClose]
  split
  · exact PortLaw.verdict (h.keeps (by simp [Part.keeps_onOperationWindow])) o e
  · exact (h.keeps (q := p.masterIdle) (by simp)).verdict o e

theorem PortLaw.endOperation (h : PortLaw p) (o : Operation) (e : OperationEnd) :
    PortLaw (p.endOperation o e) := by
  unfold Part.endOperation
  split
  · exact h.endClose o e
  · split
    · exact h.keeps (by simp)
    · exact h.reportBurst _ _ _ _ _

theorem PortLaw.abortOperation (h : PortLaw p) (o : Operation) (e : OperationEnd) :
    PortLaw (p.abortOperation o e) := (h.keeps (q := p.driveAbort) (by simp)).endOperation o e

theorem PortLaw.goesOn (h : PortLaw p) {o : Operation} (hq : p.GoesOn o q) : PortLaw q :=
  h.keeps (hq.keeps.mono (by simp))

theorem PortLaw.takeAnswer (h : PortLaw p) (a : Answer) (ad : BusWord) (good : Bool) :
    PortLaw (p.takeAnswer a ad good) := by
  unfold Part.takeAnswer
  split
  · next o ph hwaits =>
    split
    · exact h
    · obtain ⟨ho, -, -⟩ := Part.waitingPhase_eq_some hwaits
      rcases Part.answered_cases ho ph a ad good with goes | ⟨q, o', e, he, goes, -, -⟩
      · exact (h.goesOn goes).react
      · rw [he]
        exact ((h.goesOn goes).endOperation _ _).react
  · exact h

theorem PortLaw.expireResponse (h : PortLaw p) : PortLaw p.expireResponse := by
  unfold Part.expireResponse
  split
  · exact (h.abortOperation _ _).react
  · exact h

theorem PortLaw.delivered (h : PortLaw p) (done : Bool) : PortLaw (p.delivered done) := by
  have hclosed : PortLaw (p.forWrite .master done).closeAccess := h.keeps (by simp)
  simp only [Part.delivered]
  (repeat' split)
  · exact (hclosed.reportBurst _ _ _ _ _).react
  iterate 2 exact hclosed
  · exact h.keeps (by simp)

theorem PortLaw.dataReadFails (h : PortLaw p) : PortLaw p.dataReadFails := by
  unfold Part.dataReadFails
  (repeat' split)
  · exact h.reportBurst _ _ _ _ _
  all_goals exact h

theorem PortLaw.dataRead (h : PortLaw p) (result : Option BurstData) : PortLaw (p.dataRead result) := by
  have hclosed : PortLaw (p.forRead .master result.isSome).closeAccess := h.keeps (by simp)
  simp only [Part.dataRead]
  (repeat' split)
  · exact hclosed.react
  · exact (hclosed.keeps (by simp)).react
  · exact hclosed.dataReadFails.react
  · exact h.keeps (by simp)

theorem PortLaw.settleOnly (h : PortLaw p) : PortLaw p.settleOnly := by
  unfold Part.settleOnly
  (repeat' split)
  · exact (h.holdOnly ((Part.QueueOnly.refl p).settle _ _ _).hold).react
  all_goals exact h

/-! ### The entry into FAILED (R174, R111) -/

theorem PortLaw.enterFailed (h : PortLaw p) (c : FatalCause) (id : Nat) : PortLaw (p.enterFailed c id) := by
  simp only [Part.enterFailed]
  split
  · refine PortLaw.failPort ?_
    unfold Part.dropDelivery
    (repeat' split)
    · exact PortLaw.reportBurst (h.keeps (by simp)) _ _ _ _ _
    all_goals exact h.keeps (by simp)
  · exact h

theorem PortLaw.submissionReadFails (h : PortLaw p) : PortLaw p.submissionReadFails := by
  unfold Part.submissionReadFails
  split
  · exact h.enterFailed _ _
  · exact h

theorem PortLaw.readTimesOut (h : PortLaw p) : PortLaw p.readTimesOut := by
  have hclosed : PortLaw p.closeAccess := h.keeps (by simp)
  unfold Part.readTimesOut
  split
  · exact hclosed.submissionReadFails.react
  split
  · exact (hclosed.enterFailed _ _).react
  split
  · split
    · exact hclosed.react
    · exact hclosed.dataReadFails.react
  · exact h

theorem PortLaw.submissionRead (h : PortLaw p) (result : Option Block) : PortLaw (p.submissionRead result) := by
  have hclosed : PortLaw (p.forRead .ringFetch result.isSome).closeAccess := h.keeps (by simp)
  simp only [Part.submissionRead]
  (repeat' split)
  · exact (hclosed.holdOnly ((Part.QueueOnly.refl _).discardFlight _).hold).react
  · exact (hclosed.holdOnly ((Part.QueueOnly.refl _).takeRecord _ _).hold).react
  · exact hclosed.submissionReadFails.react
  iterate 2 exact hclosed
  · exact h.keeps (by simp)

theorem PortLaw.noticeWritten (h : PortLaw p) (done : Bool) : PortLaw (p.noticeWritten done) := by
  have hclosed : PortLaw (p.forWrite .notices done).closeAccess := h.keeps (by simp)
  simp only [Part.noticeWritten]
  (repeat' split)
  iterate 2 exact PortLaw.react (hclosed.keeps (by simp))
  · exact (hclosed.enterFailed _ _).react
  · exact hclosed
  · exact h.keeps (by simp)

theorem PortLaw.completionWritten (h : PortLaw p) (done : Bool) : PortLaw (p.completionWritten done) := by
  have hclosed : PortLaw (p.forWrite .posting done).closeAccess := h.keeps (by simp)
  simp only [Part.completionWritten]
  (repeat' split)
  · exact PortLaw.react (hclosed.keeps (by simp))
  · exact (hclosed.enterFailed _ _).react
  · exact hclosed
  · exact h.keeps (by simp)

theorem PortLaw.adminWritten (h : PortLaw p) (done : Bool) : PortLaw (p.adminWritten done) := by
  have hclosed : PortLaw (p.forWrite .adminPosting done).closeAccess := h.keeps (by simp)
  simp only [Part.adminWritten]
  (repeat' split)
  iterate 2 exact PortLaw.react (hclosed.keeps (by simp))
  · exact (hclosed.enterFailed _ _).react
  · exact h.keeps (by simp)

/-! ### The backplane's lines -/

theorem PortLaw.takeWithdraw (h : PortLaw p) (hs : p.port.state = .owner) : PortLaw p.takeWithdraw := by
  have howns : p.port.state.owns = true := by rw [hs]; rfl
  unfold Part.takeWithdraw
  split
  · exact h.leave howns (.inl rfl) _ _
  · have hkept : p.Keeps besidePort p.abandonFetch := by simp
    exact (h.keeps hkept).leave (by rw [hkept.port]; exact howns) (.inl rfl) _ _
  all_goals exact h.leave howns (.inr ⟨rfl, by simp [hs]⟩) _ _

theorem PortLaw.takeGrant (h : PortLaw p) (hs : p.port.state = .requesting) : PortLaw p.takeGrant :=
  .of_owns rfl h.errors (fun _ => h.raises (.inl hs)) h.level rfl (h.no_timer (by simp [hs]))
    fun _ => h.no_mark (by simp [hs])

theorem PortLaw.grantRises (h : PortLaw p) : PortLaw p.grantRises := by
  have hline : PortLaw (p.onPort fun x => { x with gnt := true }) :=
    h.congr ⟨rfl, rfl, rfl, rfl, rfl, rfl, id⟩
  simp only [Part.grantRises]
  split
  · exact h
  split
  · next hs =>
    split
    · exact ((hline.takeGrant hs).takeWithdraw rfl).react
    · exact (hline.takeGrant hs).react
  · next hs =>
    refine PortLaw.react (.of_owns rfl h.errors (by simp) h.level rfl ?_ (by simp))
    exact h.no_timer (by change p.port.state = .idle at hs; simp [hs])
  all_goals exact hline

/-- What remains after a tenure meets the law, whatever tenure it was. -/
theorem PortLaw.afterTenure (herrors : p.port.errorCount ≤ 16) (htenure : p.port.tenure = false)
    (hjoin : p.port.joinTimer = 0) : PortLaw p.afterTenure := by
  unfold Part.afterTenure
  split
  · exact Part.portDetached_law herrors
  split
  · exact Part.detach_law herrors _
  · next hmark =>
    refine .of_away (.inr rfl) herrors rfl rfl htenure hjoin ?_
    change p.port.mark = .none
    cases hm : p.port.mark <;> simp_all [DetachMark.cause]

theorem Part.verdict_cut (p : Part) (o : Operation) {e : OperationEnd} (he : e = .grantLost ∨ e = .linkLost) :
    p.verdict o e = p := by
  rcases he with rfl | rfl <;> rfl

/-- An operation cut by a loss of the backplane touches of the port at most the chain hold. -/
theorem Part.HoldOnly.cutOperation (h : p.HoldOnly q) {e : OperationEnd}
    (he : e = .grantLost ∨ e = .linkLost) : p.HoldOnly (q.cutOperation e) := by
  unfold Part.cutOperation
  split
  · next o _ =>
    split
    · unfold Part.endOperation
      split
      · have hend : q.endClose o e = q.masterIdle := by rcases he with rfl | rfl <;> rfl
        rw [hend]
        exact h
      · split
        · exact h
        · have hreport := q.holdOnly_reportBurst o (by assumption) e o.ackedBytes true
          rw [Part.verdict_cut _ _ he] at hreport
          exact h.trans hreport
    · exact h
  · exact h

theorem Part.HoldOnly.abandonFetch (h : p.HoldOnly q) : p.HoldOnly q.abandonFetch := h.beside (by simp)

theorem PortLaw.loseGrant (h : PortLaw p) (hs : p.port.state ≠ .joining) : PortLaw p.loseGrant := by
  have hcut : p.endTenureFlags.HoldOnly
      ((p.endTenureFlags.loseBanks.abandonFetch).cutOperation .grantLost) :=
    (Part.HoldOnly.abandonFetch (Part.Keeps.holdOnly (by simp))).cutOperation (.inl rfl)
  obtain ⟨-, -, hjoin, htenure, -, -, -⟩ := hcut.sameLaw
  have htimer : p.endTenureFlags.port.joinTimer = 0 := h.no_timer hs
  have hraise (x : Port) : x.raise.errorCount ≤ 16 := min_le_left _ _
  simp only [Part.loseGrant]
  split
  · exact .afterTenure (hraise _) htenure (hjoin.trans htimer)
  · exact .afterTenure (hraise _) htenure (hjoin.trans htimer)

theorem PortLaw.grantDrops (h : PortLaw p) : PortLaw p.grantDrops := by
  have hline : PortLaw (p.onPort fun x => { x with gnt := false }) :=
    h.congr ⟨rfl, rfl, rfl, rfl, rfl, rfl, id⟩
  simp only [Part.grantDrops]
  split
  · split
    · next htenure =>
      have howns : p.port.state.owns = true := hline.tenure.symm.trans htenure
      have hs : p.port.state ≠ .joining := by intro he; simp [he, PortState.owns] at howns
      split
      · refine PortLaw.react (PortLaw.afterTenure ?_ rfl ?_)
        · exact hline.errors
        · exact hline.no_timer hs
      · exact (hline.loseGrant hs).react
    · exact hline.react
  · exact h

theorem PortLaw.loseLink (h : PortLaw p) (cause : DetachCause) : PortLaw (p.loseLink cause) := by
  unfold Part.loseLink
  split
  · exact h
  · have hcut : p.endTenureFlags.HoldOnly
        ((p.endTenureFlags.loseBanks.abandonFetch).cutOperation .linkLost) :=
      (Part.HoldOnly.abandonFetch (Part.Keeps.holdOnly (by simp))).cutOperation (.inr rfl)
    exact (Part.detach_law (hcut.sameLaw.errors h.errors) cause).react

theorem PortLaw.onLines (h : PortLaw p) {f : Port → Port}
    (hf : p.port.SameLaw (f p.port)) : PortLaw (p.onPort f) := h.congr hf

theorem PortLaw.withdraw (h : PortLaw p) : PortLaw p.withdraw := by
  have hline : PortLaw (p.onPort fun x => { x with wdr := true }) :=
    h.onLines ⟨rfl, rfl, rfl, rfl, rfl, rfl, id⟩
  simp only [Part.withdraw]
  split
  · exact (hline.takeWithdraw ‹_›).react
  · exact hline

theorem PortLaw.completeRelease (h : PortLaw p) : PortLaw p.completeRelease := by
  unfold Part.completeRelease
  split
  · next hreleases =>
    obtain ⟨hs, -, -⟩ := hreleases
    have howns : p.port.state.owns = true := by rw [hs]; rfl
    exact .of_owns howns h.errors (fun hne => absurd hs hne) (fun _ => rfl) (h.tenure.trans howns)
      (h.no_timer (by simp [hs])) (fun ho => absurd (hs.symm.trans ho) nofun)
  · exact h

theorem PortLaw.seePhase (h : PortLaw p) (code : PhaseCode) : PortLaw (p.seePhase code) := by
  have hjoin : PortLaw (if p.port.state = .joining then
      p.onPort fun x => { x with joinTimer := joinInterval } else p) := by
    split
    · next hs =>
      exact ⟨h.errors, h.level, h.raised, h.raises, h.tenure, ⟨le_rfl, by simp [joinInterval, hs]⟩, h.mark⟩
    · exact h
  simp only [Part.seePhase]
  split
  · exact hjoin
  · exact hjoin.keeps (by simp)

theorem PortLaw.finishJoin (h : PortLaw p) : PortLaw p.finishJoin := by
  unfold Part.finishJoin
  split
  · next hs =>
    have hreq : p.port.req = false := h.not_raised (.inr (.inl hs))
    have hidle : PortLaw (p.onPort fun x => { x with state := .idle, joinTimer := 0 }) :=
      .of_away (.inr rfl) h.errors hreq (h.level hreq) (h.tenure.trans (by rw [hs]; rfl)) rfl
        (h.no_mark (by simp [hs]))
    exact PortLaw.react (hidle.keeps (by simp))
  · exact h

theorem PortLaw.checkTaken (h : PortLaw p) (ad : BusWord) (good : Bool) : PortLaw (p.checkTaken ad good) := by
  have hseen := h.seePhase .data
  simp only [Part.checkTaken]
  (repeat' split)
  · exact PortLaw.react (hseen.keeps (by simp))
  · exact (PortLaw.raiseError (hseen.keeps (by simp))).react
  all_goals exact hseen

/-! ### Every command -/

theorem PortLaw.enable (h : PortLaw p) : PortLaw p.enable := by
  unfold Part.enable
  (repeat' split)
  · exact PortLaw.react (h.keeps (by simp [Part.enableFromOff]))
  · exact h.keeps (by simp)
  · exact (PortLaw.holdOnly (h.keeps (by simp)) (Part.QueueOnly.refl _).place.hold).react
  all_goals exact h

theorem PortLaw.reachQuiesced (h : PortLaw p) : PortLaw p.reachQuiesced := by
  unfold Part.reachQuiesced
  split
  · exact h.keeps (by simp)
  · exact h

theorem PortLaw.quiesce (h : PortLaw p) : PortLaw p.quiesce := by
  unfold Part.quiesce
  split
  · exact (PortLaw.holdOnly h (Part.QueueOnly.endHold (Part.Keeps.queueOnly (by simp))).hold).react.reachQuiesced
  all_goals exact h

theorem portLaw_functionReset (p : Part) : PortLaw p.functionReset :=
  .of_away (.inl rfl) (Nat.zero_le _) rfl rfl rfl rfl rfl

theorem PortLaw.arrive (h : PortLaw p) (rec : Block) {f : Part → Part}
    (hf : ∀ q, PortLaw q → PortLaw (f q)) : PortLaw (p.arrive rec f) := by
  have hclosed : PortLaw p.closeAccess := h.keeps (by simp)
  simp only [Part.arrive]
  split
  · split
    · exact (hf _ (hclosed.keeps (by simp))).react
    · exact hclosed
  · exact h

theorem Part.checked_cases (p : Part) (checks : List (Bool × Status)) (f : Part → Part) :
    (p.checked checks f = f p ∧ ∀ c ∈ checks, c.1 = true)
      ∨ ∃ st, p.checked checks f = p.endCommand st 0#32 := by
  unfold Part.checked firstFailure
  cases h : checks.find? fun c => !c.1 with
  | none => exact .inl ⟨rfl, by simpa using h⟩
  | some c => exact .inr ⟨c.2, rfl⟩

theorem PortLaw.arrive_checked (h : PortLaw p) (rec : Block) {checks : Part → List (Bool × Status)}
    {f : Part → Part} (hf : ∀ q, PortLaw q → (∀ c ∈ checks q, c.1 = true) → PortLaw (f q)) :
    PortLaw (p.arrive rec fun p => p.checked (checks p) f) :=
  h.arrive rec fun q hq => by
    rcases q.checked_cases (checks q) f with ⟨he, hpass⟩ | ⟨st, he⟩ <;> rw [he]
    · exact hf q hq hpass
    · exact hq.keeps (by simp)

theorem PortLaw.attach (h : PortLaw p) (hpass : ∀ c ∈ p.attachChecks, c.1 = true) :
    PortLaw (p.onPort fun x =>
      { x with state := .joining, errorCount := 0, mark := .none, joinTimer := joinInterval }) := by
  have hs : p.port.state = .detached := by
    simpa using hpass (p.port.state == .detached, .wrongState) (by simp [Part.attachChecks])
  have hreq : p.port.req = false := h.not_raised (.inl hs)
  refine ⟨Nat.zero_le _, h.level, fun hr => ?_, by simp, h.tenure.trans (by rw [hs]; rfl), ?_, by simp⟩
  · exact absurd (hreq.symm.trans hr) nofun
  · simp [joinInterval]

theorem PortLaw.detachCommand (h : PortLaw p) : PortLaw p.detachCommand := by
  have hheld : PortLaw (p.endHold.waitFor .detach) := h.congr ⟨rfl, rfl, rfl, rfl, rfl, rfl, id⟩
  simp only [Part.detachCommand]
  split
  iterate 3 exact Part.detach_law hheld.errors _
  · next hs =>
    have hst : (if (p.endHold.waitFor .detach).master.state = .idle then PortState.releasing else .yielding)
          = .releasing
        ∨ (if (p.endHold.waitFor .detach).master.state = .idle then PortState.releasing else .yielding)
          = .yielding ∧ (p.endHold.waitFor .detach).port.state ≠ .releasing := by
      split <;> simp_all
    exact hheld.leave (by rw [hs]; rfl) hst _ _
  · next hs =>
    have := hheld.leave (by rw [hs]; rfl) (.inr ⟨rfl, by rw [hs]; nofun⟩) .command none
    rwa [← hs] at this
  · next hs =>
    have := hheld.leave (by rw [hs]; rfl) (.inl rfl) .command none
    rwa [← hs] at this
  · exact hheld

theorem PortLaw.noticePhase (h : PortLaw p) (ad : BusWord) (beats : Nat) (good : Bool) :
    PortLaw (p.noticePhase ad beats good) := by
  simp only [Part.noticePhase]
  split
  · exact (h.seePhase .notice).keeps (by simp)
  · exact h.seePhase .notice

theorem PortLaw.noticeBeatTaken (h : PortLaw p) (ad : BusWord) (good : Bool) :
    PortLaw (p.noticeBeatTaken ad good) := by
  have hseen := h.seePhase .data
  simp only [Part.noticeBeatTaken]
  (repeat' split)
  · exact hseen.keeps (by simp)
  all_goals exact hseen

/-- A command that leaves the port to the reaction. -/
theorem PortLaw.reacts {l : List Region} (h : PortLaw p) (hq : p.Reacts l q)
    (hl : l ⊆ besidePort := by simp) : PortLaw q :=
  hq.holds (fun _ hk => h.keeps (hk.mono hl)) fun _ => PortLaw.react

/-- The effect of a command other than a register write. -/
theorem PortLaw.effect (h : PortLaw p) (c : Instr) (hc : ∀ o n v, c ≠ .registerWrite o n v) :
    PortLaw (effect c p) := by
  cases c with
  | registerWrite o n v => exact absurd rfl (hc o n v)
  | powerOnReset => exact .of_away (.inl rfl) (Nat.zero_le _) rfl rfl rfl rfl rfl
  | functionLevelReset | reset => exact portLaw_functionReset p
  | enable => exact h.enable
  | quiesce => exact h.quiesce
  | quiescedReached => exact h.reachQuiesced
  | submit ring index arm => exact h.reacts (p.reacts_submit _ _)
  | complete ring index arm => exact h.reacts (p.reacts_complete _ _ _)
  | notice ring index arm => exact h.reacts (p.reacts_notice _ _)
  | adminSubmit ring index arm => exact h.reacts (p.reacts_adminSubmit _)
  | adminComplete ring index arm => exact h.reacts (p.reacts_adminComplete _ _)
  | hostReadTimeout => exact h.readTimesOut
  | submissionReadDone result => exact h.submissionRead result
  | settleOnlySettlement => exact h.settleOnly
  | writeDataReadDone result => exact h.dataRead result
  | targetAnswer a ad good => exact h.takeAnswer a ad good
  | responseLimitExpiry => exact h.expireResponse
  | readDataWriteDone done => exact h.delivered done
  | releaseComplete => exact h.completeRelease
  | gntRise => exact h.grantRises
  | gntDrop => exact h.grantDrops
  | withdraw => exact h.withdraw
  | linkLoss =>
    simp only [Machine.effect]
    split
    · exact (h.onLines ⟨rfl, rfl, rfl, rfl, rfl, rfl, id⟩).loseLink _
    · exact h
  | backplaneReset =>
    simp only [Machine.effect]
    split
    · exact h
    · have hline : PortLaw (p.onPort fun x => { x with rst := true }) :=
        h.onLines ⟨rfl, rfl, rfl, rfl, rfl, rfl, id⟩
      exact PortLaw.loseLink (hline.keeps (by simp)) _
  | phaseActivity code => exact h.seePhase code
  | joinTimerExpiry => exact h.finishJoin
  | noticeEntryWriteDone done => exact h.noticeWritten done
  | completionEntryWriteDone done => exact h.completionWritten done
  | adminCompletionWriteDone done => exact h.adminWritten done
  | inboundNoticePhase ad beats good => exact h.noticePhase ad beats good
  | inboundNoticeBeat ad good => exact h.noticeBeatTaken ad good
  | inboundCheckWord ad good => exact h.checkTaken ad good
  | adminCommandReadFailed =>
    have hread : PortLaw (p.forRead .administration false) := h.keeps (by simp)
    simp only [Machine.effect]
    split
    · exact (PortLaw.enterFailed (hread.keeps (by simp)) _ _).react
    · exact hread
  | unknownCommand rec =>
    exact h.arrive rec (f := (Part.endCommand · .unknownCommand 0#32)) fun q hq => hq.keeps (by simp)
  | deleteSring rec =>
    simp only [Machine.effect]
    exact h.arrive_checked rec fun q hq _ => hq.holdOnly ((Part.QueueOnly.refl q).deleteSring rec).hold
  | haltSring rec =>
    simp only [Machine.effect]
    exact h.arrive_checked rec fun q hq _ => hq.holdOnly ((Part.QueueOnly.refl q).haltSring rec).hold
  | attach rec =>
    simp only [Machine.effect]
    exact h.arrive_checked rec fun q hq hpass => (hq.attach hpass).keeps (by simp)
  | detach rec =>
    simp only [Machine.effect]
    exact h.arrive_checked rec fun q hq _ => hq.detachCommand
  | createCring rec | deleteCring rec | createSring rec | resumeSring rec | flushSring rec | setWindow rec
  | clearWindow rec | reopenWindow rec | setNode rec | setNoticeRing rec | setFilter rec | query rec =>
    simp only [Machine.effect]
    exact h.arrive_checked rec fun q hq _ => hq.keeps (by simp)
  | ringChoice => exact h.reacts (p.reacts_choose)
  | selection => exact h.reacts (p.reacts_select)
  | postingHandover => exact h.reacts (p.reacts_handNext)
  | closeOperation => exact h.reacts (p.reacts_startClose)
  | sringDeletionEnd => exact h.reacts (p.reacts_finishDeletion)
  | flushWalk => exact h.reacts (p.reacts_flushWalk)
  | endOfDraining => exact h.reacts (p.reacts_finishDraining)
  | queryReportWriteDone done => exact h.reacts (p.reacts_reportWritten _)
  | stateWrite | notifyInvalidKind | hostAccessIssue | openTimerExpiry | noticeReceiveTimeout | vectorUnmask
  | vectorMasked => exact h.keeps (by simp [Machine.effect])
  | clockReturn | rstReleased | wdrDeasserted =>
    simp only [Machine.effect]
    exact h.onLines ⟨rfl, rfl, rfl, rfl, rfl, rfl, id⟩

theorem keptByClocks_portLaw : KeptByClocks PortLaw where
  join p h hs ht := by
    have hle := h.join.1
    refine ⟨h.errors, h.level, h.raised, h.raises, h.tenure, ⟨?_, ?_⟩, h.mark⟩
    · exact (Nat.sub_le ..).trans hle
    · exact iff_of_false (by simp; omega) (not_not.2 hs)
  banks _ h := h.keeps (by simp [Part.tickBanks])
  response _ h := h.keeps (by simp)
  receive _ _ h := h.keeps (by simp)
  read _ h := h.keeps (by simp)

/-! ### The level on LVL (R34, R93) -/

theorem Part.mostUrgent_le {l : List (Fin 8)} {c : Fin 4} (h : p.mostUrgent l = some c) {k : Fin 8}
    (hk : k ∈ l) : c ≤ (p.slot k).cls :=
  (List.min?_eq_some_iff.1 h).2 _ (List.mem_map_of_mem hk)

theorem Part.mostUrgent_mem {l : List (Fin 8)} {c : Fin 4} (h : p.mostUrgent l = some c) :
    ∃ k ∈ l, c = (p.slot k).cls := by
  obtain ⟨k, hk, he⟩ := List.mem_map.1 (List.min?_eq_some_iff.1 h).1
  exact ⟨k, hk, he.symm⟩

theorem Part.mem_busSet {k : Fin 8} : k ∈ p.busSet ↔ k ∈ p.sched.age ∧ p.busEligible (p.slot k) = true := by
  simp [Part.busSet]

/-- With REQ raised in RUNNING, LVL is the most urgent class of the bus-eligible slots where there is one. -/
theorem Settled.lvl_of_eligible (h : Settled p) (hrunning : p.engine.state = .running)
    (hreq : p.port.req = true) {k : Fin 8} (hk : k ∈ p.busSet) : p.mostUrgent p.busSet = some p.port.lvl := by
  have hlevel := (settled_iff.1 h).2.1
  simp only [hreq, if_true, Part.requestLevel, Part.reportedSet, hrunning] at hlevel
  cases hc : p.mostUrgent p.busSet with
  | none =>
    simp only [Part.mostUrgent, List.min?_eq_none_iff, List.map_eq_nil_iff] at hc
    rw [hc] at hk
    exact absurd hk List.not_mem_nil
  | some c =>
    rw [hc] at hlevel
    rw [hlevel]
    rfl

/-- Settles O5, by the law of the port that every command's effect keeps, and by the level that a settled port
drives. -/
theorem everyStepKeepsThePortLaw : Obligations.EveryStepKeepsThePortLaw := by
  refine ⟨fun s t hs hstep => ?_, fun p hp hrunning hreq => ⟨fun k hk he => ?_, fun ⟨k, hk, he⟩ => ?_⟩⟩
  · exact step_keeps (fun c p => effect_keeps (fun p o n v h => h.keeps ((p.plainWrite_keeps o n v).mono (by simp)))
      (fun c _ hc h => h.effect c hc) c) keptByClocks_portLaw hs hstep
  · have hmem := Part.mem_busSet.2 ⟨hk, he⟩
    exact Part.mostUrgent_le (hp.lvl_of_eligible hrunning hreq hmem) hmem
  · obtain ⟨j, hj, hcls⟩ :=
      Part.mostUrgent_mem (hp.lvl_of_eligible hrunning hreq (Part.mem_busSet.2 ⟨hk, he⟩))
    obtain ⟨hage, heligible⟩ := Part.mem_busSet.1 hj
    exact ⟨j, hage, heligible, hcls⟩

end Sys2Proof.Machine
end

section
/-! The law of ownership (R31, R46, R83, R90, R91, R100), kept by every step. -/

-- One declaration at a time: every further thread counts against the memory the check allows.
set_option Elab.async false

namespace Sys2Proof.Machine

variable {p q : Part}

/-! ### Open banks -/

theorem Part.anyBankOpen_iff : p.anyBankOpen = true ↔ ∃ w, ∃ b ∈ (p.window w).banks, b.state = .opened := by
  simp only [Part.anyBankOpen, List.any_eq_true, beq_iff_eq, Part.window]
  constructor
  · rintro ⟨x, hx, b, hb, hs⟩
    obtain ⟨i, hi, rfl⟩ := List.mem_iff_getElem.1 hx
    have hlt : i < 16 := by simpa using hi
    exact ⟨⟨i, hlt⟩, b, by simpa [Vector.get_eq_getElem] using hb, hs⟩
  · rintro ⟨w, b, hb, hs⟩
    exact ⟨p.windows.get w, by simp [Vector.get_eq_getElem], b, hb, hs⟩

/-- Where every open bank of `q` is at a window that has one in `p`, `q` has an open bank only if `p` has. -/
theorem Part.anyBankOpen_of (h : ∀ w, ∀ b ∈ (q.window w).banks, b.state = .opened →
      ∃ x ∈ (p.window w).banks, x.state = .opened) (hq : q.anyBankOpen = true) : p.anyBankOpen = true := by
  obtain ⟨w, b, hb, hs⟩ := Part.anyBankOpen_iff.1 hq
  exact Part.anyBankOpen_iff.2 ⟨w, h w b hb hs⟩

theorem Part.anyBankOpen_of_banks (h : ∀ w, (q.window w).banks = (p.window w).banks)
    (hq : q.anyBankOpen = true) : p.anyBankOpen = true :=
  Part.anyBankOpen_of (fun w b hb hs => ⟨b, h w ▸ hb, hs⟩) hq

theorem Part.anyBankOpen_modWindow {w : Fin 16} {f : Window → Window}
    (hf : ∀ b ∈ (f (p.window w)).banks, b.state = .opened → ∃ x ∈ (p.window w).banks, x.state = .opened)
    (hq : (p.modWindow w f).anyBankOpen = true) : p.anyBankOpen = true :=
  Part.anyBankOpen_of (fun v b hb hs => by
    rw [Part.modWindow_window] at hb
    split at hb
    · next hv =>
      subst hv
      exact hf b hb hs
    · exact ⟨b, hb, hs⟩) hq

theorem exists_of_mem_modify {α : Type} {P : α → Prop} {f : α → α} (hf : ∀ x, P (f x) → P x) {l : List α}
    {n : Nat} {y : α} (hy : y ∈ l.modify n f) (hp : P y) : ∃ x ∈ l, P x := by
  obtain ⟨i, hi, rfl⟩ := List.mem_iff_getElem.1 hy
  rw [List.getElem_modify] at hp
  split at hp
  · exact ⟨_, List.getElem_mem _, hf _ hp⟩
  · exact ⟨_, List.getElem_mem _, hp⟩

/-- A change of one bank that opens none. -/
theorem Part.anyBankOpen_modBank {w : Fin 16} {n : Nat} {f : Bank → Bank}
    (hf : ∀ b, (f b).state = .opened → b.state = .opened)
    (hq : (p.modBank w n f).anyBankOpen = true) : p.anyBankOpen = true :=
  Part.anyBankOpen_modWindow (fun _ hb hs => exists_of_mem_modify hf hb hs) hq

theorem Part.loseBanks_none_open (p : Part) : p.loseBanks.anyBankOpen = false := by
  rw [← Bool.not_eq_true, Part.anyBankOpen_iff]
  rintro ⟨w, b, hb, hs⟩
  simp only [Part.loseBanks, Part.window, Part.onWindows_windows, tabMap_get, List.mem_map] at hb
  obtain ⟨x, -, rfl⟩ := hb
  cases hs

/-! ### Changes the law does not see -/

theorem OwnershipLaw.congr (h : OwnershipLaw p) (hstate : q.port.state = p.port.state)
    (hreq : q.port.req = p.port.req) (hmaster : q.master.state = p.master.state)
    (hop : p.master.operation.isSome = true → q.master.operation.isSome = true)
    (hbanks : q.anyBankOpen = true → p.anyBankOpen = true) : OwnershipLaw q := by
  obtain ⟨raises, busy, burst, closing, banks⟩ := h
  refine ⟨?_, ?_, ?_, ?_, fun hq => ?_⟩
  · rwa [hstate, hreq]
  · rw [hmaster]
    exact fun hne => hop (busy hne)
  · rwa [hstate, hmaster]
  · rwa [hstate, hreq, hmaster]
  · rw [hstate, hreq]
    exact banks (hbanks hq)

/-- Every block but the port, the Master and the windows. -/
abbrev besideOwnership : List Region :=
  [.engine, .host, .admin, .fetch, .sched, .notices, .compl, .stats, .out]

theorem OwnershipLaw.keeps (h : OwnershipLaw p) (hq : p.Keeps besideOwnership q) : OwnershipLaw q :=
  h.congr (by rw [hq.port]) (by rw [hq.port]) (by rw [hq.master]) (by rw [hq.master]; exact id)
    (Part.anyBankOpen_of_banks fun w => by rw [hq.window w])

theorem Part.HoldOnly.state (h : p.HoldOnly q) : q.port.state = p.port.state := by rw [h]
theorem Part.HoldOnly.req (h : p.HoldOnly q) : q.port.req = p.port.req := by rw [h]

theorem Part.QueueOnly.banks (h : p.QueueOnly q) (w : Fin 16) : (q.window w).banks = (p.window w).banks := by
  obtain ⟨n, hn⟩ := h.windows w
  rw [hn]

theorem OwnershipLaw.queueOnly (h : OwnershipLaw p) (hq : p.QueueOnly q) (hm : q.master = p.master) :
    OwnershipLaw q :=
  h.congr hq.hold.state hq.hold.req (by rw [hm]) (by rw [hm]; exact id) (Part.anyBankOpen_of_banks hq.banks)

/-- Where the Master neither fetches nor drives nor closes, and no bank is open, the law asks only for REQ. -/
theorem OwnershipLaw.of_quiet (hraises : p.port.state = .requesting ∨ p.port.state = .owner
      ∨ p.port.state = .yielding → p.port.req = true)
    (hmaster : p.master.state = .idle ∨ (p.master.state = .delivering ∧ p.master.operation.isSome = true))
    (hbanks : p.anyBankOpen = false) : OwnershipLaw p := by
  refine ⟨hraises, ?_, ?_, ?_, ?_⟩
  · rcases hmaster with h | ⟨h, hop⟩ <;> simp_all
  · rcases hmaster with h | ⟨h, -⟩ <;> simp [h]
  · rcases hmaster with h | ⟨h, -⟩ <;> simp [h]
  · simp [hbanks]

/-- What a port that neither owns nor releases with REQ raised shows of Master and banks. -/
theorem OwnershipLaw.quiet (h : OwnershipLaw p) (ho : p.port.state ≠ .owner) (hy : p.port.state ≠ .yielding)
    (hr : p.port.state = .releasing → p.port.req = false) :
    (p.master.state = .idle ∨ (p.master.state = .delivering ∧ p.master.operation.isSome = true))
      ∧ p.anyBankOpen = false := by
  constructor
  · cases hm : p.master.state with
    | idle => exact .inl rfl
    | delivering => exact .inr ⟨rfl, h.busy (by simp [hm])⟩
    | fetching => exact absurd (h.burst (.inl hm)) (by simp [ho, hy])
    | driving => exact absurd (h.burst (.inr hm)) (by simp [ho, hy])
    | closing =>
      have := h.closing hm
      simp_all
  · by_contra hopen
    have := h.banks (by simpa using hopen)
    simp_all

/-- A port that does not own may move where no REQ is asked for, or with REQ raised. -/
theorem OwnershipLaw.onPort_away (h : OwnershipLaw p) (ho : p.port.state ≠ .owner)
    (hy : p.port.state ≠ .yielding) (hr : p.port.state = .releasing → p.port.req = false) {f : Port → Port}
    (hraises : (f p.port).state = .requesting ∨ (f p.port).state = .owner ∨ (f p.port).state = .yielding →
      (f p.port).req = true) : OwnershipLaw (p.onPort f) := by
  obtain ⟨hmaster, hbanks⟩ := h.quiet ho hy hr
  exact .of_quiet hraises hmaster hbanks

/-- A port that owns with REQ raised may go RELEASING where the Master drives no burst, and YIELDING. -/
theorem OwnershipLaw.leave (h : OwnershipLaw p) {f : Port → Port} (hreq : p.port.req = true)
    (hkeep : (f p.port).req = p.port.req)
    (hst : (f p.port).state = .yielding ∨ ((f p.port).state = .releasing
      ∧ p.master.state ≠ .fetching ∧ p.master.state ≠ .driving)) : OwnershipLaw (p.onPort f) := by
  refine ⟨fun _ => hkeep.trans hreq, h.busy, fun hm => ?_, fun _ => ?_, fun _ => ?_⟩
  · rcases hst with hs | ⟨-, hf, hd⟩
    · exact .inr hs
    · exact absurd hm (by simp [hf, hd])
  all_goals
    rcases hst with hs | ⟨hs, -, -⟩
    · exact .inr (.inl hs)
    · exact .inr (.inr ⟨hs, hkeep.trans hreq⟩)

/-! ### The port's moves and the reaction -/

theorem OwnershipLaw.movePort (h : OwnershipLaw p) : OwnershipLaw p.movePort := by
  unfold Part.movePort
  split
  · next hs =>
    split
    · exact h.onPort_away (by simp [hs]) (by simp [hs]) (by simp [hs]) fun _ => rfl
    · exact h
  · next hs =>
    split
    · exact h.onPort_away (by simp [hs]) (by simp [hs]) (by simp [hs]) (by simp)
    · exact h
  · next hs =>
    split
    · next hidle => exact h.leave (h.raises (by simp [hs])) rfl (.inr ⟨rfl, by simp [hidle.1]⟩)
    · exact h
  · next hs =>
    split
    · next hidle => exact h.leave (h.raises (by simp [hs])) rfl (.inr ⟨rfl, by simp [hidle]⟩)
    · exact h
  all_goals exact h

theorem OwnershipLaw.onLines (h : OwnershipLaw p) {f : Port → Port}
    (hstate : (f p.port).state = p.port.state) (hreq : (f p.port).req = p.port.req) :
    OwnershipLaw (p.onPort f) := h.congr hstate hreq rfl id id

theorem OwnershipLaw.react (h : OwnershipLaw p) : OwnershipLaw p.react := by
  have hlevel : OwnershipLaw p.movePort.driveLevel := h.movePort.onLines rfl rfl
  exact hlevel.keeps (by simp [Part.react])

/-- A command that leaves port, Master and windows to the reaction. -/
theorem OwnershipLaw.reacts {l : List Region} (h : OwnershipLaw p) (hq : p.Reacts l q)
    (hl : l ⊆ besideOwnership := by simp) : OwnershipLaw q :=
  hq.holds (fun _ hk => h.keeps (hk.mono hl)) fun _ => OwnershipLaw.react

/-! ### Leaving the backplane -/

theorem OwnershipLaw.portDetached (h : OwnershipLaw p) (ho : p.port.state ≠ .owner)
    (hy : p.port.state ≠ .yielding) (hr : p.port.state = .releasing → p.port.req = false) :
    OwnershipLaw p.portDetached :=
  (h.onPort_away ho hy hr (f := fun x => { x.dropRequest with
    state := .detached, joinTimer := 0, mark := .none, tenure := false, chainHold := none })
    (by simp)).keeps (by simp [Part.portDetached])

theorem OwnershipLaw.detach (h : OwnershipLaw p) (ho : p.port.state ≠ .owner)
    (hy : p.port.state ≠ .yielding) (hr : p.port.state = .releasing → p.port.req = false)
    (cause : DetachCause) : OwnershipLaw (p.detach cause) :=
  (h.portDetached ho hy hr).keeps (by simp [Part.detach])

theorem OwnershipLaw.leaveAtLimit (h : OwnershipLaw p)
    (hidle : p.port.state = .owner → p.master.state ≠ .fetching ∧ p.master.state ≠ .driving) :
    OwnershipLaw p.leaveAtLimit := by
  unfold Part.leaveAtLimit
  split
  · next hs => exact h.detach (by simp [hs]) (by simp [hs]) (by simp [hs]) _
  · next hs => exact h.detach (by simp [hs]) (by simp [hs]) (by simp [hs]) _
  · next hs => exact h.leave (h.raises (by simp [hs])) rfl (.inr ⟨rfl, hidle hs⟩)
  iterate 2 exact h.onLines rfl rfl
  all_goals exact h

theorem OwnershipLaw.raiseError (h : OwnershipLaw p)
    (hidle : p.port.state = .owner → p.master.state ≠ .fetching ∧ p.master.state ≠ .driving) :
    OwnershipLaw p.raiseError := by
  have hraised : OwnershipLaw (p.onPort Port.raise) := h.onLines rfl rfl
  simp only [Part.raiseError]
  split
  · exact hraised.leaveAtLimit hidle
  · exact hraised

theorem OwnershipLaw.failPort (h : OwnershipLaw p) : OwnershipLaw p.failPort := by
  unfold Part.failPort
  split
  · next hs => exact h.portDetached (by simp [hs]) (by simp [hs]) (by simp [hs])
  · next hs => exact h.portDetached (by simp [hs]) (by simp [hs]) (by simp [hs])
  · next hs => exact h.portDetached (by simp [hs]) (by simp [hs]) (by simp [hs])
  · next hs =>
    refine h.leave (h.raises (by simp [hs])) rfl ?_
    by_cases hm : p.master.state = .idle
    · exact .inr ⟨by simp [hm], by simp [hm]⟩
    · exact .inl (by simp [hm])
  all_goals exact h.onLines rfl rfl

/-! ### Reports and settlements -/

theorem OwnershipLaw.masterIdle (h : OwnershipLaw p) : OwnershipLaw p.masterIdle :=
  ⟨h.raises, by simp [Part.masterIdle, Master.reset], by simp [Part.masterIdle, Master.reset],
    by simp [Part.masterIdle, Master.reset], h.banks⟩

theorem OwnershipLaw.onWindow (h : OwnershipLaw p) (o : Operation) {f : Part → Fin 16 → Part}
    (hf : ∀ w, OwnershipLaw (f p w)) : OwnershipLaw (p.onOperationWindow o f) := by
  unfold Part.onOperationWindow
  split
  · exact hf _
  · exact h

theorem OwnershipLaw.modBank (h : OwnershipLaw p) (w : Fin 16) (n : Nat) {f : Bank → Bank}
    (hf : ∀ b, (f b).state = .opened → b.state = .opened) : OwnershipLaw (p.modBank w n f) :=
  h.congr rfl rfl rfl id (Part.anyBankOpen_modBank hf)

theorem OwnershipLaw.modWindow (h : OwnershipLaw p) (w : Fin 16) {f : Window → Window}
    (hf : ∀ x : Window, (f x).banks = x.banks) : OwnershipLaw (p.modWindow w f) :=
  h.congr rfl rfl rfl id (Part.anyBankOpen_modWindow fun b hb hs => ⟨b, hf _ ▸ hb, hs⟩)

theorem OwnershipLaw.windowTimeout (h : OwnershipLaw p) (w : Fin 16) : OwnershipLaw (p.windowTimeout w) := by
  have hcounted := h.modWindow w (f := fun x =>
    { x with timeouts := min 15 ((p.window w).timeouts + 1) }) fun _ => rfl
  simp only [Part.windowTimeout]
  split
  · split
    · exact (hcounted.modWindow w (f := fun x => { x with state := .fenced }) fun _ => rfl).keeps (by simp)
    · exact (hcounted.modWindow w (f := fun x => { x with drain := .fenced }) fun _ => rfl).keeps (by simp)
    · exact hcounted
  · exact hcounted

theorem OwnershipLaw.bankFails (h : OwnershipLaw p) (o : Operation) : OwnershipLaw (p.bankFails o) :=
  h.onWindow o fun w => h.modBank w _ fun _ hs => by cases hs

theorem OwnershipLaw.windowAnswered (h : OwnershipLaw p) (w : Fin 16) : OwnershipLaw (p.windowAnswered w) :=
  h.modWindow w fun _ => rfl

/-- The verdict of an operation that is over. -/
theorem OwnershipLaw.verdict (h : OwnershipLaw p) (hm : p.master.state = .idle) (o : Operation)
    (e : OperationEnd) : OwnershipLaw (p.verdict o e) := by
  have hlower : OwnershipLaw p.lowerError := h.onLines rfl rfl
  have hfails := h.bankFails o
  unfold Part.verdict
  split
  · exact hlower.onWindow o hlower.windowAnswered
  · exact h.onWindow o h.windowAnswered
  · exact (hfails.onWindow o hfails.windowAnswered).keeps (by simp)
  · exact (hfails.onWindow o hfails.windowTimeout).keeps (by simp)
  · refine OwnershipLaw.raiseError ((hfails.onWindow o hfails.windowAnswered).keeps (by simp)) fun _ => ?_
    have hmaster : p.Keeps [.windows, .stats] (((p.bankFails o).onOperationWindow o Part.windowAnswered).onStats
        fun t => { t with busErrors := satSucc t.busErrors }) := by simp [Part.keeps_onOperationWindow]
    rw [hmaster.master, hm]
    exact ⟨nofun, nofun⟩
  all_goals exact h

theorem OwnershipLaw.reportBurst (h : OwnershipLaw p) (o : Operation) (k : Fin 8) (e : OperationEnd) (n : Nat)
    (delivered : Bool) : OwnershipLaw (p.reportBurst o k e n delivered) := by
  have hreported : OwnershipLaw (p.reported o e) := (h.masterIdle.verdict rfl o e).keeps (p.reported_keeps o e |>.mono (by simp))
  have hleft : OwnershipLaw (p.pageLeft o k e n delivered) := by
    unfold Part.pageLeft
    split
    · exact hreported
    · rcases Part.markForClose_eq (p.reported o e) o _ _ with hq | ⟨w, -, hq⟩ <;> rw [hq]
      · exact hreported
      · exact hreported.modBank w _ fun b => by split <;> simp_all
  rw [Part.reportBurst_eq]
  split
  · exact hleft.keeps (by simp)
  split
  · exact (hleft.keeps (q := Part.modSlot _ k _) (by simp)).queueOnly ((Part.QueueOnly.refl _).settle _ _ _)
      (Part.Keeps.master (Part.settle_keeps _ _ _ _))
  · exact hleft.keeps (by simp)

theorem OwnershipLaw.endClose (h : OwnershipLaw p) (o : Operation) (e : OperationEnd) :
    OwnershipLaw (p.endClose o e) := by
  simp only [Part.endClose]
  split
  · have hclosed : OwnershipLaw (p.masterIdle.onOperationWindow o fun p w => p.modBank w o.bank fun _ => .closed) :=
      h.masterIdle.onWindow o fun w => h.masterIdle.modBank w _ fun _ hs => by cases hs
    refine hclosed.verdict ?_ o e
    have hkeeps : p.masterIdle.Keeps [.windows]
        (p.masterIdle.onOperationWindow o fun p w => p.modBank w o.bank fun _ => .closed) := by
      simp [Part.keeps_onOperationWindow]
    rw [hkeeps.master]
    rfl
  · exact h.masterIdle.verdict rfl o e

theorem OwnershipLaw.endOperation (h : OwnershipLaw p) (o : Operation) (e : OperationEnd) :
    OwnershipLaw (p.endOperation o e) := by
  unfold Part.endOperation
  split
  · exact h.endClose o e
  · split
    · exact ⟨h.raises, fun _ => rfl, by simp, by simp, h.banks⟩
    · exact h.reportBurst _ _ _ _ _

/-- An operation under way on the backplane goes on under the law, whatever it does to its banks. -/
theorem OwnershipLaw.goesOn (h : OwnershipLaw p) {o : Operation} (hq : p.GoesOn o q)
    (hm : p.master.state = .driving ∨ p.master.state = .closing) : OwnershipLaw q := by
  obtain ⟨keeps, state, ⟨x, hx, -⟩, -⟩ := hq
  have owns : p.port.state = .owner ∨ p.port.state = .yielding
      ∨ (p.port.state = .releasing ∧ p.port.req = true) := by
    rcases hm with hd | hc
    · exact (h.burst (.inr hd)).imp id .inl
    · exact h.closing hc
  refine ⟨?_, fun _ => by rw [hx]; rfl, ?_, fun _ => ?_, fun _ => ?_⟩
  · rw [keeps.port]
    exact h.raises
  · rw [keeps.port, state]
    exact h.burst
  · rw [keeps.port]
    exact owns
  · rw [keeps.port]
    exact owns

theorem OwnershipLaw.takeAnswer (h : OwnershipLaw p) (a : Answer) (ad : BusWord) (good : Bool) :
    OwnershipLaw (p.takeAnswer a ad good) := by
  unfold Part.takeAnswer
  split
  · next o ph hwaits =>
    split
    · exact h
    · obtain ⟨ho, -, hm⟩ := Part.waitingPhase_eq_some hwaits
      rcases Part.answered_cases ho ph a ad good with goes | ⟨q, o', e, he, goes, -, -⟩
      · exact (h.goesOn goes hm).react
      · rw [he]
        exact ((h.goesOn goes hm).endOperation _ _).react
  · exact h

theorem OwnershipLaw.expireResponse (h : OwnershipLaw p) : OwnershipLaw p.expireResponse := by
  unfold Part.expireResponse
  split
  · exact ((h.keeps (q := p.driveAbort) (by simp)).endOperation _ _).react
  · exact h

theorem OwnershipLaw.delivered (h : OwnershipLaw p) (done : Bool) : OwnershipLaw (p.delivered done) := by
  have hclosed : OwnershipLaw (p.forWrite .master done).closeAccess := h.keeps (by simp)
  simp only [Part.delivered]
  (repeat' split)
  · exact (hclosed.reportBurst _ _ _ _ _).react
  iterate 2 exact hclosed
  · exact h.keeps (by simp)

theorem OwnershipLaw.dataReadFails (h : OwnershipLaw p) : OwnershipLaw p.dataReadFails := by
  unfold Part.dataReadFails
  (repeat' split)
  · exact h.reportBurst _ _ _ _ _
  all_goals exact h

/-- A burst that starts to drive presents its first phase, with its response limit. -/
theorem Part.startDriving_master (p : Part) (o : Operation) : (p.startDriving o).master =
    { p.master with
      state := .driving
      operation := some
        { o with limit := p.burstLimit o, phase := some (p.openingPhase o), elapsed := 0 } } := by
  have hcount := (Part.countPage_keeps ((p.onMaster fun m =>
    { m with state := .driving, operation := some { o with limit := p.burstLimit o } }).clearDeferred)
    { o with limit := p.burstLimit o }).master
  simp [Part.startDriving, Part.present, Part.modOperation, hcount]

/-- A burst drives its first phase where the port is OWNER or YIELDING. -/
theorem OwnershipLaw.startDriving (h : OwnershipLaw p)
    (hs : p.port.state = .owner ∨ p.port.state = .yielding) (o : Operation) : OwnershipLaw (p.startDriving o) := by
  have hkeeps : p.Keeps [.sched, .master, .stats, .out] (p.startDriving o) := by simp
  have hmaster := p.startDriving_master o
  refine ⟨?_, fun _ => by rw [hmaster]; rfl, fun _ => ?_, by simp [hmaster], ?_⟩
  · rw [hkeeps.port]; exact h.raises
  · rw [hkeeps.port]; exact hs
  · rw [hkeeps.port]
    exact fun hb => h.banks (Part.anyBankOpen_of_banks (fun w => by rw [hkeeps.window w]) hb)

theorem OwnershipLaw.dataArrives (h : OwnershipLaw p) (data : BurstData) : OwnershipLaw (p.dataArrives data) := by
  unfold Part.dataArrives
  split
  · next o hf _ =>
    have hstaged : OwnershipLaw (p.onMaster fun m => { m with staging := data.toList.take o.bytes }) :=
      h.congr rfl rfl rfl id id
    exact hstaged.startDriving (h.burst (.inl hf)) o
  · exact h

theorem OwnershipLaw.dataRead (h : OwnershipLaw p) (result : Option BurstData) :
    OwnershipLaw (p.dataRead result) := by
  have hclosed : OwnershipLaw (p.forRead .master result.isSome).closeAccess := h.keeps (by simp)
  simp only [Part.dataRead]
  (repeat' split)
  · exact hclosed.react
  · exact (hclosed.dataArrives _).react
  · exact hclosed.dataReadFails.react
  · exact h.keeps (by simp)

theorem OwnershipLaw.settleOnly (h : OwnershipLaw p) : OwnershipLaw p.settleOnly := by
  unfold Part.settleOnly
  (repeat' split)
  · exact (h.queueOnly ((Part.QueueOnly.refl p).settle _ _ _) (Part.settle_keeps _ _ _ _).master).react
  all_goals exact h

theorem OwnershipLaw.handBurst (h : OwnershipLaw p) (hs : p.port.state = .owner) (k : Fin 8) :
    OwnershipLaw (p.handBurst k) := by
  have hslot : OwnershipLaw (p.modSlot k fun s => { s with state := .inBurst }) := h.keeps (by simp)
  simp only [Part.handBurst]
  split
  · have hfetches : OwnershipLaw ((p.modSlot k fun s => { s with state := .inBurst }).onMaster fun _ =>
        { state := .fetching, operation := some (p.burstOperation k), staging := [] }) :=
      ⟨h.raises, fun _ => rfl, fun _ => .inl hs, by simp, hslot.banks⟩
    exact hfetches.keeps (by simp)
  · have hclear : OwnershipLaw ((p.modSlot k fun s => { s with state := .inBurst }).onMaster fun m =>
        { m with staging := [] }) := hslot.congr rfl rfl rfl id id
    exact hclear.startDriving (.inl hs) _

theorem Part.selectable_iff : p.selectable = true ↔ p.engine.state = .running ∧ p.port.state = .owner
    ∧ p.master.state = .idle ∧ p.busSet ≠ [] := by
  simp [Part.selectable, and_assoc]

theorem OwnershipLaw.select (h : OwnershipLaw p) : OwnershipLaw p.select := by
  simp only [Part.select]
  split
  · next hsel =>
    obtain ⟨-, hs, -, -⟩ := Part.selectable_iff.1 hsel
    split
    · next k passed _ =>
      refine OwnershipLaw.react ?_
      cases passed with
      | some o =>
        have hpassed : OwnershipLaw (p.modSlot o fun s => { s with passes := s.passes + 1 }) :=
          h.keeps (by simp)
        exact hpassed.handBurst hs k
      | none => exact h.handBurst hs k
    · exact h
  · exact h

/-- A close operation is taken by an IDLE Master, in OWNER or RELEASING, for an OPEN bank (R88, R90). -/
theorem Part.closeTarget_some {w : Fin 16} {n : Nat} (h : p.closeTarget = some (w, n)) :
    p.master.state = .idle ∧ (p.port.state = .owner ∨ p.port.state = .releasing)
      ∧ ∃ b, p.bank? w n = some b ∧ b.state = .opened := by
  unfold Part.closeTarget at h
  split at h
  · next hm =>
    refine ⟨hm, ?_⟩
    split at h
    · next hs =>
      have hfound := List.find?_some h
      cases hb : p.bank? w n <;> simp_all
    · next hs =>
      have hfound := List.find?_some h
      cases hb : p.bank? w n <;> simp_all
    · cases h
  · cases h

theorem OwnershipLaw.startClose (h : OwnershipLaw p) : OwnershipLaw p.startClose := by
  unfold Part.startClose
  split
  · next w n htarget =>
    obtain ⟨-, hs, b, hb, hopen⟩ := Part.closeTarget_some htarget
    have hany : p.anyBankOpen = true :=
      Part.anyBankOpen_iff.2 ⟨w, b, List.mem_of_getElem? hb, hopen⟩
    have hmarked := h.modBank w n (f := fun x => { x with closeRequest := false }) fun _ => id
    have hclosing : OwnershipLaw ((p.modBank w n fun x => { x with closeRequest := false }).onMaster fun _ =>
        { state := .closing, operation := some (p.closeRecord w n), staging := [] }) :=
      ⟨h.raises, fun _ => rfl, by simp, fun _ => h.banks hany, hmarked.banks⟩
    exact (hclosing.goesOn (o := p.closeRecord w n) ((Part.GoesOn.refl rfl).present .closePage) (.inr rfl)).react
  · exact h

/-! ### The entry into FAILED (R174, R111) -/

theorem OwnershipLaw.abandonFetch (h : OwnershipLaw p) : OwnershipLaw p.abandonFetch := by
  simp only [Part.abandonFetch]
  split
  · refine OwnershipLaw.masterIdle (OwnershipLaw.keeps (p := p) h ?_)
    (repeat' split) <;> simp
  · exact h

theorem OwnershipLaw.enterFailed (h : OwnershipLaw p) (c : FatalCause) (id : Nat) :
    OwnershipLaw (p.enterFailed c id) := by
  simp only [Part.enterFailed]
  split
  · refine OwnershipLaw.failPort ?_
    have habandoned := OwnershipLaw.abandonFetch (h.keeps (q := (p.onEngine fun e =>
      { e with state := .failed, cause := c, ringId := id }).dropRequests) (by simp))
    unfold Part.dropDelivery
    (repeat' split)
    · exact habandoned.reportBurst _ _ _ _ _
    all_goals exact habandoned
  · exact h

theorem OwnershipLaw.submissionReadFails (h : OwnershipLaw p) : OwnershipLaw p.submissionReadFails := by
  unfold Part.submissionReadFails
  split
  · exact h.enterFailed _ _
  · exact h

theorem OwnershipLaw.readTimesOut (h : OwnershipLaw p) : OwnershipLaw p.readTimesOut := by
  have hclosed : OwnershipLaw p.closeAccess := h.keeps (by simp)
  unfold Part.readTimesOut
  split
  · exact hclosed.submissionReadFails.react
  split
  · exact (hclosed.enterFailed _ _).react
  split
  · split
    · exact hclosed.react
    · exact hclosed.dataReadFails.react
  · exact h

theorem OwnershipLaw.submissionRead (h : OwnershipLaw p) (result : Option Block) :
    OwnershipLaw (p.submissionRead result) := by
  have hclosed : OwnershipLaw (p.forRead .ringFetch result.isSome).closeAccess := h.keeps (by simp)
  simp only [Part.submissionRead]
  (repeat' split)
  · exact (hclosed.queueOnly ((Part.QueueOnly.refl _).discardFlight _) (Part.discardFlight_keeps _ _).master).react
  · exact (hclosed.queueOnly ((Part.QueueOnly.refl _).takeRecord _ _) (Part.takeRecord_keeps _ _ _).master).react
  · exact hclosed.submissionReadFails.react
  iterate 2 exact hclosed
  · exact h.keeps (by simp)

theorem OwnershipLaw.noticeWritten (h : OwnershipLaw p) (done : Bool) : OwnershipLaw (p.noticeWritten done) := by
  have hclosed : OwnershipLaw (p.forWrite .notices done).closeAccess := h.keeps (by simp)
  simp only [Part.noticeWritten]
  (repeat' split)
  iterate 2 exact OwnershipLaw.react (hclosed.keeps (by simp))
  · exact (hclosed.enterFailed _ _).react
  · exact hclosed
  · exact h.keeps (by simp)

theorem OwnershipLaw.completionWritten (h : OwnershipLaw p) (done : Bool) :
    OwnershipLaw (p.completionWritten done) := by
  have hclosed : OwnershipLaw (p.forWrite .posting done).closeAccess := h.keeps (by simp)
  simp only [Part.completionWritten]
  (repeat' split)
  · exact OwnershipLaw.react (hclosed.keeps (by simp))
  · exact (hclosed.enterFailed _ _).react
  · exact hclosed
  · exact h.keeps (by simp)

theorem OwnershipLaw.adminWritten (h : OwnershipLaw p) (done : Bool) : OwnershipLaw (p.adminWritten done) := by
  have hclosed : OwnershipLaw (p.forWrite .adminPosting done).closeAccess := h.keeps (by simp)
  simp only [Part.adminWritten]
  (repeat' split)
  iterate 2 exact OwnershipLaw.react (hclosed.keeps (by simp))
  · exact (hclosed.enterFailed _ _).react
  · exact h.keeps (by simp)

/-! ### The backplane's lines -/

/-- Without its fetch the Master is idle, or as it was. -/
theorem Part.abandonFetch_master (p : Part) : p.abandonFetch.master =
    if p.master.state = .fetching then .reset else p.master := by
  simp only [Part.abandonFetch]
  split
  · rfl
  · rfl

theorem OwnershipLaw.takeWithdraw (h : OwnershipLaw p) (hs : p.port.state = .owner) :
    OwnershipLaw p.takeWithdraw := by
  have hreq : p.port.req = true := h.raises (by simp [hs])
  unfold Part.takeWithdraw
  split
  · next hm => exact h.leave hreq rfl (.inr ⟨rfl, by simp [hm]⟩)
  · next hm =>
    have hport : p.abandonFetch.port = p.port := (Part.abandonFetch_keeps p).port
    exact h.abandonFetch.leave (by rw [hport]; exact hreq) rfl
      (.inr ⟨rfl, by simp [Part.abandonFetch_master, hm, Master.reset]⟩)
  all_goals exact h.leave hreq rfl (.inl rfl)

theorem OwnershipLaw.takeGrant (h : OwnershipLaw p) (hs : p.port.state = .requesting) :
    OwnershipLaw p.takeGrant :=
  (h.onPort_away (by simp [hs]) (by simp [hs]) (by simp [hs])
    (f := fun x => { x with state := .owner, tenure := true })
    fun _ => h.raises (by simp [hs])).keeps (by simp [Part.takeGrant])

theorem OwnershipLaw.grantRises (h : OwnershipLaw p) : OwnershipLaw p.grantRises := by
  have hline : OwnershipLaw (p.onPort fun x => { x with gnt := true }) := h.onLines rfl rfl
  simp only [Part.grantRises]
  split
  · exact h
  split
  · next hs =>
    split
    · exact ((hline.takeGrant hs).takeWithdraw rfl).react
    · exact (hline.takeGrant hs).react
  · next hs =>
    obtain ⟨hmaster, hbanks⟩ := hline.quiet (by rw [hs]; nofun) (by rw [hs]; nofun) (by rw [hs]; nofun)
    refine OwnershipLaw.react (.of_quiet (by simp) hmaster ?_)
    simpa [Part.anyBankOpen, Part.takeGrant] using hbanks
  all_goals exact hline

/-! ### An operation cut by the loss of the backplane (R66, R91) -/

theorem Part.verdict_master (p : Part) (o : Operation) (e : OperationEnd) : (p.verdict o e).master = p.master :=
  (p.verdict_keeps o e).master

theorem Part.pageLeft_master (p : Part) (o : Operation) (k : Fin 8) (e : OperationEnd) (n : Nat)
    (delivered : Bool) : (p.pageLeft o k e n delivered).master = .reset := by
  rw [(p.pageLeft_keeps o k e n delivered).master, (p.reported_keeps o e).master, Part.verdict_master]
  rfl

/-- A report leaves the Master IDLE. -/
theorem Part.reportBurst_master (p : Part) (o : Operation) (k : Fin 8) (e : OperationEnd) (n : Nat)
    (delivered : Bool) : (p.reportBurst o k e n delivered).master = .reset := by
  rw [Part.reportBurst_eq]
  split
  · exact p.pageLeft_master o k e n delivered
  split
  · rw [(Part.settle_keeps _ _ _ _).master]
    exact p.pageLeft_master o k e n delivered
  · exact p.pageLeft_master o k e n delivered

theorem Part.pageLeft_anyBankOpen {o : Operation} {k : Fin 8} {e : OperationEnd} {n : Nat} {delivered : Bool}
    (h : (p.pageLeft o k e n delivered).anyBankOpen = true) : (p.reported o e).anyBankOpen = true := by
  unfold Part.pageLeft at h
  split at h
  · exact h
  · rcases Part.markForClose_eq (p.reported o e) o _ _ with hq | ⟨w, -, hq⟩ <;> rw [hq] at h
    · exact h
    · exact Part.anyBankOpen_modBank (fun b => by split <;> simp_all) h

theorem Part.reportBurst_anyBankOpen {o : Operation} {k : Fin 8} {e : OperationEnd} {n : Nat} {delivered : Bool}
    (h : (p.reportBurst o k e n delivered).anyBankOpen = true) : (p.reported o e).anyBankOpen = true := by
  rw [Part.reportBurst_eq] at h
  split at h
  · exact Part.pageLeft_anyBankOpen h
  split at h
  · refine Part.pageLeft_anyBankOpen (n := n) (delivered := delivered) (k := k)
      (Part.anyBankOpen_of_banks (fun w => ?_) h)
    exact ((Part.QueueOnly.refl _).settle _ _ _).banks w
  · exact Part.pageLeft_anyBankOpen h

/-- What a cut by the loss of the backplane leaves of Master and banks. -/
theorem Part.cutOperation_quiet {e : OperationEnd} (he : e = .grantLost ∨ e = .linkLost)
    (hbusy : p.master.state ≠ .idle → p.master.operation.isSome = true) (hf : p.master.state ≠ .fetching)
    (hbanks : p.anyBankOpen = false) :
    ((p.cutOperation e).master.state = .idle ∨ ((p.cutOperation e).master.state = .delivering
        ∧ (p.cutOperation e).master.operation.isSome = true))
      ∧ (p.cutOperation e).anyBankOpen = false := by
  have still : p.master.state ≠ .driving ∧ p.master.state ≠ .closing →
      (p.master.state = .idle ∨ (p.master.state = .delivering ∧ p.master.operation.isSome = true)) := by
    rintro ⟨hd, hc⟩
    cases hm : p.master.state <;> simp_all
  unfold Part.cutOperation
  split
  · next o ho =>
    split
    · unfold Part.endOperation
      split
      · have hend : p.endClose o e = p.masterIdle := by rcases he with rfl | rfl <;> rfl
        rw [hend]
        exact ⟨.inl rfl, hbanks⟩
      · split
        · exact ⟨.inr ⟨rfl, rfl⟩, hbanks⟩
        · refine ⟨.inl (by rw [Part.reportBurst_master]; rfl), ?_⟩
          by_contra hopen
          have hreported := Part.reportBurst_anyBankOpen (by simpa using hopen)
          rw [Part.reported, Part.verdict_cut _ _ he] at hreported
          exact absurd hbanks (by simpa using Part.anyBankOpen_of_banks (p := p) (fun _ => rfl) hreported)
    · next hno => exact ⟨still (not_or.1 hno), hbanks⟩
  · next ho =>
    refine ⟨.inl ?_, hbanks⟩
    by_contra hne
    simp [ho] at hbusy
    exact hne hbusy

/-- The tenure cut short: the flags cleared, the banks lost, a fetch abandoned and an operation ended. -/
theorem OwnershipLaw.cut (h : OwnershipLaw p) {e : OperationEnd} (he : e = .grantLost ∨ e = .linkLost) :
    ((p.endTenureFlags.loseBanks.abandonFetch.cutOperation e).master.state = .idle
        ∨ ((p.endTenureFlags.loseBanks.abandonFetch.cutOperation e).master.state = .delivering
          ∧ (p.endTenureFlags.loseBanks.abandonFetch.cutOperation e).master.operation.isSome = true))
      ∧ (p.endTenureFlags.loseBanks.abandonFetch.cutOperation e).anyBankOpen = false := by
  have hmaster : p.endTenureFlags.loseBanks.abandonFetch.master =
      if p.master.state = .fetching then .reset else p.master := Part.abandonFetch_master _
  refine Part.cutOperation_quiet he ?_ ?_ ?_
  · rw [hmaster]
    split
    · simp [Master.reset]
    · exact h.busy
  · rw [hmaster]
    split
    · simp [Master.reset]
    · assumption
  · by_contra hopen
    have hlost := Part.anyBankOpen_of_banks (p := p.endTenureFlags.loseBanks)
      (fun w => by rw [(Part.abandonFetch_keeps _).window w]) (by simpa using hopen)
    rw [Part.loseBanks_none_open] at hlost
    cases hlost

/-- DETACH leaves of the port what it leaves without telling anyone. -/
theorem Part.detach_port (p : Part) (cause : DetachCause) : (p.detach cause).port = p.portDetached.port := by
  have hkeeps : p.portDetached.Keeps [.admin, .notices, .compl, .stats] (p.detach cause) := by
    simp [Part.detach]
  exact hkeeps.port

theorem Part.afterTenure_state (p : Part) :
    p.afterTenure.port.state = .detached ∨ p.afterTenure.port.state = .idle := by
  unfold Part.afterTenure
  split
  · exact .inl rfl
  split
  · exact .inl (by rw [Part.detach_port]; rfl)
  · exact .inr rfl

/-- Where Master and banks are quiet, a part whose port is away meets the law. -/
theorem OwnershipLaw.of_away
    (hmaster : p.master.state = .idle ∨ (p.master.state = .delivering ∧ p.master.operation.isSome = true))
    (hbanks : p.anyBankOpen = false) (hq : p.Keeps [.admin, .port, .notices, .compl, .stats] q)
    (hs : q.port.state = .detached ∨ q.port.state = .idle) : OwnershipLaw q := by
  refine .of_quiet (by rcases hs with hs | hs <;> simp [hs]) (by rwa [hq.master]) ?_
  rwa [Part.anyBankOpen, hq.windows]

theorem OwnershipLaw.afterTenure
    (hmaster : p.master.state = .idle ∨ (p.master.state = .delivering ∧ p.master.operation.isSome = true))
    (hbanks : p.anyBankOpen = false) : OwnershipLaw p.afterTenure :=
  .of_away hmaster hbanks p.afterTenure_keeps p.afterTenure_state

theorem OwnershipLaw.loseGrant (h : OwnershipLaw p) : OwnershipLaw p.loseGrant := by
  obtain ⟨hmaster, hbanks⟩ := h.cut (.inl rfl)
  simp only [Part.loseGrant]
  split <;> exact .afterTenure hmaster hbanks

theorem OwnershipLaw.grantDrops (h : OwnershipLaw p) : OwnershipLaw p.grantDrops := by
  have hline : OwnershipLaw (p.onPort fun x => { x with gnt := false }) := h.onLines rfl rfl
  simp only [Part.grantDrops]
  split
  · refine OwnershipLaw.react ?_
    split
    · split
      · next hends =>
        obtain ⟨hs, hreq⟩ := hends
        obtain ⟨hmaster, hbanks⟩ := hline.quiet (by rw [hs]; nofun) (by rw [hs]; nofun) fun _ => hreq
        exact .afterTenure hmaster hbanks
      · exact hline.loseGrant
    · exact hline
  · exact h

theorem OwnershipLaw.loseLink (h : OwnershipLaw p) (cause : DetachCause) : OwnershipLaw (p.loseLink cause) := by
  unfold Part.loseLink
  split
  · exact h
  · obtain ⟨hmaster, hbanks⟩ := h.cut (.inr rfl)
    exact OwnershipLaw.react (.of_away hmaster hbanks (Part.detach_keeps _ cause)
      (.inl (by rw [Part.detach_port]; rfl)))

theorem OwnershipLaw.withdraw (h : OwnershipLaw p) : OwnershipLaw p.withdraw := by
  have hline : OwnershipLaw (p.onPort fun x => { x with wdr := true }) := h.onLines rfl rfl
  simp only [Part.withdraw]
  split
  · exact (hline.takeWithdraw ‹_›).react
  · exact hline

theorem OwnershipLaw.completeRelease (h : OwnershipLaw p) : OwnershipLaw p.completeRelease := by
  unfold Part.completeRelease
  split
  · next hreleases =>
    obtain ⟨hs, hm, hbanks⟩ := hreleases
    exact .of_quiet (by simp [Port.dropRequest, hs]) (.inl hm) hbanks
  · exact h

theorem OwnershipLaw.seePhase (h : OwnershipLaw p) (code : PhaseCode) : OwnershipLaw (p.seePhase code) := by
  have hjoin : OwnershipLaw (if p.port.state = .joining then
      p.onPort fun x => { x with joinTimer := joinInterval } else p) := by
    split
    · exact h.onLines rfl rfl
    · exact h
  simp only [Part.seePhase]
  split
  · exact hjoin
  · exact hjoin.keeps (by simp)

theorem OwnershipLaw.finishJoin (h : OwnershipLaw p) : OwnershipLaw p.finishJoin := by
  unfold Part.finishJoin
  split
  · next hs =>
    have hidle := h.onPort_away (by simp [hs]) (by simp [hs]) (by simp [hs])
      (f := fun x => { x with state := .idle, joinTimer := 0 }) (by simp)
    exact OwnershipLaw.react (hidle.keeps (by simp))
  · exact h

theorem OwnershipLaw.noticePhase (h : OwnershipLaw p) (ad : BusWord) (beats : Nat) (good : Bool) :
    OwnershipLaw (p.noticePhase ad beats good) := by
  simp only [Part.noticePhase]
  split
  · exact (h.seePhase .notice).keeps (by simp)
  · exact h.seePhase .notice

theorem OwnershipLaw.noticeBeatTaken (h : OwnershipLaw p) (ad : BusWord) (good : Bool) :
    OwnershipLaw (p.noticeBeatTaken ad good) := by
  have hseen := h.seePhase .data
  simp only [Part.noticeBeatTaken]
  (repeat' split)
  · exact hseen.keeps (by simp)
  all_goals exact hseen

theorem OwnershipLaw.checkTaken (h : OwnershipLaw p) (ad : BusWord) (good : Bool) :
    OwnershipLaw (p.checkTaken ad good) := by
  have hseen := h.seePhase .data
  simp only [Part.checkTaken]
  split
  · split
    · next b _ hcheck =>
      refine OwnershipLaw.react ?_
      split
      · exact hseen.keeps (by simp)
      · have hanswered : OwnershipLaw (((p.seePhase .data).emit (.answer .fault)).modEntry b fun _ => .empty) :=
          hseen.keeps (by simp)
        refine hanswered.raiseError fun ho => ?_
        have hanswers := hcheck.2
        rw [show (p.seePhase .data).port.state = .owner from ho] at hanswers
        cases hanswers
    · exact hseen
  · exact hseen

/-! ### Every command -/

theorem OwnershipLaw.enable (h : OwnershipLaw p) : OwnershipLaw p.enable := by
  unfold Part.enable
  split
  · split
    · exact OwnershipLaw.react (h.keeps (by simp [Part.enableFromOff]))
    · exact h.keeps (by simp)
  · exact (OwnershipLaw.queueOnly (h.keeps (by simp)) (Part.QueueOnly.refl _).place
      (Part.place_keeps _).master).react
  all_goals exact h

theorem OwnershipLaw.reachQuiesced (h : OwnershipLaw p) : OwnershipLaw p.reachQuiesced := by
  unfold Part.reachQuiesced
  split
  · exact h.keeps (by simp)
  · exact h

theorem OwnershipLaw.quiesce (h : OwnershipLaw p) : OwnershipLaw p.quiesce := by
  unfold Part.quiesce
  split
  · have hquiescing : OwnershipLaw (p.onEngine fun e => { e with state := .quiescing }).endHold :=
      h.congr rfl rfl rfl id id
    exact hquiescing.react.reachQuiesced
  all_goals exact h

/-- A part without operation, bank or tenure. -/
theorem ownershipLaw_of_reset (hport : p.port.state = .detached) (hmaster : p.master = .reset)
    (hwindows : p.windows = Part.reset.windows) : OwnershipLaw p := by
  refine .of_quiet (by simp [hport]) (.inl (by rw [hmaster]; rfl)) ?_
  rw [Part.anyBankOpen, hwindows]
  decide

theorem OwnershipLaw.arrive (h : OwnershipLaw p) (rec : Block) {f : Part → Part}
    (hf : ∀ q, OwnershipLaw q → OwnershipLaw (f q)) : OwnershipLaw (p.arrive rec f) := by
  have hclosed : OwnershipLaw p.closeAccess := h.keeps (by simp)
  simp only [Part.arrive]
  split
  · split
    · exact (hf _ (hclosed.keeps (by simp))).react
    · exact hclosed
  · exact h

theorem OwnershipLaw.arrive_checked (h : OwnershipLaw p) (rec : Block) {checks : Part → List (Bool × Status)}
    {f : Part → Part} (hf : ∀ q, OwnershipLaw q → (∀ c ∈ checks q, c.1 = true) → OwnershipLaw (f q)) :
    OwnershipLaw (p.arrive rec fun p => p.checked (checks p) f) :=
  h.arrive rec fun q hq => by
    rcases q.checked_cases (checks q) f with ⟨he, hpass⟩ | ⟨st, he⟩ <;> rw [he]
    · exact hf q hq hpass
    · exact hq.keeps (by simp)

theorem OwnershipLaw.detachCommand (h : OwnershipLaw p) : OwnershipLaw p.detachCommand := by
  have hheld : OwnershipLaw (p.endHold.waitFor .detach) := h.congr rfl rfl rfl id id
  simp only [Part.detachCommand]
  split
  · next hs => exact hheld.detach (by rw [hs]; nofun) (by rw [hs]; nofun) (by rw [hs]; nofun) _
  · next hs => exact hheld.detach (by rw [hs]; nofun) (by rw [hs]; nofun) (by rw [hs]; nofun) _
  · next hs => exact hheld.detach (by rw [hs]; nofun) (by rw [hs]; nofun) (by rw [hs]; nofun) _
  · next hs =>
    refine hheld.leave (hheld.raises (.inr (.inl hs))) rfl ?_
    by_cases hm : (p.endHold.waitFor .detach).master.state = .idle
    · exact .inr ⟨if_pos hm, by rw [hm]; exact ⟨nofun, nofun⟩⟩
    · exact .inl (if_neg hm)
  iterate 2 exact hheld.onLines rfl rfl
  · exact hheld

theorem OwnershipLaw.setWindow (h : OwnershipLaw p) (rec : Block) :
    OwnershipLaw (p.modWindow (cmdWindow rec) fun _ => windowOf rec) := by
  refine h.congr rfl rfl rfl id (Part.anyBankOpen_modWindow fun b hb hs => ?_)
  simp only [windowOf] at hb
  split at hb
  · rw [List.eq_of_mem_replicate hb] at hs
    cases hs
  · exact absurd hb List.not_mem_nil

theorem OwnershipLaw.endDraining (h : OwnershipLaw p) (w : Fin 16) : OwnershipLaw (p.endDraining w) := by
  have hunused : OwnershipLaw (p.modWindow w fun _ => .unused) :=
    h.congr rfl rfl rfl id (Part.anyBankOpen_modWindow fun b hb => absurd hb List.not_mem_nil)
  simp only [Part.endDraining]
  split
  · exact hunused.keeps (by simp)
  · exact hunused

theorem OwnershipLaw.clearWindow (h : OwnershipLaw p) (rec : Block) : OwnershipLaw (p.clearWindow rec) := by
  have hdrains : OwnershipLaw (Part.waitFor (p.modWindow (cmdWindow rec) fun x =>
      { x with state := .draining, drain := if x.state = .fenced then .fenced else .run })
      (.clearWindow (cmdWindow rec))) := OwnershipLaw.keeps (h.modWindow (cmdWindow rec) (f := fun x =>
        { x with state := .draining, drain := if x.state = .fenced then .fenced else .run })
        fun _ => rfl) (by simp)
  simp only [Part.clearWindow]
  split
  · exact hdrains.endDraining _
  · exact hdrains

theorem OwnershipLaw.finishDraining (h : OwnershipLaw p) : OwnershipLaw p.finishDraining := by
  unfold Part.finishDraining
  split
  · exact (h.endDraining _).react
  · exact h

/-- The effect of a command other than a register write. -/
theorem OwnershipLaw.effect (h : OwnershipLaw p) (c : Instr) (hc : ∀ o n v, c ≠ .registerWrite o n v) :
    OwnershipLaw (effect c p) := by
  cases c with
  | registerWrite o n v => exact absurd rfl (hc o n v)
  | powerOnReset => exact ownershipLaw_of_reset rfl rfl rfl
  | functionLevelReset | reset => exact ownershipLaw_of_reset rfl rfl rfl
  | enable => exact h.enable
  | quiesce => exact h.quiesce
  | quiescedReached => exact h.reachQuiesced
  | submit ring index arm => exact h.reacts (p.reacts_submit _ _)
  | complete ring index arm => exact h.reacts (p.reacts_complete _ _ _)
  | notice ring index arm => exact h.reacts (p.reacts_notice _ _)
  | adminSubmit ring index arm => exact h.reacts (p.reacts_adminSubmit _)
  | adminComplete ring index arm => exact h.reacts (p.reacts_adminComplete _ _)
  | hostReadTimeout => exact h.readTimesOut
  | submissionReadDone result => exact h.submissionRead result
  | selection => exact h.select
  | settleOnlySettlement => exact h.settleOnly
  | writeDataReadDone result => exact h.dataRead result
  | targetAnswer a ad good => exact h.takeAnswer a ad good
  | responseLimitExpiry => exact h.expireResponse
  | readDataWriteDone done => exact h.delivered done
  | openTimerExpiry w b =>
    exact h.modBank w b.val fun x => by unfold Bank.expire; split <;> simp_all
  | closeOperation => exact h.startClose
  | releaseComplete => exact h.completeRelease
  | gntRise => exact h.grantRises
  | gntDrop => exact h.grantDrops
  | withdraw => exact h.withdraw
  | linkLoss =>
    simp only [Machine.effect]
    split
    · exact (h.onLines rfl rfl).loseLink _
    · exact h
  | backplaneReset =>
    simp only [Machine.effect]
    split
    · exact h
    · have hline : OwnershipLaw (p.onPort fun x => { x with rst := true }) := h.onLines rfl rfl
      exact OwnershipLaw.loseLink (hline.keeps (by simp)) _
  | phaseActivity code => exact h.seePhase code
  | joinTimerExpiry => exact h.finishJoin
  | noticeEntryWriteDone done => exact h.noticeWritten done
  | completionEntryWriteDone done => exact h.completionWritten done
  | adminCompletionWriteDone done => exact h.adminWritten done
  | inboundNoticePhase ad beats good => exact h.noticePhase ad beats good
  | inboundNoticeBeat ad good => exact h.noticeBeatTaken ad good
  | inboundCheckWord ad good => exact h.checkTaken ad good
  | adminCommandReadFailed =>
    have hread : OwnershipLaw (p.forRead .administration false) := h.keeps (by simp)
    simp only [Machine.effect]
    split
    · exact (OwnershipLaw.enterFailed (hread.keeps (by simp)) _ _).react
    · exact hread
  | unknownCommand rec =>
    exact h.arrive rec (f := (Part.endCommand · .unknownCommand 0#32)) fun q hq => hq.keeps (by simp)
  | deleteSring rec =>
    simp only [Machine.effect]
    exact h.arrive_checked rec fun q hq _ =>
      hq.queueOnly ((Part.QueueOnly.refl q).deleteSring rec) (q.deleteSring_keeps rec).master
  | haltSring rec =>
    simp only [Machine.effect]
    exact h.arrive_checked rec fun q hq _ =>
      hq.queueOnly ((Part.QueueOnly.refl q).haltSring rec) (q.haltSring_keeps rec).master
  | attach rec =>
    simp only [Machine.effect]
    refine h.arrive_checked rec fun q hq hpass => ?_
    have hs : q.port.state = .detached := by
      simpa using hpass (q.port.state == .detached, .wrongState) (by simp [Part.attachChecks])
    exact (hq.onPort_away (by simp [hs]) (by simp [hs]) (by simp [hs]) (f := fun x =>
      { x with state := .joining, errorCount := 0, mark := .none, joinTimer := joinInterval })
      (by simp)).keeps (by simp)
  | detach rec =>
    simp only [Machine.effect]
    exact h.arrive_checked rec fun q hq _ => hq.detachCommand
  | setWindow rec =>
    simp only [Machine.effect]
    exact h.arrive_checked rec fun q hq _ => (hq.setWindow rec).keeps (by simp)
  | clearWindow rec =>
    simp only [Machine.effect]
    exact h.arrive_checked rec fun q hq _ => hq.clearWindow rec
  | reopenWindow rec =>
    simp only [Machine.effect]
    exact h.arrive_checked rec fun q hq _ => (hq.modWindow (cmdWindow rec) (f := fun x =>
      { x with state := .opened, timeouts := 0 }) fun _ => rfl).keeps (by simp)
  | createCring rec | deleteCring rec | createSring rec | resumeSring rec | flushSring rec
  | setNode rec | setNoticeRing rec | setFilter rec | query rec =>
    simp only [Machine.effect]
    exact h.arrive_checked rec fun q hq _ => hq.keeps (by simp)
  | ringChoice => exact h.reacts p.reacts_choose
  | postingHandover => exact h.reacts p.reacts_handNext
  | sringDeletionEnd => exact h.reacts p.reacts_finishDeletion
  | flushWalk => exact h.reacts p.reacts_flushWalk
  | endOfDraining => exact h.finishDraining
  | queryReportWriteDone done => exact h.reacts (p.reacts_reportWritten _)
  | stateWrite | notifyInvalidKind | hostAccessIssue | noticeReceiveTimeout | vectorUnmask
  | vectorMasked => exact h.keeps (by simp [Machine.effect])
  | clockReturn | rstReleased | wdrDeasserted =>
    simp only [Machine.effect]
    exact h.onLines rfl rfl

theorem keptByClocks_ownershipLaw : KeptByClocks OwnershipLaw where
  join _ h _ _ := h.onLines rfl rfl
  banks p h := h.congr rfl rfl rfl id (Part.anyBankOpen_of fun w b hb hs => by
    rw [p.tickBanks_window] at hb
    obtain ⟨x, hx, rfl⟩ := List.mem_map.1 hb
    refine ⟨x, hx, ?_⟩
    unfold Bank.tick at hs
    split at hs
    · next ht => exact ht.1
    · exact hs)
  response _ h := h.congr rfl rfl rfl (fun ho => by simpa [Part.modOperation] using ho) id
  receive _ _ h := h.keeps (by simp)
  read _ h := h.keeps (by simp)

/-- Settles O6, by the law of ownership that every command's effect keeps. -/
theorem everyStepKeepsTheOwnershipLaw : Obligations.EveryStepKeepsTheOwnershipLaw := by
  intro s t hs hstep
  exact step_keeps (fun c p => effect_keeps
    (fun p o n v h => h.keeps ((p.plainWrite_keeps o n v).mono (by simp)))
    (fun c _ hc h => h.effect c hc) c) keptByClocks_ownershipLaw hs hstep

end Sys2Proof.Machine
end

section
/-! The quiet channel (R170, R173, R174): what is asked for, and what the Master may be doing, while the engine is
OFF, QUIESCED or FAILED; kept by every step. -/

-- One declaration at a time: every further thread counts against the memory the check allows.
set_option Elab.async false

namespace Sys2Proof.Machine

variable {p q r : Part}

/-! ### Accesses and interrupt messages are apart -/

/-- Every block but the host port. -/
abbrev besideHost : List Region :=
  [.engine, .admin, .fetch, .sched, .windows, .master, .port, .notices, .compl, .stats, .out]

/-- The same accesses are asked for and outstanding in `q` as in `p`. -/
structure Part.SameChannel (p q : Part) : Prop where
  waiting : q.host.waiting = p.host.waiting
  abandoned : q.host.abandoned = p.host.abandoned
  outstanding : q.host.outstanding = p.host.outstanding

theorem Part.SameChannel.refl (p : Part) : p.SameChannel p := ⟨rfl, rfl, rfl⟩

theorem Part.SameChannel.trans (h : p.SameChannel q) (h' : q.SameChannel r) : p.SameChannel r :=
  ⟨h'.waiting.trans h.waiting, h'.abandoned.trans h.abandoned, h'.outstanding.trans h.outstanding⟩

theorem Part.Keeps.sameChannel (h : p.Keeps besideHost q) : p.SameChannel q := by
  constructor <;> rw [h.host]

theorem Part.SameChannel.beside (h : p.SameChannel q) (h' : q.Keeps besideHost r) : p.SameChannel r :=
  h.trans h'.sameChannel

theorem Part.SameChannel.onCompl (h : p.SameChannel q) (f : CompletionUnit → CompletionUnit) :
    p.SameChannel (q.onCompl f) := ⟨h.1, h.2, h.3⟩

theorem Part.SameChannel.onNotices (h : p.SameChannel q) (f : NoticeUnit → NoticeUnit) :
    p.SameChannel (q.onNotices f) := ⟨h.1, h.2, h.3⟩

theorem Part.SameChannel.modCring (h : p.SameChannel q) (c : Fin 8) (f : CompletionRing → CompletionRing) :
    p.SameChannel (q.modCring c f) := ⟨h.1, h.2, h.3⟩

theorem Part.SameChannel.signal (h : p.SameChannel q) (v : Fin 16) : p.SameChannel (q.signal v) := by
  unfold Part.signal
  split <;> exact ⟨h.1, h.2, h.3⟩

theorem Part.SameChannel.armTest (h : p.SameChannel q) (c : Fin 8) : p.SameChannel (q.armTest c) := by
  simp only [Part.armTest]
  split
  · exact h.modCring _ _
  · exact (h.signal _).modCring _ _

theorem Part.SameChannel.adminArmTest (h : p.SameChannel q) : p.SameChannel q.adminArmTest := by
  simp only [Part.adminArmTest]
  split
  · exact h.onCompl _
  · exact (h.signal _).onCompl _

theorem Part.SameChannel.noticeArmTest (h : p.SameChannel q) : p.SameChannel q.noticeArmTest := by
  simp only [Part.noticeArmTest]
  refine Part.SameChannel.onNotices ?_ _
  split
  · split
    · exact (h.signal _).signal _
    · exact h.signal _
  · split
    · exact h.signal _
    · exact h

theorem Part.SameChannel.armPendingTests (h : p.SameChannel q) : p.SameChannel q.armPendingTests := by
  unfold Part.armPendingTests
  extract_lets rings admin
  have hrings : p.SameChannel rings := by
    refine List.foldlRecOn _ _ h fun r hr c _ => ?_
    split
    · exact (hr.modCring _ _).armTest c
    · exact hr
  have hadmin : p.SameChannel admin := by
    unfold admin
    split
    · exact (hrings.onCompl _).adminArmTest
    · exact hrings
  split
  · exact (hadmin.onNotices _).noticeArmTest
  · exact hadmin

theorem Part.SameChannel.sendPending (h : p.SameChannel q) (v : Fin 16) : p.SameChannel (q.sendPending v) := by
  unfold Part.sendPending
  split
  · exact ⟨h.1, h.2, h.3⟩
  · exact h

theorem Part.sameChannel_unmask (p : Part) (scope : VectorScope) : p.SameChannel (p.unmask scope) := by
  unfold Part.unmask
  split
  · next v =>
    have hmasked : p.SameChannel (p.onHost fun h => { h with vectorMasked := tabUpdate h.vectorMasked v fun _ => false }) :=
      ⟨rfl, rfl, rfl⟩
    exact hmasked.sendPending v
  · exact List.foldlRecOn (motive := fun q => p.SameChannel q) _ _ ⟨rfl, rfl, rfl⟩ fun _ hq v _ => hq.sendPending v

theorem Part.sameChannel_mask (p : Part) (scope : VectorScope) : p.SameChannel (p.mask scope) := by
  unfold Part.mask
  split <;> exact ⟨rfl, rfl, rfl⟩

theorem Part.SameChannel.armCring (h : p.SameChannel q) (c : Fin 8) : p.SameChannel (q.armCring c) := by
  unfold Part.armCring
  split
  · exact h.armTest c
  · exact h.modCring _ _

theorem Part.SameChannel.armAdmin (h : p.SameChannel q) : p.SameChannel q.armAdmin := by
  unfold Part.armAdmin
  split
  · exact h.adminArmTest
  · exact h.onCompl _

theorem Part.SameChannel.armNotices (h : p.SameChannel q) : p.SameChannel q.armNotices := by
  unfold Part.armNotices
  split
  · exact h.noticeArmTest
  · exact h.onNotices _

/-! ### The law and the changes it does not see -/

theorem QuietLaw.congr (h : QuietLaw p) (hengine : q.engine.state = p.engine.state)
    (hhost : p.SameChannel q) (hmaster : q.master = p.master) : QuietLaw q := by
  obtain ⟨channel, held, failed, closing, delivering⟩ := h
  obtain ⟨hwaiting, habandoned, hout⟩ := hhost
  refine ⟨?_, ?_, ?_, ?_, ?_⟩
  · simpa only [Part.request, hengine, hwaiting, habandoned, hout] using channel
  · rwa [hengine, hmaster]
  · rwa [hengine, hmaster]
  all_goals rwa [hmaster]

/-- Every block but Engine Control, the host port and the Master. -/
abbrev besideQuiet : List Region :=
  [.admin, .fetch, .sched, .windows, .port, .notices, .compl, .stats, .out]

theorem QuietLaw.keeps (h : QuietLaw p) (hq : p.Keeps besideQuiet q) : QuietLaw q :=
  h.congr (by rw [hq.engine]) (hq.mono (by simp)).sameChannel hq.master

/-- While RUNNING or QUIESCING any access may be asked for. -/
theorem QuietLaw.working (h : QuietLaw p) (hq : q.engine.state.working = true) (hmaster : q.master = p.master) :
    QuietLaw q := by
  refine ⟨fun hno => absurd (hq.symm.trans hno) nofun, ?_, ?_, ?_, ?_⟩
  · rintro (hs | hs) <;> simp [hs, EngineState.working] at hq
  · intro hs
    simp [hs, EngineState.working] at hq
  · rw [hmaster]
    exact h.closing
  · rw [hmaster]
    exact h.delivering

/-- Something outstanding shows a working engine. -/
theorem QuietLaw.working_of_outstanding (h : QuietLaw p) (hout : p.host.outstanding ≠ none) :
    p.engine.state.working = true := by
  by_contra hno
  exact hout (h.channel (by simpa using hno)).1

theorem QuietLaw.working_of_read (h : QuietLaw p) {x : Source} (hread : p.readOutstanding x = true) :
    p.engine.state.working = true :=
  h.working_of_outstanding fun hnone => by simp [Part.readOutstanding, hnone] at hread

theorem QuietLaw.working_of_write (h : QuietLaw p) {x : Source} (hwrite : p.writeOutstanding x = true) :
    p.engine.state.working = true :=
  h.working_of_outstanding fun hnone => by simp [Part.writeOutstanding, hnone] at hwrite

/-- A Master that fetches, or that drives in an engine that has not failed, shows a working engine. -/
theorem QuietLaw.working_of_fetching (h : QuietLaw p) (hm : p.master.state = .fetching) :
    p.engine.state.working = true := by
  have held := h.held
  have failed := h.failed
  cases hs : p.engine.state <;> simp_all [EngineState.working]

theorem QuietLaw.working_of_driving (h : QuietLaw p) (hm : p.master.state = .driving)
    (hne : p.engine.state ≠ .failed) : p.engine.state.working = true := by
  have held := h.held
  cases hs : p.engine.state <;> simp_all [EngineState.working]

theorem QuietLaw.closeAccess (h : QuietLaw p) : QuietLaw p.closeAccess := by
  refine ⟨fun hno => ?_, h.held, h.failed, h.closing, h.delivering⟩
  obtain ⟨-, habandoned, hrequest⟩ := h.channel hno
  exact ⟨rfl, habandoned, hrequest⟩

theorem Part.nextAccess_working {n : Source × Access × Bool} (h : p.nextAccess = some n) :
    p.engine.state.working = true := by
  unfold Part.nextAccess at h
  split at h
  · next hmay =>
    simp only [Part.mayIssue, Bool.and_eq_true] at hmay
    exact hmay.1
  · cases h

theorem QuietLaw.takeUnissued (h : QuietLaw p) (x : Source) (read : Bool) : QuietLaw (p.takeUnissued x read) := by
  unfold Part.takeUnissued
  split
  · next hnext =>
    split
    · have hworks := Part.nextAccess_working hnext
      exact h.working hworks rfl
    · exact h
  · exact h

theorem QuietLaw.forRead (h : QuietLaw p) (x : Source) (done : Bool) : QuietLaw (p.forRead x done) := by
  unfold Part.forRead
  split
  · exact h
  · exact h.takeUnissued _ _

theorem QuietLaw.forWrite (h : QuietLaw p) (x : Source) (done : Bool) : QuietLaw (p.forWrite x done) := by
  unfold Part.forWrite
  split
  · exact h
  · exact h.takeUnissued _ _

theorem QuietLaw.issue (h : QuietLaw p) : QuietLaw p.issue := by
  unfold Part.issue
  split
  · next hnext =>
    have hworks := Part.nextAccess_working hnext
    exact h.working hworks rfl
  · exact h

/-! ### The reaction -/

/-- Only a working engine asks for accesses in the reaction. -/
theorem Part.react_host_of_still (h : p.engine.state.working = false) : p.react.host = p.host := by
  have hrunning : p.engine.state ≠ .running := by
    intro hs
    simp [hs, EngineState.working] at h
  simp [Part.react, Part.askCommand, Part.askNotice, Part.askAdminPosting, Part.askPosting, h, hrunning]

theorem QuietLaw.react (h : QuietLaw p) : QuietLaw p.react := by
  cases hworks : p.engine.state.working with
  | true => exact h.working (by simpa using hworks) (by simp)
  | false =>
    have hhost := Part.react_host_of_still hworks
    exact h.congr (by simp) ⟨by rw [hhost], by rw [hhost], by rw [hhost]⟩ (by simp)

theorem QuietLaw.reacts {l : List Region} (h : QuietLaw p) (hq : p.Reacts l q)
    (hl : l ⊆ besideQuiet := by simp) : QuietLaw q :=
  hq.holds (fun _ hk => h.keeps (hk.mono hl)) fun _ => QuietLaw.react

/-! ### The Master's operations -/

/-- An IDLE Master is quiet in every engine state. -/
theorem QuietLaw.idle (h : QuietLaw p) (hengine : q.engine.state = p.engine.state) (hhost : p.SameChannel q)
    (hmaster : q.master.state = .idle) : QuietLaw q := by
  refine ⟨?_, fun _ => .inl hmaster, fun _ => by simp [hmaster], by simp [hmaster], by simp [hmaster]⟩
  have hchannel := h.channel
  obtain ⟨hwaiting, habandoned, hout⟩ := hhost
  simpa only [Part.request, hengine, hwaiting, habandoned, hout] using hchannel

theorem QuietLaw.reportBurst (h : QuietLaw p) (o : Operation) (k : Fin 8) (e : OperationEnd) (n : Nat)
    (delivered : Bool) : QuietLaw (p.reportBurst o k e n delivered) := by
  have hkeeps := p.reportBurst_keeps o k e n delivered
  exact h.idle (by rw [hkeeps.engine]) (hkeeps.mono (by simp)).sameChannel
    (by rw [Part.reportBurst_master]; rfl)

theorem Part.endClose_master (p : Part) (o : Operation) (e : OperationEnd) : (p.endClose o e).master = .reset := by
  simp only [Part.endClose]
  rw [Part.verdict_master]
  split
  · have hkeeps : p.masterIdle.Keeps [.windows]
        (p.masterIdle.onOperationWindow o fun p w => p.modBank w o.bank fun _ => .closed) := by
      simp [Part.keeps_onOperationWindow]
    rw [hkeeps.master]
    rfl
  · rfl

theorem QuietLaw.endClose (h : QuietLaw p) (o : Operation) (e : OperationEnd) : QuietLaw (p.endClose o e) := by
  have hkeeps := p.endClose_keeps o e
  exact h.idle (by rw [hkeeps.engine]) (hkeeps.mono (by simp)).sameChannel (by rw [Part.endClose_master]; rfl)

/-- An operation that is over: a burst's where the Master drives, a close operation's where it closes. -/
theorem QuietLaw.endOperation (h : QuietLaw p) {o : Operation} (hm : o.slot ≠ none → p.master.state = .driving)
    (e : OperationEnd) : QuietLaw (p.endOperation o e) := by
  unfold Part.endOperation
  split
  · exact h.endClose o e
  · next k hslot =>
    split
    · next hread =>
      obtain ⟨-, -, hne⟩ := hread
      have hworks := h.working_of_driving (hm (by simp [hslot])) hne
      refine ⟨fun hno => absurd (hworks.symm.trans hno) nofun, ?_, ?_, nofun, fun _ => ⟨_, k, rfl, hslot⟩⟩
      · change p.engine.state = .off ∨ p.engine.state = .quiesced → _
        rintro (hs | hs) <;> simp [hs, EngineState.working] at hworks
      · exact fun hs => absurd hs hne
    · exact h.reportBurst _ _ _ _ _

theorem QuietLaw.goesOn (h : QuietLaw p) {o : Operation} (ho : p.master.operation = some o)
    (hm : p.master.state = .driving ∨ p.master.state = .closing) (hq : p.GoesOn o q) : QuietLaw q := by
  obtain ⟨keeps, state, ⟨x, hx, hsame⟩, -⟩ := hq
  refine ⟨?_, ?_, ?_, fun hc => ⟨x, hx, ?_⟩, fun hd => ?_⟩
  · simpa only [Part.request, keeps.engine, keeps.host] using h.channel
  · rw [keeps.engine, state]
    exact h.held
  · rw [keeps.engine, state]
    exact h.failed
  · obtain ⟨y, hy, hslot⟩ := h.closing (state ▸ hc)
    rw [ho] at hy
    cases hy
    rw [hsame.slot, hslot]
  · rw [state] at hd
    simp [hd] at hm

/-- The burst whose phase waits is driven; a close operation has no slot. -/
theorem QuietLaw.driving_of_slot (h : QuietLaw p) {o : Operation} (ho : p.master.operation = some o)
    (hm : p.master.state = .driving ∨ p.master.state = .closing) (hslot : o.slot ≠ none) :
    p.master.state = .driving := by
  rcases hm with hd | hc
  · exact hd
  · obtain ⟨y, hy, hnone⟩ := h.closing hc
    rw [ho] at hy
    cases hy
    exact absurd hnone hslot

theorem QuietLaw.takeAnswer (h : QuietLaw p) (a : Answer) (ad : BusWord) (good : Bool) :
    QuietLaw (p.takeAnswer a ad good) := by
  unfold Part.takeAnswer
  split
  · next o ph hwaits =>
    split
    · exact h
    · obtain ⟨ho, -, hm⟩ := Part.waitingPhase_eq_some hwaits
      rcases Part.answered_cases ho ph a ad good with goes | ⟨q, o', e, he, goes, hsame, -⟩
      · exact (h.goesOn ho hm goes).react
      · rw [he]
        refine QuietLaw.react ((h.goesOn ho hm goes).endOperation (fun hslot => ?_) e)
        rw [goes.state]
        exact h.driving_of_slot ho hm (hsame.slot ▸ hslot)
  · exact h

theorem QuietLaw.expireResponse (h : QuietLaw p) : QuietLaw p.expireResponse := by
  unfold Part.expireResponse
  split
  · next o ph hwaits =>
    obtain ⟨ho, -, hm⟩ := Part.waitingPhase_eq_some hwaits
    have haborts : QuietLaw p.driveAbort := h.keeps (by simp)
    exact (haborts.endOperation (fun hslot => h.driving_of_slot ho hm hslot) _).react
  · exact h

theorem QuietLaw.cutOperation (h : QuietLaw p) (e : OperationEnd) : QuietLaw (p.cutOperation e) := by
  unfold Part.cutOperation
  split
  · next o ho =>
    split
    · next hm => exact h.endOperation (fun hslot => h.driving_of_slot ho hm hslot) e
    · exact h
  · exact h

theorem QuietLaw.delivered (h : QuietLaw p) (done : Bool) : QuietLaw (p.delivered done) := by
  have hclosed := (h.forWrite .master done).closeAccess
  simp only [Part.delivered]
  (repeat' split)
  · exact (hclosed.reportBurst _ _ _ _ _).react
  iterate 2 exact hclosed
  · exact h.forWrite .master done

theorem QuietLaw.dataReadFails (h : QuietLaw p) : QuietLaw p.dataReadFails := by
  unfold Part.dataReadFails
  (repeat' split)
  · exact h.reportBurst _ _ _ _ _
  all_goals exact h

/-- While the engine works, only what the Master closes or delivers has to be shown. -/
theorem QuietLaw.of_working (hworks : q.engine.state.working = true)
    (hm : q.master.state ≠ .closing ∧ q.master.state ≠ .delivering) : QuietLaw q := by
  refine ⟨fun hno => absurd (hworks.symm.trans hno) nofun, ?_, ?_, fun hc => absurd hc hm.1, fun hd => absurd hd hm.2⟩
  · rintro (hs | hs) <;> simp [hs, EngineState.working] at hworks
  · intro hs
    simp [hs, EngineState.working] at hworks

theorem QuietLaw.of_startDriving (hworks : p.engine.state.working = true) (o : Operation) :
    QuietLaw (p.startDriving o) := by
  have hkeeps : p.Keeps [.sched, .master, .stats, .out] (p.startDriving o) := by simp
  exact .of_working (by rw [hkeeps.engine]; exact hworks) (by simp [p.startDriving_master o])

theorem QuietLaw.dataArrives (h : QuietLaw p) (data : BurstData) : QuietLaw (p.dataArrives data) := by
  unfold Part.dataArrives
  split
  · next o hf _ =>
    have hworks := h.working_of_fetching hf
    exact QuietLaw.of_startDriving (p := p.onMaster _) hworks o
  · exact h

theorem QuietLaw.dataRead (h : QuietLaw p) (result : Option BurstData) : QuietLaw (p.dataRead result) := by
  have hclosed := (h.forRead .master result.isSome).closeAccess
  simp only [Part.dataRead]
  (repeat' split)
  · exact hclosed.react
  · exact (hclosed.dataArrives _).react
  · exact hclosed.dataReadFails.react
  · exact h.forRead .master _

theorem QuietLaw.abandonFetch (h : QuietLaw p) : QuietLaw p.abandonFetch := by
  have hkeeps := p.abandonFetch_keeps
  have hmaster := p.abandonFetch_master
  by_cases hf : p.master.state = .fetching
  · have hworks : p.abandonFetch.engine.state.working = true := by
      rw [hkeeps.engine]
      exact h.working_of_fetching hf
    rw [if_pos hf] at hmaster
    have hidle : p.abandonFetch.master.state = .idle := by rw [hmaster]; rfl
    exact .of_working hworks (by simp [hidle])
  · have hsame : p.abandonFetch = p := if_neg hf
    rwa [hsame]

theorem QuietLaw.endTenureCut (h : QuietLaw p) (e : OperationEnd) :
    QuietLaw (p.endTenureFlags.loseBanks.abandonFetch.cutOperation e) :=
  ((h.keeps (q := p.endTenureFlags.loseBanks) (by simp)).abandonFetch).cutOperation e

/-! ### Failure -/

/-- Nothing is asked for and nothing is outstanding. -/
structure HostPort.Silent (h : HostPort) : Prop where
  outstanding : h.outstanding = none
  abandoned : h.abandoned = []
  waiting : ∀ s : Source, h.waiting.get s.place = none

theorem HostPort.Silent.abandonRead {h : HostPort} (hs : h.Silent) : h.abandonRead.Silent := by
  have hnone : h.waiting.get Source.master.place = none := hs.waiting .master
  unfold HostPort.abandonRead
  rw [hnone]
  refine ⟨by simp [hs.outstanding], by simp [hs.abandoned], fun x => ?_⟩
  by_cases hx : x.place = Source.master.place
  · rw [hx, tabUpdate_same]
  · rw [tabUpdate_other _ _ hx]
    exact hs.waiting x

theorem QuietLaw.of_failed (hengine : q.engine.state = .failed) (hhost : q.host.Silent)
    (hm : q.master.state ≠ .fetching ∧ q.master.state ≠ .delivering)
    (hclosing : q.master.state = .closing → ∃ o, q.master.operation = some o ∧ o.slot = none) : QuietLaw q :=
  ⟨fun _ => ⟨hhost.outstanding, hhost.abandoned, hhost.waiting⟩, by simp [hengine], fun _ => hm, hclosing,
    fun hd => absurd hd hm.2⟩

theorem Part.abandonFetch_silent (h : p.host.Silent) : p.abandonFetch.host.Silent := by
  by_cases hf : p.master.state = .fetching
  · have hhost : p.abandonFetch.host = p.host.abandonRead := by
      simp only [Part.abandonFetch, if_pos hf]
      (repeat' split) <;> rfl
    rw [hhost]
    exact h.abandonRead
  · have hsame : p.abandonFetch = p := if_neg hf
    rwa [hsame]

/-- A delivery that is dropped is reported; any other work of the Master stays. -/
theorem Part.dropDelivery_master (p : Part) : p.dropDelivery.master = .reset ∨ (p.dropDelivery.master = p.master
    ∧ ∀ o k, p.master.state = .delivering → p.master.operation = some o → o.slot ≠ some k) := by
  unfold Part.dropDelivery
  split
  · split
    · exact .inl (Part.reportBurst_master _ _ _ _ _ _)
    · next o _ ho _ hslot => exact .inr ⟨rfl, fun x k _ hx hk => by rw [ho] at hx; cases hx; simp [hslot] at hk⟩
  · next hno => exact .inr ⟨rfl, fun o _ hd ho => absurd ho (hno o hd)⟩

/-- Once nothing is outstanding, the failure leaves the channel silent and the Master without an access. -/
theorem QuietLaw.enterFailed (h : QuietLaw p) (hout : p.host.outstanding = none) (c : FatalCause) (id : Nat) :
    QuietLaw (p.enterFailed c id) := by
  simp only [Part.enterFailed]
  split
  · set r := (p.onEngine fun e => { e with state := .failed, cause := c, ringId := id }).dropRequests with hr
    have hsilent : r.host.Silent := ⟨hout, rfl, fun s => by cases s <;> rfl⟩
    have hmaster : r.abandonFetch.master = if p.master.state = .fetching then .reset else p.master :=
      Part.abandonFetch_master r
    have hkeeps : r.abandonFetch.Keeps besideHost r.abandonFetch.dropDelivery.failPort :=
      ((Part.dropDelivery_keeps _).mono (by simp)).trans ((Part.failPort_keeps _).mono (by simp))
    have hdropped : r.abandonFetch.dropDelivery.failPort.master = r.abandonFetch.dropDelivery.master :=
      (Part.failPort_keeps _).master
    have hfailed : r.Keeps (.host :: .master :: besideQuiet)
        r.abandonFetch.dropDelivery.failPort := by simp
    have hengine : r.abandonFetch.dropDelivery.failPort.engine.state = .failed := by rw [hfailed.engine]; rfl
    refine .of_failed hengine (by rw [hkeeps.host]; exact Part.abandonFetch_silent hsilent) ?_ ?_
    · rw [hdropped]
      rcases r.abandonFetch.dropDelivery_master with hidle | ⟨hsame, hdelivers⟩
      · simp [hidle, Master.reset]
      · rw [hmaster] at hsame hdelivers
        rw [hsame]
        split at hdelivers
        · simp [*, Master.reset]
        · next hf =>
          rw [if_neg hf]
          refine ⟨hf, fun hd => ?_⟩
          obtain ⟨o, k, ho, hk⟩ := h.delivering hd
          exact hdelivers o k hd ho hk
    · rw [hdropped]
      rcases r.abandonFetch.dropDelivery_master with hidle | ⟨hsame, -⟩
      · simp [hidle, Master.reset]
      · rw [hsame, hmaster]
        split
        · simp [Master.reset]
        · exact h.closing
  · exact h

theorem QuietLaw.submissionReadFails (h : QuietLaw p) (hout : p.host.outstanding = none) :
    QuietLaw p.submissionReadFails := by
  unfold Part.submissionReadFails
  split
  · exact h.enterFailed hout _ _
  · exact h

theorem QuietLaw.readTimesOut (h : QuietLaw p) : QuietLaw p.readTimesOut := by
  have hclosed := h.closeAccess
  unfold Part.readTimesOut
  (repeat' split)
  · exact (hclosed.submissionReadFails rfl).react
  · exact (hclosed.enterFailed rfl _ _).react
  · exact hclosed.react
  · exact hclosed.dataReadFails.react
  · exact h

theorem QuietLaw.submissionRead (h : QuietLaw p) (result : Option Block) : QuietLaw (p.submissionRead result) := by
  have hclosed := (h.forRead .ringFetch result.isSome).closeAccess
  simp only [Part.submissionRead]
  (repeat' split)
  · exact (hclosed.keeps (by simp)).react
  · exact (hclosed.keeps ((Part.takeRecord_keeps _ _ _).mono (by simp))).react
  · exact (hclosed.submissionReadFails rfl).react
  iterate 2 exact hclosed
  · exact h.forRead .ringFetch _

/-- What a write that is done changes, beside Engine Control and the Master, is changed while the engine works. -/
theorem QuietLaw.keeps_of_working (h : QuietLaw p) (hworks : p.engine.state.working = true)
    (hq : p.Keeps (.host :: besideQuiet) q) : QuietLaw q :=
  h.working (by rw [hq.engine]; exact hworks) hq.master

theorem QuietLaw.noticeWritten (h : QuietLaw p) (done : Bool) : QuietLaw (p.noticeWritten done) := by
  have htaken := h.forWrite .notices done
  have hclosed := htaken.closeAccess
  simp only [Part.noticeWritten]
  split
  · next hwrite =>
    have hworks : (p.forWrite .notices done).closeAccess.engine.state.working = true :=
      htaken.working_of_write hwrite
    (repeat' split)
    · exact QuietLaw.react (hclosed.keeps_of_working hworks (by simp))
    · exact QuietLaw.react (hclosed.keeps_of_working hworks (by simp))
    · exact (hclosed.enterFailed rfl _ _).react
    · exact hclosed
  · exact htaken

theorem QuietLaw.completionWritten (h : QuietLaw p) (done : Bool) : QuietLaw (p.completionWritten done) := by
  have htaken := h.forWrite .posting done
  have hclosed := htaken.closeAccess
  simp only [Part.completionWritten]
  split
  · next hwrite =>
    have hworks : (p.forWrite .posting done).closeAccess.engine.state.working = true :=
      htaken.working_of_write hwrite
    (repeat' split)
    · exact QuietLaw.react (hclosed.keeps_of_working hworks (by simp))
    · exact (hclosed.enterFailed rfl _ _).react
    · exact hclosed
  · exact htaken

theorem QuietLaw.adminWritten (h : QuietLaw p) (done : Bool) : QuietLaw (p.adminWritten done) := by
  have htaken := h.forWrite .adminPosting done
  have hclosed := htaken.closeAccess
  simp only [Part.adminWritten]
  split
  · next hwrite =>
    have hworks : (p.forWrite .adminPosting done).closeAccess.engine.state.working = true :=
      htaken.working_of_write hwrite
    (repeat' split)
    iterate 2 exact QuietLaw.react (hclosed.keeps_of_working hworks (by simp))
    · exact (hclosed.enterFailed rfl _ _).react
  · exact htaken

theorem QuietLaw.reportWritten (h : QuietLaw p) (done : Bool) : QuietLaw (p.reportWritten done) := by
  have htaken := h.forWrite .administration done
  have hclosed := htaken.closeAccess
  simp only [Part.reportWritten]
  (repeat' split)
  iterate 2 exact QuietLaw.react (hclosed.keeps (by simp))
  · exact hclosed
  · exact htaken

/-! ### The backplane's lines and the commands -/

theorem QuietLaw.takeWithdraw (h : QuietLaw p) : QuietLaw p.takeWithdraw := by
  unfold Part.takeWithdraw
  split
  · exact h.keeps (by simp)
  · exact h.abandonFetch.keeps (by simp)
  all_goals exact h.keeps (by simp)

theorem QuietLaw.grantRises (h : QuietLaw p) : QuietLaw p.grantRises := by
  have hline : QuietLaw (p.onPort fun x => { x with gnt := true }) := h.keeps (by simp)
  simp only [Part.grantRises]
  (repeat' split)
  · exact h
  · exact (QuietLaw.takeWithdraw (hline.keeps (by simp))).react
  · exact QuietLaw.react (hline.keeps (by simp))
  · exact QuietLaw.react (hline.keeps (by simp))
  all_goals exact hline

theorem QuietLaw.afterTenure (h : QuietLaw p) : QuietLaw p.afterTenure :=
  h.keeps (p.afterTenure_keeps.mono (by simp))

theorem QuietLaw.loseGrant (h : QuietLaw p) : QuietLaw p.loseGrant := by
  have hcut := h.endTenureCut .grantLost
  simp only [Part.loseGrant]
  split <;> exact QuietLaw.afterTenure (hcut.keeps (by simp))

theorem QuietLaw.grantDrops (h : QuietLaw p) : QuietLaw p.grantDrops := by
  have hline : QuietLaw (p.onPort fun x => { x with gnt := false }) := h.keeps (by simp)
  simp only [Part.grantDrops]
  (repeat' split)
  · exact QuietLaw.react (hline.keeps (by simp [Part.endTenure]))
  · exact hline.loseGrant.react
  · exact hline.react
  · exact h

theorem QuietLaw.loseLink (h : QuietLaw p) (cause : DetachCause) : QuietLaw (p.loseLink cause) := by
  unfold Part.loseLink
  split
  · exact h
  · exact QuietLaw.react ((h.endTenureCut .linkLost).keeps (by simp))

theorem QuietLaw.of_handBurst (hworks : p.engine.state.working = true) (k : Fin 8) : QuietLaw (p.handBurst k) := by
  simp only [Part.handBurst]
  split
  · exact .of_working hworks ⟨nofun, nofun⟩
  · refine QuietLaw.of_startDriving (p := (p.modSlot k fun s => { s with state := .inBurst }).onMaster fun m =>
      { m with staging := [] }) ?_ _
    exact hworks

theorem QuietLaw.select (h : QuietLaw p) : QuietLaw p.select := by
  simp only [Part.select]
  split
  · next hsel =>
    have hworks : p.engine.state.working = true := by rw [(Part.selectable_iff.1 hsel).1]; rfl
    split
    · refine QuietLaw.react (.of_handBurst ?_ _)
      split <;> exact hworks
    · exact h
  · exact h

theorem QuietLaw.startClose (h : QuietLaw p) : QuietLaw p.startClose := by
  unfold Part.startClose
  split
  · next w b _ =>
    exact QuietLaw.react ⟨h.channel, fun _ => .inr rfl, fun _ => ⟨nofun, nofun⟩, fun _ => ⟨_, rfl, rfl⟩, nofun⟩
  · exact h

theorem QuietLaw.choose (h : QuietLaw p) : QuietLaw p.choose := by
  unfold Part.choose
  split
  · next hmay =>
    have hworks : p.engine.state.working = true := by
      simp only [Part.mayChoose, Bool.and_eq_true, beq_iff_eq] at hmay
      rw [hmay.1.1]
      rfl
    split
    · exact QuietLaw.react (h.keeps_of_working hworks (by simp))
    · exact h
  · exact h

theorem QuietLaw.enable (h : QuietLaw p) : QuietLaw p.enable := by
  unfold Part.enable
  split
  · split
    · exact QuietLaw.react (h.working rfl rfl)
    · exact h.congr rfl ⟨rfl, rfl, rfl⟩ rfl
  · have hrunning : QuietLaw (p.onEngine fun e => { e with state := .running }) := h.working rfl rfl
    exact (hrunning.keeps_of_working rfl (by simp)).react
  all_goals exact h

/-- What R173's condition says of the channel and the Master. -/
theorem Part.quiescent_channel (h : p.quiescent = true) :
    p.host.Silent ∧ (p.master.state = .idle ∨ p.master.state = .closing) := by
  simp only [Part.quiescent, Bool.and_eq_true, Option.isNone_iff_eq_none, List.isEmpty_iff, Bool.or_eq_true,
    beq_iff_eq, List.all_eq_true] at h
  obtain ⟨⟨⟨⟨⟨⟨⟨⟨hout, hwaiting⟩, habandoned⟩, hmaster⟩, -⟩, -⟩, -⟩, -⟩, -⟩ := h
  exact ⟨⟨hout, habandoned, fun x => hwaiting _ (by simp [Vector.get_eq_getElem])⟩, hmaster⟩

theorem QuietLaw.reachQuiesced (h : QuietLaw p) : QuietLaw p.reachQuiesced := by
  unfold Part.reachQuiesced
  split
  · next hquiescent =>
    obtain ⟨hsilent, hmaster⟩ := Part.quiescent_channel hquiescent.2
    exact ⟨fun _ => ⟨hsilent.outstanding, hsilent.abandoned, hsilent.waiting⟩, fun _ => hmaster, nofun, h.closing,
      h.delivering⟩
  · exact h

theorem QuietLaw.quiesce (h : QuietLaw p) : QuietLaw p.quiesce := by
  unfold Part.quiesce
  split
  · have hquiescing : QuietLaw (p.onEngine fun e => { e with state := .quiescing }).endHold :=
      h.working rfl rfl
    exact hquiescing.react.reachQuiesced
  all_goals exact h

theorem QuietLaw.settleOnly (h : QuietLaw p) : QuietLaw p.settleOnly := by
  unfold Part.settleOnly
  (repeat' split)
  · exact QuietLaw.react (h.keeps (by simp))
  all_goals exact h

theorem QuietLaw.finishJoin (h : QuietLaw p) : QuietLaw p.finishJoin := by
  unfold Part.finishJoin
  split
  · exact QuietLaw.react (h.keeps (by simp))
  · exact h

theorem QuietLaw.checkTaken (h : QuietLaw p) (ad : BusWord) (good : Bool) : QuietLaw (p.checkTaken ad good) := by
  have hseen : QuietLaw (p.seePhase .data) := h.keeps (by simp)
  simp only [Part.checkTaken]
  (repeat' split)
  iterate 2 exact QuietLaw.react (hseen.keeps (by simp))
  all_goals exact hseen

theorem quietLaw_of_reset (hengine : p.engine.state = .off) (hhost : p.host.Silent) (hmaster : p.master = .reset) :
    QuietLaw p :=
  ⟨fun _ => ⟨hhost.outstanding, hhost.abandoned, hhost.waiting⟩, fun _ => by simp [hmaster, Master.reset],
    by simp [hengine], by simp [hmaster, Master.reset], by simp [hmaster, Master.reset]⟩

theorem QuietLaw.dropNotify (h : QuietLaw p) : QuietLaw p.dropNotify := h.congr rfl ⟨rfl, rfl, rfl⟩ rfl

theorem QuietLaw.writeState (h : QuietLaw p) (v : BitVec 32) : QuietLaw (p.writeState v) := by
  unfold Part.writeState
  split
  · exact h.congr rfl ⟨rfl, rfl, rfl⟩ rfl
  · exact h

theorem QuietLaw.plainWrite (h : QuietLaw p) (o : BitVec 12) (n : Nat) (v : BitVec 32) :
    QuietLaw (p.plainWrite o n v) := by
  unfold Part.plainWrite
  (repeat' split) <;> first | exact h | exact h.congr rfl ⟨rfl, rfl, rfl⟩ rfl

theorem QuietLaw.submit (h : QuietLaw p) (r : BitVec 4) (i : BitVec 12) : QuietLaw (p.submit r i) := by
  unfold Part.submit
  (repeat' split)
  · exact QuietLaw.react (h.keeps (by simp))
  all_goals exact h.dropNotify

theorem QuietLaw.complete (h : QuietLaw p) (r : BitVec 4) (i : BitVec 12) (arm : Bool) :
    QuietLaw (p.complete r i arm) := by
  simp only [Part.complete]
  split
  · next c _ =>
    split
    · have hfreed : QuietLaw (p.freed (p.modCring c fun r => { r with consumer := i.toNat }) c) := h.keeps (by simp)
      refine QuietLaw.react ?_
      split
      · exact hfreed.congr (by rw [(Part.armCring_keeps _ _).engine]) ((Part.SameChannel.refl _).armCring c)
          (Part.armCring_keeps _ _).master
      · exact hfreed
    · exact h.dropNotify
  · exact h.dropNotify

theorem QuietLaw.notice (h : QuietLaw p) (i : BitVec 12) (arm : Bool) : QuietLaw (p.notice i arm) := by
  simp only [Part.notice]
  split
  · have hconsumed : QuietLaw (p.onNotices fun u => { u with ring := u.ring.consume i.toNat }) := h.keeps (by simp)
    refine QuietLaw.react ?_
    split
    · exact hconsumed.congr (by rw [(Part.armNotices_keeps _).engine]) (Part.SameChannel.refl _).armNotices
        (Part.armNotices_keeps _).master
    · exact hconsumed
  · exact h.dropNotify

theorem QuietLaw.adminSubmit (h : QuietLaw p) (i : BitVec 12) : QuietLaw (p.adminSubmit i) := by
  unfold Part.adminSubmit
  split
  · exact QuietLaw.react (h.keeps (by simp))
  · exact h.dropNotify

theorem QuietLaw.adminComplete (h : QuietLaw p) (i : BitVec 12) (arm : Bool) : QuietLaw (p.adminComplete i arm) := by
  simp only [Part.adminComplete]
  split
  · have hconsumed : QuietLaw (p.onCompl fun c =>
        { c with adminRing := { c.adminRing with consumer := i.toNat } }) := h.keeps (by simp)
    refine QuietLaw.react ?_
    split
    · exact hconsumed.congr (by rw [(Part.armAdmin_keeps _).engine]) (Part.SameChannel.refl _).armAdmin
        (Part.armAdmin_keeps _).master
    · exact hconsumed
  · exact h.dropNotify

theorem QuietLaw.arrive (h : QuietLaw p) (rec : Block) {f : Part → Part}
    (hf : ∀ q, q.engine.state.working = true → QuietLaw q → QuietLaw (f q)) : QuietLaw (p.arrive rec f) := by
  simp only [Part.arrive]
  split
  · next hread =>
    split
    · refine QuietLaw.react (hf _ ?_ (h.closeAccess.keeps (by simp)))
      exact h.working_of_read hread
    · exact h.closeAccess
  · exact h

theorem QuietLaw.arrive_keeps (h : QuietLaw p) (rec : Block) {f : Part → Part}
    (hf : ∀ q : Part, q.Keeps (.host :: besideQuiet) (f q)) : QuietLaw (p.arrive rec f) :=
  h.arrive rec fun q hworks hq => hq.keeps_of_working hworks (hf q)

theorem QuietLaw.arrive_checked (h : QuietLaw p) (rec : Block) {checks : Part → List (Bool × Status)}
    {f : Part → Part} (hf : ∀ q : Part, q.Keeps (.host :: besideQuiet) (f q)) :
    QuietLaw (p.arrive rec fun p => p.checked (checks p) f) :=
  h.arrive_keeps rec fun q => q.checked_keeps (hf q) (checks q)

/-- The effect of a command other than a register write. -/
theorem QuietLaw.effect (h : QuietLaw p) (c : Instr) (hc : ∀ o n v, c ≠ .registerWrite o n v) :
    QuietLaw (effect c p) := by
  cases c with
  | registerWrite o n v => exact absurd rfl (hc o n v)
  | powerOnReset | functionLevelReset | reset =>
    exact quietLaw_of_reset rfl ⟨rfl, rfl, fun x => by cases x <;> rfl⟩ rfl
  | enable => exact h.enable
  | quiesce => exact h.quiesce
  | quiescedReached => exact h.reachQuiesced
  | submit ring index arm => exact h.submit _ _
  | complete ring index arm => exact h.complete _ _ _
  | notice ring index arm => exact h.notice _ _
  | adminSubmit ring index arm => exact h.adminSubmit _
  | adminComplete ring index arm => exact h.adminComplete _ _
  | hostAccessIssue => exact h.issue
  | vectorUnmask scope =>
    have hkeeps : p.Keeps [.host, .out] (p.unmask scope) := p.unmask_keeps scope
    exact h.congr (congrArg Engine.state hkeeps.engine) (p.sameChannel_unmask scope) hkeeps.master
  | vectorMasked scope =>
    have hkeeps : p.Keeps [.host] (p.mask scope) := p.mask_keeps scope
    exact h.congr (congrArg Engine.state hkeeps.engine) (p.sameChannel_mask scope) hkeeps.master
  | hostReadTimeout => exact h.readTimesOut
  | submissionReadDone result => exact h.submissionRead result
  | selection => exact h.select
  | settleOnlySettlement => exact h.settleOnly
  | writeDataReadDone result => exact h.dataRead result
  | targetAnswer a ad good => exact h.takeAnswer a ad good
  | responseLimitExpiry => exact h.expireResponse
  | readDataWriteDone done => exact h.delivered done
  | openTimerExpiry w b => exact h.keeps (by simp [Machine.effect])
  | closeOperation => exact h.startClose
  | releaseComplete => exact h.keeps (by simp [Machine.effect])
  | gntRise => exact h.grantRises
  | gntDrop => exact h.grantDrops
  | withdraw =>
    have hline : QuietLaw (p.onPort fun x => { x with wdr := true }) := h.keeps (by simp)
    simp only [Machine.effect, Part.withdraw]
    split
    · exact hline.takeWithdraw.react
    · exact hline
  | linkLoss =>
    simp only [Machine.effect]
    split
    · exact QuietLaw.loseLink (h.keeps (by simp)) _
    · exact h
  | backplaneReset =>
    simp only [Machine.effect]
    split
    · exact h
    · exact QuietLaw.loseLink (h.keeps (by simp)) _
  | noticeEntryWriteDone done => exact h.noticeWritten done
  | completionEntryWriteDone done => exact h.completionWritten done
  | adminCompletionWriteDone done => exact h.adminWritten done
  | queryReportWriteDone done => exact h.reportWritten done
  | adminCommandReadFailed =>
    have hread := h.forRead .administration false
    simp only [Machine.effect]
    split
    · exact (hread.closeAccess.enterFailed rfl _ _).react
    · exact hread
  | unknownCommand rec =>
    exact h.arrive_keeps rec (f := (Part.endCommand · .unknownCommand 0#32)) fun q => by simp
  | createCring rec | deleteCring rec | createSring rec | resumeSring rec | flushSring rec
  | setNode rec | setNoticeRing rec | setFilter rec | query rec | deleteSring rec | haltSring rec
  | attach rec | detach rec | setWindow rec | clearWindow rec | reopenWindow rec =>
    simp only [Machine.effect]
    exact h.arrive_checked rec fun q => by simp
  | ringChoice => exact h.choose
  | postingHandover => exact h.reacts p.reacts_handNext
  | sringDeletionEnd => exact h.reacts p.reacts_finishDeletion
  | flushWalk => exact h.reacts p.reacts_flushWalk
  | endOfDraining => exact h.reacts p.reacts_finishDraining
  | joinTimerExpiry => exact h.finishJoin
  | phaseActivity code => exact h.keeps (by simp [Machine.effect])
  | inboundNoticePhase ad beats good => exact h.keeps (by simp [Machine.effect])
  | inboundNoticeBeat ad good => exact h.keeps (by simp [Machine.effect])
  | inboundCheckWord ad good => exact h.checkTaken ad good
  | stateWrite v => exact h.writeState v
  | notifyInvalidKind  => exact h.dropNotify
  | noticeReceiveTimeout  => exact h.keeps (by simp [Machine.effect])
  | clockReturn | rstReleased | wdrDeasserted =>
    simp only [Machine.effect]
    exact h.keeps (by simp)

theorem keptByClocks_quietLaw : KeptByClocks QuietLaw where
  join _ h _ _ := h.keeps (by simp)
  banks _ h := h.keeps (by simp [Part.tickBanks])
  response p h := by
    refine ⟨h.channel, h.held, h.failed, fun hc => ?_, fun hd => ?_⟩
    · obtain ⟨o, ho, hslot⟩ := h.closing hc
      exact ⟨_, congrArg (Option.map _) ho, hslot⟩
    · obtain ⟨o, k, ho, hslot⟩ := h.delivering hd
      exact ⟨_, k, congrArg (Option.map _) ho, hslot⟩
  receive _ _ h := h.keeps (by simp)
  read p h := by
    refine ⟨fun hno => ?_, h.held, h.failed, h.closing, h.delivering⟩
    obtain ⟨hout, habandoned, hwaiting⟩ := h.channel hno
    exact ⟨by simp [hout], habandoned, hwaiting⟩

/-- Settles O7, by the law of the quiet channel that every command's effect keeps. -/
theorem everyStepKeepsTheChannelQuiet : Obligations.EveryStepKeepsTheChannelQuiet := by
  intro s t hs hstep
  exact step_keeps (fun c p => effect_keeps
    (fun p o n v h => h.plainWrite o n v)
    (fun c _ hc h => h.effect c hc) c) keptByClocks_quietLaw hs hstep

end Sys2Proof.Machine
end

section
/-! The reset state: what its tables hold, and that it meets every law. -/

-- One declaration at a time: every further thread counts against the memory the check allows.
set_option Elab.async false

namespace Sys2Proof.Machine

@[simp] theorem Part.reset_slot (k : Fin 8) : Part.reset.slot k = .empty := by
  simp [Part.slot, Part.reset, Scheduler.reset, Vector.get_eq_getElem]

@[simp] theorem Part.reset_ring (r : Fin 8) : Part.reset.ring r = .absent := by
  simp [Part.ring, Part.reset, FetchUnit.reset, Vector.get_eq_getElem]

@[simp] theorem Part.reset_window (w : Fin 16) : Part.reset.window w = .unused := by
  simp [Part.window, Part.reset, Vector.get_eq_getElem]

@[simp] theorem Part.reset_entry (b : Fin 4) : Part.reset.entry b = .empty := by
  simp [Part.entry, Part.reset, NoticeUnit.reset, Vector.get_eq_getElem]

@[simp] theorem Part.reset_cring (c : Fin 8) : Part.reset.cring c = .absent := by
  simp [Part.cring, Part.reset, CompletionUnit.reset, Vector.get_eq_getElem]

theorem noticeLaw_reset : NoticeLaw Part.reset where
  one _ _ h := by simp [BufferEntry.empty] at h
  port _ h := by simp [BufferEntry.empty] at h

theorem countLaw_reset : CountLaw Part.reset where
  fifo := Nat.zero_le _
  timeouts _ := by simp [Window.unused]
  passes _ := by simp [Slot.empty]

theorem portLaw_reset : PortLaw Part.reset := by
  constructor <;> decide

theorem Part.reset_holders (c : Fin 8) : Part.reset.holders c = 0 := by
  have hslots : ((List.finRange 8).countP fun k => (Part.reset.slot k).reservation == some c) = 0 := by
    simp [Slot.empty]
  unfold Part.holders
  rw [hslots]
  rfl

theorem Slot.counted_empty : Slot.empty.counted = false := rfl

theorem queueLaw_reset : QueueLaw Part.reset where
  held r := by simp [Slot.counted_empty, SubmissionRing.absent]
  marks r := by simp [SubmissionRing.absent]
  inFlight w := by simp [Slot.empty, Window.unused]
  entries c h := by simp [CompletionRing.absent] at h
  rings r := .inl (Part.reset_ring r)
  span r := by
    rw [Part.reset_ring]
    exact ⟨rfl, fun i _ => by
      simp only [SubmissionRing.absent, List.getD_eq_getElem?_getD, List.getElem?_replicate]
      split <;> rfl⟩
  positions k h := by simp [Slot.counted_empty] at h
  fetch r h := by simp [SubmissionRing.absent] at h
  free k _ := Part.reset_slot k
  deferred k _ := by simp [Slot.empty]
  active k h := by simp [Slot.empty] at h
  settled k _ := by simp [Slot.empty]
  reserved k h := by simp [Slot.empty] at h
  waiters k := by simp [Slot.empty]; rfl
  fifo _ h := absurd h List.not_mem_nil
  flushed _ h := absurd h List.not_mem_nil
  burst _ _ h := by cases h
  flight _ h := by cases h
  admission _ h := by cases h
  oneFetch := .inl rfl
  flush _ h := by cases h
  unused w _ := by simp [Window.unused]
  absent c _ := by simp [CompletionRing.absent]
  present c h := by simp [CompletionRing.absent] at h
  holders c := by simp [Part.reset_holders]

/-- Settles O2, law by law. -/
theorem resetMeetsTheLaws : Obligations.ResetMeetsTheLaws :=
  ⟨settled_reset, .of_reset rfl, portLaw_reset, ownershipLaw_of_reset rfl rfl rfl,
    quietLaw_of_reset rfl ⟨rfl, rfl, fun x => by cases x <;> rfl⟩ rfl, noticeLaw_reset, countLaw_reset,
    queueLaw_reset⟩

/-- Settles O9, by what a function reset builds. -/
theorem resetsRestoreEveryBlock : Obligations.ResetsRestoreEveryBlock := by
  refine ⟨fun _ => rfl, fun s => ⟨rfl, _, exec_eq _ s, rfl, rfl, rfl, rfl, rfl, Part.reset_window, rfl, rfl,
    rfl, rfl, ?_, ?_, rfl, fun q => by cases q <;> rfl, fun v => ?_, rfl, ?_⟩⟩
  · simp only [effect, Part.functionReset]
    split <;> rfl
  · simp only [effect, Part.functionReset]
    split <;> rfl
  · change (Vector.replicate 16 false).get v = false
    simp [Vector.get_eq_getElem]
  · change (if _ then _ else _ : Part).out = _
    split <;> simp [Part.driveAbort]

/-- Settles O1, by the equation of a step. -/
theorem stepRunsTheFrontCommand : Obligations.StepRunsTheFrontCommand := by
  refine ⟨fun c rest s hs => ?_, fun s hs => ?_⟩
  · rw [step_eq, exec_eq]
    simp [hs, State.stepped]
  · rw [step_eq]
    simp [hs, State.stepped]

end Sys2Proof.Machine
end

section
/-! Registers and NOTIFY: what a register write leaves alone, what a dropped notify changes, and the notifies
after which nothing follows at the same event. -/

-- One declaration at a time: every further thread counts against the memory the check allows.
set_option Elab.async false

namespace Sys2Proof.Machine

variable {p q : Part}

theorem exec_of_effect {c : Instr} {s : State} (h : effect c s.part = q) : exec c s = .next { s with part := q } := by
  rw [exec_eq, h]

/-! ### Registers (R164, R165, R166, R179) -/

theorem Part.writeState_eq (p : Part) (v : BitVec 32) : p.writeState v = { p with
    engine := { p.engine with notifyDropped := p.engine.notifyDropped && !v.getLsbD 31 } } := by
  unfold Part.writeState
  split <;> simp_all [Part.onEngine]

/-- A write without a row of its own, away from the admin registers or out of OFF, is ignored. -/
theorem Part.plainWrite_of_ignored {o : BitVec 12} {n : Nat} (v : BitVec 32)
    (h : n ≠ 4 ∨ p.engine.state ≠ .off ∨ (o ≠ 0x010#12 ∧ o ≠ 0x014#12 ∧ o ≠ 0x018#12)) :
    p.plainWrite o n v = p := by
  unfold Part.plainWrite
  rcases h with h | h | ⟨hlo, hhi, hsize⟩
  · simp [h]
  · simp [h]
  · simp [hlo, hhi, hsize]

/-- Settles O13, register by register. -/
theorem registerWrites : Obligations.RegisterWrites := by
  refine ⟨fun v s => ?_, fun v s hoff => ?_, fun o n v s hformed hignored => ?_⟩
  · rw [exec_eq, effect, Part.writeState_eq]
  · refine ⟨?_, ?_, ?_⟩ <;> rw [exec_eq, effect_registerWrite] <;> simp [registerCommand, Part.plainWrite, hoff, Part.onEngine]
  · have hrow : registerCommand o n v = none := by simpa [Instr.wellFormed] using hformed
    rw [exec_eq, effect_registerWrite, hrow]
    simp only [s.part.plainWrite_of_ignored v hignored]

/-! ### NOTIFY (R167, R168) -/

theorem ringField_of_val {ring : BitVec 4} {r : Fin 8} (h : ring.toNat = r.val) : ringField ring = some r := by
  simp [ringField, h]

theorem ringField_of_large {ring : BitVec 4} (h : 7 < ring.toNat) : ringField ring = none :=
  dif_neg (by omega)

theorem ringField_eq_some {ring : BitVec 4} {r : Fin 8} (h : ringField ring = some r) : r.val = ring.toNat := by
  unfold ringField at h
  split at h
  · cases h
    rfl
  · cases h

theorem Part.sameDue_producer (p : Part) (r : Fin 8) (n : Nat) :
    p.SameDue (p.modRing r fun x => { x with producer := n }) where
  moves := { view := Part.settleView_congr rfl rfl (fun k => by
               rw [Part.modRing_ring]
               split
               · next h => rw [h]
               · rfl) fun _ => rfl
             admission := rfl, flight := rfl, master := rfl, state := rfl, gnt := fun _ => rfl
             tenure := rfl, chainHold := rfl }
  req := rfl
  lvl := rfl
  admin := rfl
  area := rfl
  compl := rfl
  posting := fun _ => id
  adminPosting := id
  notices := id

/-- Settles O14: the producer index is nothing the reaction depends on. -/
theorem submitMovesTheProducerIndex : Obligations.SubmitMovesTheProducerIndex := by
  intro s ring r index arm hsettled halive hring hstate hindex
  rw [exec_eq]
  simp only [effect, Part.submit, ringField_of_val hring]
  rw [if_pos ⟨halive, hstate, hindex⟩, (hsettled.congr (s.part.sameDue_producer r _)).react]

theorem Part.submit_eq_dropNotify {ring : BitVec 4} {index : BitVec 12} (h : ∀ r : Fin 8, r.val = ring.toNat →
    p.engine.state.alive = false ∨ (p.ring r).state = .absent ∨ (p.ring r).size ≤ index.toNat) :
    p.submit ring index = p.dropNotify := by
  unfold Part.submit
  split
  · next r hr =>
    refine if_neg fun ⟨halive, hstate, hindex⟩ => ?_
    rcases h r (ringField_eq_some hr) with hdead | habsent | hsize
    · simp [halive] at hdead
    · exact hstate habsent
    · omega
  · rfl

theorem Part.complete_eq_dropNotify {ring : BitVec 4} {index : BitVec 12} (arm : Bool)
    (h : ∀ c : Fin 8, c.val = ring.toNat → p.engine.state.alive = false ∨ (p.cring c).present = false
      ∨ (p.cring c).size ≤ index.toNat
      ∨ inSpan (p.cring c).size (p.cring c).consumer (p.cring c).producer index.toNat = false) :
    p.complete ring index arm = p.dropNotify := by
  simp only [Part.complete]
  split
  · next c hc =>
    refine if_neg fun ⟨halive, hpresent, hindex, hspan⟩ => ?_
    rcases h c (ringField_eq_some hc) with hdead | habsent | hsize | hout
    · simp [halive] at hdead
    · simp [hpresent] at habsent
    · omega
    · simp [hspan] at hout
  · rfl

theorem Part.notice_eq_dropNotify {index : BitVec 12} (arm : Bool)
    (h : p.engine.state.alive = false ∨ p.notices.ring.present = false ∨ p.notices.ring.size ≤ index.toNat
      ∨ inSpan p.notices.ring.size p.notices.ring.consumer p.notices.ring.producer index.toNat = false) :
    p.notice index arm = p.dropNotify := by
  refine if_neg fun ⟨halive, hpresent, hindex, hspan⟩ => ?_
  rcases h with hdead | habsent | hsize | hout
  · simp [halive] at hdead
  · simp [hpresent] at habsent
  · omega
  · simp [hspan] at hout

theorem Part.adminSubmit_eq_dropNotify {index : BitVec 12}
    (h : p.engine.state.alive = false ∨ p.engine.areaSize ≤ index.toNat) :
    p.adminSubmit index = p.dropNotify := by
  refine if_neg fun ⟨halive, hindex⟩ => ?_
  rcases h with hdead | hsize
  · simp [halive] at hdead
  · omega

theorem Part.adminComplete_eq_dropNotify {index : BitVec 12} (arm : Bool)
    (h : p.engine.state.alive = false ∨ p.engine.areaSize ≤ index.toNat ∨ inSpan p.engine.areaSize
      p.compl.adminRing.consumer p.compl.adminRing.producer index.toNat = false) :
    p.adminComplete index arm = p.dropNotify := by
  refine if_neg fun ⟨halive, hindex, hspan⟩ => ?_
  rcases h with hdead | hsize | hout
  · simp [halive] at hdead
  · omega
  · simp [hspan] at hout

theorem inSpan_eq_false {size a b x : Nat} (h : distance size a b < distance size a x) :
    inSpan size a b x = false := by
  simpa [inSpan] using h

/-- Settles O18, check by check. -/
theorem droppedNotifyOnlySetsTheFlag : Obligations.DroppedNotifyOnlySetsTheFlag := by
  intro s ring index arm word d hd
  have hdrop : d = { s with part := s.part.dropNotify } := hd
  subst hdrop
  refine ⟨exec_of_effect rfl, fun hdead => ?_, fun hlarge => ?_, fun r hr hbad => ?_, fun c hc hbad => ?_, fun hbad => ?_,
    fun hsize => ?_, fun hout => ?_⟩
  · have hnot : s.part.engine.state.alive = false := by rcases hdead with h | h <;> rw [h] <;> rfl
    exact ⟨exec_of_effect (Part.submit_eq_dropNotify fun _ _ => .inl hnot),
      exec_of_effect (Part.complete_eq_dropNotify arm fun _ _ => .inl hnot), exec_of_effect (Part.notice_eq_dropNotify arm (.inl hnot)),
      exec_of_effect (Part.adminSubmit_eq_dropNotify (.inl hnot)), exec_of_effect (Part.adminComplete_eq_dropNotify arm (.inl hnot))⟩
  · exact ⟨exec_of_effect (Part.submit_eq_dropNotify fun r hr => by omega),
      exec_of_effect (Part.complete_eq_dropNotify arm fun c hc => by omega)⟩
  · refine exec_of_effect (Part.submit_eq_dropNotify fun x hx => ?_)
    rw [Fin.ext (hx.trans hr.symm)]
    exact .inr hbad
  · refine exec_of_effect (Part.complete_eq_dropNotify arm fun x hx => ?_)
    rw [Fin.ext (hx.trans hc.symm)]
    exact .inr (hbad.imp_right fun h => h.imp_right inSpan_eq_false)
  · exact exec_of_effect (Part.notice_eq_dropNotify arm (.inr (hbad.imp_right fun h => h.imp_right inSpan_eq_false)))
  · exact ⟨exec_of_effect (Part.adminSubmit_eq_dropNotify (.inr hsize)),
      exec_of_effect (Part.adminComplete_eq_dropNotify arm (.inr (.inl hsize)))⟩
  · exact exec_of_effect (Part.adminComplete_eq_dropNotify arm (.inr (.inr (inSpan_eq_false hout))))

end Sys2Proof.Machine
end

section
/-! The arbiter's choice (R169, R170) and the messages of the interrupt vectors (R171). -/

-- One declaration at a time: every further thread counts against the memory the check allows.
set_option Elab.async false

namespace Sys2Proof.Machine

variable {p q : Part}

/-! ### The arbiter -/

/-- The source table of R169. -/
def Source.table : List Source := [.ringFetch, .administration, .master, .posting, .adminPosting, .notices]

/-- The sources in cyclic order, from the one after `x`. -/
def Source.cycle (x : Source) : List Source :=
  Source.table.drop (x.place.val + 1) ++ Source.table.take (x.place.val + 1)

theorem Part.nextSource_eq (p : Part) : p.nextSource = p.host.lastServed.cycle.find? fun s => p.asks s := rfl

theorem Source.cycle_length (x : Source) : x.cycle.length = 6 := by cases x <;> rfl

theorem Source.cycle_place (x : Source) {k : Nat} (hk : k < 6) :
    (x.cycle[k]'(by rw [x.cycle_length]; exact hk)).place.val = (x.place.val + 1 + k) % 6 := by
  cases x <;> interval_cases k <;> rfl

theorem Part.asks_eq_true {s : Source} :
    p.asks s = true ↔ (p.request s).isSome = true ∨ (s = .master ∧ p.host.abandoned ≠ []) := by
  simp [Part.asks]

/-- The first source in cyclic order that asks is the next one. -/
theorem Part.nextSource_of_first {s : Source} {k : Nat} (hk : k < 6)
    (hplace : s.place.val = (p.host.lastServed.place.val + 1 + k) % 6)
    (hbefore : ∀ (x : Source) (j : Nat), j < k → x.place.val = (p.host.lastServed.place.val + 1 + j) % 6 →
      p.asks x = false) (hasks : p.asks s = true) : p.nextSource = some s := by
  have hlength := p.host.lastServed.cycle_length
  rw [Part.nextSource_eq, List.find?_eq_some_iff_getElem]
  refine ⟨hasks, k, by omega, ?_, fun j hj => ?_⟩
  · exact Source.place_inj.1 (Fin.ext ((Source.cycle_place _ hk).trans hplace.symm))
  · simp [hbefore _ j hj (Source.cycle_place _ (by omega))]

theorem Part.issue_of_next {n : Source × Access × Bool} (h : p.nextAccess = some n) :
    p.issue = (p.takeAccess n.1 n.2.1 n.2.2).emit n.2.1.output := by
  simp [Part.issue, h]

theorem Part.nextAccess_of_source {s : Source} {a : Access} (hworks : p.engine.state.working = true)
    (hfree : p.host.outstanding = none) (hnext : p.nextSource = some s)
    (ha : (p.request s = some a ∧ (s = .master → p.host.abandoned = []))
      ∨ (s = .master ∧ ∃ l, p.host.abandoned = a :: l)) :
    p.nextAccess = some (s, a, s == .master && !p.host.abandoned.isEmpty) := by
  have hmay : p.mayIssue = true := by simp [Part.mayIssue, hworks, hfree]
  rw [Part.nextAccess, if_pos hmay, hnext]
  rcases ha with ⟨hrequest, habandoned⟩ | ⟨rfl, l, hl⟩
  · cases s <;> simp_all
  · simp [hl]

theorem Part.takeAccess_request (p : Part) (s x : Source) (a : Access) :
    (p.takeAccess s a false).request x = if x = s then none else p.request x := by
  change (tabUpdate p.host.waiting s.place fun _ => none).get x.place = _
  rw [tabUpdate_get]
  by_cases hx : x = s
  · simp [hx]
  · rw [if_neg hx, if_neg fun h => hx (Source.place_inj.1 h), Part.request]

theorem Part.issue_of_no_next (h : p.nextAccess = none) : p.issue = p := by
  simp [Part.issue, h]

/-- Settles O19, by the first source in cyclic order that asks. -/
theorem arbiterServesSourcesInCyclicOrder : Obligations.ArbiterServesSourcesInCyclicOrder := by
  constructor
  · intro s q a k hworks hfree hk hplace hbefore ha
    have hasks : s.part.asks q = true := by
      rw [Part.asks_eq_true]
      rcases ha with ⟨hrequest, -⟩ | ⟨rfl, l, hl⟩
      · simp [hrequest]
      · simp [hl]
    have hnext := Part.nextAccess_of_source hworks hfree (Part.nextSource_of_first hk hplace (fun x j hj hx => by
      obtain ⟨hnone, habandoned⟩ := hbefore x j hj hx
      rw [← Bool.not_eq_true, Part.asks_eq_true]
      simp only [hnone, Option.isSome_none, Bool.false_eq_true, false_or, not_and, not_not]
      exact habandoned) hasks) ha
    refine ⟨_, exec_of_effect (Part.issue_of_next hnext), rfl, rfl, fun hm hstale => ?_, fun hfresh => ?_,
      fun x hx => ?_, ?_, rfl, ?_⟩
    · have hs : (q == .master && !s.part.host.abandoned.isEmpty) = true := by simpa [hm] using hstale
      rw [hs]
      exact ⟨rfl, rfl⟩
    · have hs : (q == .master && !s.part.host.abandoned.isEmpty) = false := by
        rcases hfresh with hne | hnil <;> simp [*]
      rw [hs]
      exact ⟨by simp [Part.takeAccess_request], rfl⟩
    · cases hs : q == .master && !s.part.host.abandoned.isEmpty
      · simp [Part.takeAccess_request, hx]
      · rfl
    · cases a <;> rfl
    · change s.part.Keeps [.host, .out] ((s.part.takeAccess _ _ _).emit _)
      simp
  · intro s hno
    refine exec_of_effect (Part.issue_of_no_next ?_)
    unfold Part.nextAccess
    rcases hno with hidle | hout | ⟨hnone, hempty⟩
    · simp [Part.mayIssue, hidle]
    · simp [Part.mayIssue, Option.isNone_eq_false_iff.2 hout]
    · have hnext : s.part.nextSource = none := by
        rw [Part.nextSource_eq, List.find?_eq_none]
        simp [Part.asks, hnone, hempty]
      simp [hnext]

/-! ### Interrupt messages -/

/-- A vector's message can be sent: messages are enabled and the vector is not masked. -/
theorem Part.signal_of_open {v : Fin 16} (henabled : p.host.messagesEnabled = true)
    (hmask : p.host.vectorMasked.get v = false) : p.signal v = { p with out := p.out ++ [.message v] } := by
  rw [Part.signal, if_pos (by simp [henabled, hmask])]
  rfl

theorem Part.signal_of_held {v : Fin 16}
    (h : p.host.messagesEnabled = false ∨ p.host.vectorMasked.get v = true) :
    p.signal v = p.onHost fun x => { x with vectorPending := tabUpdate x.vectorPending v fun _ => true } := by
  rw [Part.signal, if_neg (by rcases h with h | h <;> simp [h])]

theorem tabUpdate_true_get {n : Nat} (t : Vector Bool n) (v w : Fin n) :
    (tabUpdate t v fun _ => true).get w = (t.get w || w == v) := by
  rw [tabUpdate_get]
  by_cases h : w = v <;> simp [h]

theorem tabUpdate_false_get {n : Nat} (t : Vector Bool n) (v w : Fin n) :
    (tabUpdate t v fun _ => false).get w = (t.get w && w != v) := by
  rw [tabUpdate_get]
  by_cases h : w = v <;> simp [h]

/-- A pending message that may go is sent, and the masks stay. -/
theorem Part.sendPending_masks (p : Part) (v : Fin 16) :
    (p.sendPending v).host.messagesEnabled = p.host.messagesEnabled
      ∧ (p.sendPending v).host.vectorMasked = p.host.vectorMasked := by
  unfold Part.sendPending
  split <;> exact ⟨rfl, rfl⟩

theorem Part.sendPending_out (p : Part) (v : Fin 16) : (p.sendPending v).out = p.out ++
    if p.host.vectorPending.get v && p.host.messagesEnabled && !p.host.vectorMasked.get v then [.message v] else [] := by
  unfold Part.sendPending
  split
  · rfl
  · exact (List.append_nil _).symm

theorem Part.sendPending_pending (p : Part) (v w : Fin 16) : (p.sendPending v).host.vectorPending.get w =
    (p.host.vectorPending.get w && !(w == v && p.host.messagesEnabled && !p.host.vectorMasked.get w)) := by
  unfold Part.sendPending
  split
  · next hsent =>
    change (tabUpdate p.host.vectorPending v fun _ => false).get w = _
    rw [tabUpdate_false_get]
    by_cases hw : w = v
    · simp_all
    · simp [bne, beq_eq_false_iff_ne.2 hw]
  · next hkept =>
    by_cases hw : w = v
    · subst hw
      cases hp : p.host.vectorPending.get w
      · rfl
      · cases he : p.host.messagesEnabled <;> simp_all
    · simp [beq_eq_false_iff_ne.2 hw]

/-- The vectors of a list without repetition, each asked once whether its message may go. -/
theorem Part.foldl_sendPending {l : List (Fin 16)} (hl : l.Nodup) (p : Part)
    (henabled : p.host.messagesEnabled = true) :
    (l.foldl Part.sendPending p).host.messagesEnabled = true
      ∧ (l.foldl Part.sendPending p).host.vectorMasked = p.host.vectorMasked
      ∧ (∀ w, (l.foldl Part.sendPending p).host.vectorPending.get w =
        (p.host.vectorPending.get w && !(l.contains w && !p.host.vectorMasked.get w)))
      ∧ (l.foldl Part.sendPending p).out = p.out ++ (l.filter fun w =>
        p.host.vectorPending.get w && !p.host.vectorMasked.get w).map Output.message := by
  induction l generalizing p with
  | nil => simp [henabled]
  | cons v l ih =>
    obtain ⟨hv, hl⟩ := List.nodup_cons.1 hl
    obtain ⟨henabled', hmasked'⟩ := p.sendPending_masks v
    obtain ⟨he, hm, hp, ho⟩ := ih hl (p.sendPending v) (henabled'.trans henabled)
    refine ⟨he, hm.trans hmasked', fun w => ?_, ?_⟩
    · rw [List.foldl_cons, hp, p.sendPending_pending, hmasked', henabled]
      by_cases hw : w = v
      · subst hw
        cases p.host.vectorPending.get w <;> cases p.host.vectorMasked.get w <;> simp
      · simp [hw, beq_eq_false_iff_ne.2 hw]
    · have hrest : (l.filter fun w =>
          (p.sendPending v).host.vectorPending.get w && !(p.sendPending v).host.vectorMasked.get w)
          = l.filter fun w => p.host.vectorPending.get w && !p.host.vectorMasked.get w :=
        List.filter_congr fun w hw => by
          have hne : w ≠ v := fun he => hv (he ▸ hw)
          simp [p.sendPending_pending, hmasked', beq_eq_false_iff_ne.2 hne]
      rw [List.foldl_cons, ho, hrest, p.sendPending_out, henabled, List.filter_cons, List.append_assoc]
      cases p.host.vectorPending.get v <;> cases p.host.vectorMasked.get v <;> rfl

/-- Settles O20, vector by vector. -/
theorem vectorMasksHoldMessagesBack : Obligations.VectorMasksHoldMessagesBack := by
  refine ⟨fun p v => ⟨Part.signal_of_open, fun hheld => ?_⟩, fun s v => ?_, fun s => rfl, fun s v => ?_, fun s => ?_⟩
  · rw [Part.signal_of_held hheld]
    exact ⟨rfl, fun w => tabUpdate_true_get _ _ _⟩
  · refine ⟨_, exec_of_effect rfl, fun w => tabUpdate_true_get _ _ _, rfl, onlyChanges_iff.2 ⟨rfl, ?_⟩⟩
    exact s.part.mask_keeps _
  · set r := s.part.onHost fun h => { h with vectorMasked := tabUpdate h.vectorMasked v fun _ => false } with hr
    have hopen : r.host.vectorMasked.get v = false := by simp [hr]
    obtain ⟨-, hmasks⟩ := r.sendPending_masks v
    refine ⟨_, exec_of_effect rfl, fun w => ?_, fun henabled hpending => ⟨?_, fun w => ?_⟩, fun hheld => ?_,
      onlyChanges_iff.2 ⟨rfl, s.part.unmask_keeps _⟩⟩
    · change (r.sendPending v).host.vectorMasked.get w = _
      rw [hmasks]
      exact tabUpdate_false_get _ _ _
    · change (r.sendPending v).out = _
      rw [r.sendPending_out, if_pos (by simp [hr, henabled, hpending])]
      rfl
    · change (r.sendPending v).host.vectorPending.get w = _
      rw [r.sendPending_pending]
      by_cases hw : w = v
      · subst hw
        simp [hr, henabled]
      · simp [hr, bne, beq_eq_false_iff_ne.2 hw]
    · have hsame : r.sendPending v = r := if_neg (by rcases hheld with h | h <;> simp [hr, h])
      change (r.sendPending v).out = _ ∧ (r.sendPending v).host.vectorPending = _
      rw [hsame]
      exact ⟨rfl, rfl⟩
  · have hunmask : s.part.unmask .messages = (List.finRange 16).foldl Part.sendPending
        (s.part.onHost fun h => { h with messagesEnabled := true }) := rfl
    obtain ⟨henabled, hmasked, hpending, hout⟩ := Part.foldl_sendPending (List.nodup_finRange 16)
      (s.part.onHost fun h => { h with messagesEnabled := true }) rfl
    rw [← hunmask] at henabled hmasked hpending hout
    have hkeeps : s.part.Keeps [.host, .out] (s.part.unmask .messages) := s.part.unmask_keeps .messages
    have heffect : effect (.vectorUnmask .messages) s.part = s.part.unmask .messages := rfl
    generalize s.part.unmask .messages = q at *
    refine ⟨_, exec_of_effect heffect, henabled, hmasked, fun w => (hpending w).trans ?_, hout,
      onlyChanges_iff.2 ⟨rfl, hkeeps⟩⟩
    simp

end Sys2Proof.Machine
end

section
/-! What follows at the same event (R93, R97, R98, R101, R103, R20, R121, R128, R139, R148), where only some of
it is due: the reaction's equation for a part that the port sees as it saw a settled one, and for a part of
which only the port has a move to make. -/

-- One declaration at a time: every further thread counts against the memory the check allows.
set_option Elab.async false

namespace Sys2Proof.Machine

variable {p q : Part}

/-- `q` gives the port no move and no LVL that `p` did not give it. -/
structure Part.SameBus (p q : Part) : Prop where
  moves : p.SameMoves q
  req : q.port.req = p.port.req
  lvl : q.port.lvl = p.port.lvl

theorem Part.Keeps.sameBus (h : p.Keeps [.host, .admin, .notices, .compl, .stats, .out] q) : p.SameBus q :=
  ⟨h.sameMoves, by rw [h.port], by rw [h.port]⟩

theorem Part.SameDue.sameBus (h : p.SameDue q) : p.SameBus q := ⟨h.moves, h.req, h.lvl⟩

/-- Beside the port's moves and LVL nothing is due in `p`. -/
structure Part.NothingDue (p : Part) : Prop where
  capture : ¬p.captureDue
  posting : ¬p.postingDue
  adminPosting : ¬p.adminPostingDue
  notice : ¬(p.engine.state = .running ∧ p.notices.Due)
  command : ¬p.commandDue

theorem Settled.nothingDue (h : Settled p) : p.NothingDue :=
  have ⟨_, _, hcapture, hposting, hadmin, hnotice, hcommand⟩ := settled_iff.1 h
  ⟨hcapture, hposting, hadmin, hnotice, hcommand⟩

theorem Settled.moved (h : Settled p) (hq : p.SameBus q) : q.movePort.driveLevel = q := by
  obtain ⟨hport, hlevel, -⟩ := settled_iff.1 h
  rw [Part.movePort_eq_self_iff.2 (hq.moves.portStill hport), Part.driveLevel_eq_self_iff, hq.lvl, hq.req,
    Part.requestLevel_congr hq.moves.view]
  exact hlevel

/-- A part that differs from a settled one off the backplane alone has only its asks to make. -/
theorem Settled.react_eq (h : Settled p) (hq : p.SameBus q) (hcapture : ¬q.captureDue) (hposting : ¬q.postingDue)
    (hadmin : ¬q.adminPostingDue) : q.react = q.askNotice.askCommand := by
  rw [Part.react, h.moved hq, Part.captureFlush_eq_self_iff.2 hcapture, Part.askPosting_eq_self_iff.2 hposting,
    Part.askAdminPosting_eq_self_iff.2 hadmin]

theorem Part.NothingDue.settled (hdue : q.NothingDue) (h : Settled p) (hq : p.SameBus q) : Settled q := by
  obtain ⟨hcapture, hposting, hadmin, hnotice, hcommand⟩ := hdue
  obtain ⟨hport, hlevel, -⟩ := settled_iff.1 h
  refine settled_iff.2 ⟨hq.moves.portStill hport, ?_, hcapture, hposting, hadmin, hnotice, hcommand⟩
  rw [hq.lvl, hq.req, Part.requestLevel_congr hq.moves.view]
  exact hlevel

/-- The asks depend on none of these blocks. -/
theorem Part.NothingDue.of_keeps (h : p.NothingDue) (hq : p.Keeps [.sched, .windows, .master, .port, .stats, .out] q) :
    q.NothingDue := by
  obtain ⟨hcapture, hposting, hadmin, hnotice, hcommand⟩ := h
  have haccess (x : Source) : p.hasAccess x = true → q.hasAccess x = true := by
    rw [Part.hasAccess, Part.hasAccess, Part.request, Part.request, Part.outstandingFor, Part.outstandingFor, hq.host]
    exact id
  refine ⟨fun hd => hcapture (hd.of_keeps (hq.mono (by simp)) (by rw [hq.admin])),
    fun hd => hposting (hd.of_access (by rw [hq.engine]) hq.compl (haccess _)),
    fun hd => hadmin (hd.of_access (by rw [hq.engine]) hq.compl (haccess _)), ?_, ?_⟩
  · rw [hq.engine, hq.notices]
    exact hnotice
  · simp only [Part.commandDue, Part.adminFree, hq.engine, hq.admin, hq.compl]
    exact hcommand

/-- Where only the port has a move to make, the reaction is that move and LVL. -/
theorem Part.NothingDue.react_eq (h : p.NothingDue) : p.react = p.movePort.driveLevel := by
  obtain ⟨hcapture, hposting, hadmin, hnotice, hcommand⟩ := h.of_keeps (q := p.movePort.driveLevel) (by simp [Part.driveLevel])
  rw [Part.react, Part.captureFlush_eq_self_iff.2 hcapture, Part.askPosting_eq_self_iff.2 hposting,
    Part.askAdminPosting_eq_self_iff.2 hadmin, Part.askNotice_eq_self_iff.2 hnotice,
    Part.askCommand_eq_self_iff.2 hcommand]

theorem Settled.react_port (h : Settled p) (hq : p.SameBus q) : q.react.port = q.port := by
  rw [Part.react_port, h.moved hq]

/-- Without an end of a flush to take and a command to fetch, the Administration Unit stays as it is. -/
theorem Part.react_admin_of_not_due (hcapture : ¬p.captureDue) (hcommand : ¬p.commandDue) :
    p.react.admin = p.admin := by
  have hmoved : ¬p.movePort.driveLevel.captureDue := fun hd => hcapture (hd.of_keeps (by simp [Part.driveLevel]) (by simp))
  have hstill : ¬p.movePort.driveLevel.askPosting.askAdminPosting.askNotice.commandDue := by
    simpa [Part.commandDue, Part.adminFree] using hcommand
  rw [Part.react, Part.captureFlush_eq_self_iff.2 hmoved, Part.askCommand_eq_self_iff.2 hstill]
  simp

/-- Where the port has no move and nothing else is due, nothing follows. -/
theorem Part.NothingDue.react_of_still (h : p.NothingDue) (hport : p.portStill)
    (hlevel : p.port.lvl = if p.port.req then p.requestLevel.getD p.port.lvl else 3) : p.react = p := by
  rw [h.react_eq, Part.movePort_eq_self_iff.2 hport, Part.driveLevel_eq_self_iff.2 hlevel]

/-- What a change off the backplane and the admin rings brings at the same event stays with the asks. -/
theorem Settled.react_keeps {l : List Region} (h : Settled p) (hq : p.Keeps l q)
    (hl : l ⊆ [.host, .notices, .stats, .out] := by simp) (hasks : [.host, .notices] ⊆ l := by simp) :
    p.Keeps l q.react := by
  have hoff := hq.mono hl
  have hadmin : q.react.admin = p.admin := by
    rw [Part.react_admin_of_not_due (fun hd => h.nothingDue.capture (hd.of_keeps (hoff.mono (by simp)) (by rw [hoff.admin])))]
    · exact hoff.admin
    · simpa only [Part.commandDue, Part.adminFree, hoff.engine, hoff.admin, hoff.compl] using h.nothingDue.command
  have hport : q.react.port = p.port := (h.react_port (hoff.mono (by simp)).sameBus).trans hoff.port
  have hreact : p.Keeps (.admin :: .port :: l) q.react :=
    (Part.keeps_react (by simpa using hasks)).2 (hq.mono (by simp))
  intro b hb
  by_cases ha : b = .admin
  · exact ha ▸ hadmin
  by_cases hp : b = .port
  · exact hp ▸ hport
  exact hreact b (by simp [ha, hp, hb])

end Sys2Proof.Machine
end

section
/-! Engine control (R172, R173): ENABLE from OFF, QUIESCE, and when QUIESCED is reached. -/

-- One declaration at a time: every further thread counts against the memory the check allows.
set_option Elab.async false

namespace Sys2Proof.Machine

variable {p q : Part}

/-! ### ENABLE -/

theorem pageAligned_adminBase (e : Engine) : pageAligned e.adminBase = (e.adminBaseLo.extractLsb' 0 12 == 0#12) := by
  have hlow : (e.adminBaseHi ++ e.adminBaseLo).extractLsb' 0 12 = e.adminBaseLo.extractLsb' 0 12 := by
    ext i hi
    simp only [BitVec.getElem_extractLsb', BitVec.getLsbD_append]
    rw [if_pos (by omega)]
  rw [pageAligned, Engine.adminBase, hlow]

theorem Engine.adminLegal_iff (e : Engine) : e.adminLegal = true ↔
    isPowerOfTwo 8 256 e.adminSize.toNat = true ∧ e.adminBaseLo.extractLsb' 0 12 = 0#12 := by
  rw [Engine.adminLegal, pageAligned_adminBase, Bool.and_eq_true, beq_iff_eq]

/-- Settles O10, state by state. -/
theorem enableFromOff : Obligations.EnableFromOff := by
  refine ⟨fun s hstate => exec_of_effect ?_, fun s hoff => ⟨fun hsize hbase => ?_, fun hbad => exec_of_effect ?_⟩⟩
  · rcases hstate with h | h | h <;> simp [effect, Part.enable, h]
  · have hlegal : s.part.engine.adminLegal = true := s.part.engine.adminLegal_iff.2 ⟨hsize, hbase⟩
    have henabled : effect .enable s.part = s.part.enableFromOff.react := by
      simp [effect, Part.enable, hoff, hlegal]
    have hadmin : s.part.enableFromOff.react.admin = s.part.enableFromOff.admin :=
      Part.react_admin_of_not_due (fun ⟨f, hf, _⟩ => by cases hf) (fun ⟨_, _, hwaits, _⟩ => hwaits rfl)
    refine ⟨_, exec_of_effect henabled, by simp; rfl, hadmin, by simp; rfl, onlyChanges_iff.2 ⟨rfl, ?_⟩⟩
    simp [Part.enableFromOff]
  · have hillegal : ¬s.part.engine.adminLegal = true := fun h => hbad (s.part.engine.adminLegal_iff.1 h)
    simp [effect, Part.enable, hoff, hillegal, Part.onEngine]

/-! ### QUIESCE -/

theorem Source.exists_place (i : Fin 6) : ∃ s : Source, s.place = i := by
  fin_cases i
  exacts [⟨.ringFetch, rfl⟩, ⟨.administration, rfl⟩, ⟨.master, rfl⟩, ⟨.posting, rfl⟩, ⟨.adminPosting, rfl⟩,
    ⟨.notices, rfl⟩]

theorem HostPort.waiting_all_none {h : HostPort} :
    (h.waiting.toList.all fun a => a.isNone) = true ↔ ∀ s : Source, h.waiting.get s.place = none := by
  simp only [List.all_eq_true, Option.isNone_iff_eq_none]
  constructor
  · exact fun hall s => hall _ (by simp [Vector.get_eq_getElem])
  · intro hall a ha
    obtain ⟨i, hi, rfl⟩ := List.mem_iff_getElem.1 ha
    have hi6 : i < 6 := by simpa using hi
    obtain ⟨s, hs⟩ := Source.exists_place ⟨i, hi6⟩
    simpa [hs, Vector.get_eq_getElem] using hall s

/-- R173's condition, in words. -/
theorem Part.quiescent_iff : p.quiescent = true ↔ p.host.outstanding = none ∧ (∀ s, p.request s = none)
    ∧ p.host.abandoned = [] ∧ (p.master.state = .idle ∨ p.master.state = .closing) ∧ p.compl.fifo = []
    ∧ (∀ k, (p.slot k).state ≠ .posting) ∧ p.admin.state ≠ .fetching ∧ p.admin.state ≠ .writing
    ∧ ¬(p.admin.state = .completing ∧ p.compl.adminHeld.isSome = true) := by
  simp only [Part.quiescent, Bool.and_eq_true, HostPort.waiting_all_none]
  simp [Part.request, and_assoc, imp_iff_not_or]

theorem Part.quiescent_congr (hhost : q.host = p.host) (hmaster : q.master = p.master) (hcompl : q.compl = p.compl)
    (hsched : q.sched = p.sched) (hadmin : q.admin = p.admin) : q.quiescent = p.quiescent := by
  simp only [Part.quiescent, hhost, hmaster, hcompl, hadmin, Part.slot, hsched]

theorem Part.reachQuiesced_of (hstate : p.engine.state = .quiescing) : p.reachQuiesced =
    p.onEngine fun e => { e with state := if p.quiescent then .quiesced else .quiescing } := by
  unfold Part.reachQuiesced
  split
  · next h => simp [h.2]
  · next h =>
    have hno : ¬p.quiescent = true := fun hq => h ⟨hstate, hq⟩
    simp [hno, Part.onEngine, ← hstate]

/-- Once it is not RUNNING, an engine without a chain hold lets no port wait for slots (R97, R98, R101, R103). -/
theorem Part.movePort_of_still (h : p.engine.state ≠ .running) (hhold : p.port.chainHold = none) :
    (p.port.state = .requesting → p.movePort.port.state = .idle ∧ p.movePort.port.req = false)
      ∧ (p.port.state = .owner → p.master.state = .idle → p.movePort.port.state = .releasing)
      ∧ (p.port.state = .owner → p.master.state ≠ .idle → p.movePort.port.state = .owner)
      ∧ p.movePort.port.chainHold = none := by
  have hempty := Part.setStaysEmpty_of_still h
  have hcomes : p.noHoldComes = true := by rw [Part.noHoldComes_of_still h, hhold]; rfl
  refine ⟨fun hs => ?_, fun hs hm => ?_, fun hs hm => ?_, ?_⟩
  · simp [Part.movePort, hs, hempty, Port.dropRequest]
  · simp [Part.movePort, hs, hm, hempty, hcomes]
  · simp [Part.movePort, hs, hm]
  · unfold Part.movePort
    (repeat' split) <;> exact hhold

/-- A RUNNING engine that turns QUIESCING has nothing more due than it had. -/
theorem Settled.nothingDue_quiescing (h : Settled p) (hrunning : p.engine.state = .running) :
    (p.onEngine fun e => { e with state := .quiescing }).endHold.NothingDue := by
  obtain ⟨hcapture, hposting, hadmin, -, -⟩ := h.nothingDue
  refine ⟨fun ⟨f, hf, hstop, hheld, _⟩ => hcapture ⟨f, hf, hstop, hheld, by rw [hrunning]; rfl⟩,
    fun ⟨_, hdue⟩ => hposting ⟨by rw [hrunning]; rfl, hdue⟩, fun ⟨_, hdue⟩ => hadmin ⟨by rw [hrunning]; rfl, hdue⟩,
    fun ⟨hr, _⟩ => ?_, fun ⟨hr, _⟩ => ?_⟩ <;> cases hr

/-- Settles O12. -/
theorem quiesceStopsThePart : Obligations.QuiesceStopsThePart := by
  refine ⟨fun s hstate => exec_of_effect ?_, fun s hs hrunning => ?_, fun s => ⟨?_, ?_⟩⟩
  · simp only [effect, Part.quiesce]
    split
    · next h => exact absurd h hstate
    all_goals rfl
  · have hreact := (hs.nothingDue_quiescing hrunning).react_eq
    obtain ⟨hrequesting, howner, hbusy, hhold⟩ := Part.movePort_of_still
      (p := (s.part.onEngine fun e => { e with state := .quiescing }).endHold) (by simp) rfl
    generalize hq : (s.part.onEngine fun e => { e with state := .quiescing }).endHold = q at *
    have hengine : q.engine = { s.part.engine with state := .quiescing } := by rw [← hq]; rfl
    have hport : q.port = { s.part.port with chainHold := none } := by rw [← hq]; rfl
    have hkeeps : s.part.Keeps [.engine, .port] q.react := by
      rw [hreact]
      simp [← hq, Part.driveLevel]
    have hquiet : q.react.quiescent = s.part.quiescent :=
      Part.quiescent_congr hkeeps.host hkeeps.master hkeeps.compl hkeeps.sched hkeeps.admin
    have heffect : effect .quiesce s.part = q.react.onEngine fun e =>
        { e with state := if s.part.quiescent then .quiesced else .quiescing } := by
      rw [← hquiet, ← Part.reachQuiesced_of (by simp [hengine]), ← hq]
      simp only [effect, Part.quiesce, hrunning]
    refine ⟨_, exec_of_effect heffect, ?_, ?_, fun h => ?_, fun h hm => ?_, fun h hm => ?_, onlyChanges_iff.2 ⟨rfl, ?_⟩⟩
    · simp [hengine]
    · rw [Part.onEngine_port, Part.react_port_chainHold, hport]
    · rw [Part.onEngine_port, hreact]
      obtain ⟨hidle, hreq⟩ := hrequesting (by rw [hport]; exact h)
      simp [Part.driveLevel, hidle, hreq]
    · rw [Part.onEngine_port, hreact]
      exact howner (by rw [hport]; exact h) (by rw [← hq]; exact hm)
    · rw [Part.onEngine_port, hreact]
      exact hbusy (by rw [hport]; exact h) (by rw [← hq]; exact hm)
    · simpa using hkeeps
  · intro hstate hout hrequest habandoned hmaster hfifo hslots hfetching hwriting hheld
    have hquiet : s.part.quiescent = true := Part.quiescent_iff.2
      ⟨hout, hrequest, habandoned, hmaster, hfifo, hslots, hfetching, hwriting, hheld⟩
    refine exec_of_effect ?_
    simp [effect, Part.reachQuiesced_of hstate, hquiet, Part.onEngine]
  · intro hbusy
    refine exec_of_effect (if_neg fun ⟨hstate, hquiet⟩ => ?_)
    obtain ⟨hout, hrequest, habandoned, hmaster, hfifo, hslots, hfetching, hwriting, hheld⟩ := Part.quiescent_iff.1 hquiet
    rcases hbusy with h | h | ⟨q, h⟩ | h | h | h | h | h | ⟨k, h⟩ | h | h | h
    · exact h hstate
    · simp [hout] at h
    · simp [hrequest] at h
    · exact h habandoned
    iterate 3 simp [h] at hmaster
    · exact h hfifo
    · exact hslots k h
    · exact hfetching h
    · exact hwriting h
    · exact hheld h

end Sys2Proof.Machine
end

section
/-! Signals (R171) and the notifies that consume entries (R115, R123, R125, R127, R144, R147, R148, R167). -/

-- One declaration at a time: every further thread counts against the memory the check allows.
set_option Elab.async false

namespace Sys2Proof.Machine

variable {p q r : Part} {l l' : List (Fin 16)}

/-! ### Signals -/

/-- From `p` to `q` the signals `l` have been sent, in order, and the vectors' masks stay. -/
structure Part.Signals (p q : Part) (l : List (Fin 16)) : Prop where
  out : q.out = p.out ++ (l.filter fun v => !p.heldBack v).map Output.message
  pending : ∀ v, q.host.vectorPending.get v = (p.host.vectorPending.get v || (l.contains v && p.heldBack v))
  enabled : q.host.messagesEnabled = p.host.messagesEnabled
  masked : q.host.vectorMasked = p.host.vectorMasked

theorem Part.signals_nil (p : Part) : p.Signals p [] := ⟨by simp, by simp, rfl, rfl⟩

theorem Part.Signals.signalled {s : State} (h : s.part.Signals q l) : Signalled s { s with part := q } l :=
  ⟨h.out, h.pending⟩

theorem Part.Signals.heldBack (h : p.Signals q l) (v : Fin 16) : q.heldBack v = p.heldBack v := by
  rw [Part.heldBack, Part.heldBack, h.enabled, h.masked]

theorem Part.Signals.trans (h : p.Signals q l) (h' : q.Signals r l') : p.Signals r (l ++ l') := by
  refine ⟨?_, fun v => ?_, h'.enabled.trans h.enabled, h'.masked.trans h.masked⟩
  · rw [h'.out, h.out]
    simp [h.heldBack]
  · rw [h'.pending, h.pending, h.heldBack]
    cases p.heldBack v <;> simp [Bool.or_assoc]

/-- Whatever changes neither the outputs nor the vectors sends nothing. -/
theorem Part.Signals.same (h : p.Signals q l) (hout : r.out = q.out)
    (hpending : r.host.vectorPending = q.host.vectorPending)
    (henabled : r.host.messagesEnabled = q.host.messagesEnabled)
    (hmasked : r.host.vectorMasked = q.host.vectorMasked) : p.Signals r l :=
  ⟨hout.trans h.out, fun v => hpending ▸ h.pending v, henabled.trans h.enabled, hmasked.trans h.masked⟩

theorem Part.Signals.react (h : p.Signals q l) : p.Signals q.react l :=
  h.same (by simp) (by simp) (by simp) (by simp)

/-- Signals sent after a change that left the outputs and the Host Port. -/
theorem Part.Signals.since (h : q.Signals r l) (hhost : q.host = p.host) (hout : q.out = p.out) : p.Signals r l :=
  (p.signals_nil.same hout (by rw [hhost]) (by rw [hhost]) (by rw [hhost])).trans h

theorem Part.signals_signal (p : Part) (v : Fin 16) : p.Signals (p.signal v) [v] := by
  by_cases hopen : p.host.messagesEnabled = true ∧ p.host.vectorMasked.get v = false
  · have hheld : p.heldBack v = false := by simp [Part.heldBack, hopen]
    rw [Part.signal_of_open hopen.1 hopen.2]
    refine ⟨by simp [hheld], fun w => ?_, rfl, rfl⟩
    by_cases hw : w = v <;> simp [hw, hheld]
  · have hheld : p.heldBack v = true := by
      by_contra hno
      simp only [Part.heldBack, Bool.or_eq_true, Bool.not_eq_true', not_or, Bool.not_eq_false, Bool.not_eq_true] at hno
      exact hopen hno
    rw [Part.signal_of_held (by simpa [Part.heldBack] using hheld)]
    refine ⟨by simp [hheld], fun w => ?_, rfl, rfl⟩
    rw [Part.onHost_host, tabUpdate_true_get]
    by_cases hw : w = v <;> simp [hw, hheld]

theorem Part.signal_modCring (p : Part) (v : Fin 16) (c : Fin 8) (f : CompletionRing → CompletionRing) :
    (p.modCring c f).signal v = (p.signal v).modCring c f := by
  unfold Part.signal
  rw [Part.modCring_host]
  split <;> rfl

theorem Part.signal_onCompl (p : Part) (v : Fin 16) (f : CompletionUnit → CompletionUnit) :
    (p.onCompl f).signal v = (p.signal v).onCompl f := by
  unfold Part.signal
  rw [Part.onCompl_host]
  split <;> rfl

/-! ### COMPLETE -/

/-- `q` is `p` with entries of completion rings consumed, taken or armed, and a waiting flush perhaps granted
one of them. -/
structure Part.Consumes (p q : Part) : Prop where
  keeps : p.Keeps [.host, .admin, .compl, .out] q
  fifo : q.compl.fifo = p.compl.fifo
  adminHeld : q.compl.adminHeld = p.compl.adminHeld
  adminRing : q.compl.adminRing = p.compl.adminRing
  access : ∀ x, q.hasAccess x = p.hasAccess x
  admin : q.admin = p.admin ∨ ∃ f, p.admin.state = .waiting (.flushRing f)
    ∧ q.admin = { p.admin with state := .waiting (.flushRing { f with granted := true }) }

/-- Consumed entries make nothing due that was not. -/
theorem Part.Consumes.settled (h : p.Consumes q) (hp : Settled p) : Settled q := by
  obtain ⟨hcapture, hposting, hadmin, hnotice, hcommand⟩ := hp.nothingDue
  have hengine := h.keeps.engine
  refine Part.NothingDue.settled ⟨?_, ?_, ?_, ?_, ?_⟩ hp (h.keeps.mono (by simp)).sameBus
  · rintro ⟨f, hf, hstop, hheld, halive⟩
    rw [h.keeps.ring] at hheld
    rcases h.admin with hsame | ⟨g, hg, hgranted⟩
    · exact hcapture ⟨f, hsame ▸ hf, hstop, hheld, hengine ▸ halive⟩
    · rw [hgranted] at hf
      cases hf
      exact hcapture ⟨g, hg, hstop, hheld, hengine ▸ halive⟩
  · rintro ⟨hworks, haccess, hfifo⟩
    exact hposting ⟨hengine ▸ hworks, h.access _ ▸ haccess, h.fifo ▸ hfifo⟩
  · rintro ⟨hworks, haccess, hheld⟩
    exact hadmin ⟨hengine ▸ hworks, h.access _ ▸ haccess, h.adminHeld ▸ hheld⟩
  · rw [hengine, h.keeps.notices]
    exact hnotice
  · rintro ⟨hrunning, hidle, hwaits, hfree⟩
    rcases h.admin with hsame | ⟨g, hg, hgranted⟩
    · refine hcommand ⟨hengine ▸ hrunning, hsame ▸ hidle, hsame ▸ hwaits, ?_⟩
      rwa [Part.adminFree, hengine, h.adminRing] at hfree
    · rw [hgranted] at hidle
      cases hidle

theorem CompletionRing.freeEntries_of_present {x : CompletionRing} (h : x.present = true) :
    x.freeEntries = x.size - 1 - distance x.size x.consumer x.producer - x.reserved := by
  simp [CompletionRing.freeEntries, CompletionRing.outstanding, h]

theorem tabUpdate_tabUpdate {α : Type} {n : Nat} (v : Vector α n) (i : Fin n) (f g : α → α) :
    tabUpdate (tabUpdate v i f) i g = tabUpdate v i fun x => g (f x) := by
  refine Vector.ext fun j hj => ?_
  have h : (tabUpdate (tabUpdate v i f) i g).get ⟨j, hj⟩ = (tabUpdate v i fun x => g (f x)).get ⟨j, hj⟩ := by
    simp only [tabUpdate_get]
    split <;> rfl
  exact h

theorem Part.modCring_modCring (p : Part) (c : Fin 8) (f g : CompletionRing → CompletionRing) :
    (p.modCring c f).modCring c g = p.modCring c fun x => g (f x) := by
  simp only [Part.modCring, Part.onCompl, tabUpdate_tabUpdate]

/-- What a COMPLETE leaves before its ARM: the index taken, and the entry a waiting flush is granted. -/
theorem Part.freed_consumer {c : Fin 8} {n granted : Nat} (hpresent : (p.cring c).present = true)
    (hcases : ((p.flushAsks c = none ∨ 0 < (p.cring c).freeEntries
          ∨ (p.cring c).size - 1 ≤ (p.cring c).reserved + distance (p.cring c).size n (p.cring c).producer)
        ∧ granted = 0 ∧ q = p)
      ∨ (∃ f, p.flushAsks c = some f ∧ (p.cring c).freeEntries = 0
        ∧ (p.cring c).reserved + distance (p.cring c).size n (p.cring c).producer < (p.cring c).size - 1
        ∧ granted = 1 ∧ q = { p with admin := { p.admin with
            state := .waiting (.flushRing { f with granted := true }) } })) :
    p.freed (p.modCring c fun x => { x with consumer := n }) c =
      q.modCring c fun x => { x with consumer := n, reserved := x.reserved + granted } := by
  have hasks : (p.modCring c fun x => { x with consumer := n }).flushAsks c = p.flushAsks c := rfl
  have hfree : ((p.modCring c fun x => { x with consumer := n }).cring c).freeEntries =
      (p.cring c).size - 1 - distance (p.cring c).size n (p.cring c).producer - (p.cring c).reserved := by
    rw [Part.modCring_cring, if_pos rfl, CompletionRing.freeEntries_of_present (by exact hpresent)]
  rcases hcases with ⟨hno, rfl, rfl⟩ | ⟨f, hf, hfull, hroom, rfl, rfl⟩
  · rcases hno with hnone | hpos
    · exact Part.freed_none (hasks.trans hnone)
    · refine if_neg fun ⟨hzero, hone⟩ => ?_
      rw [hfree] at hone
      omega
  · rw [Part.freed, if_pos ⟨hfull, by rw [hfree]; omega⟩, Part.grantFlush_some (hasks.trans hf),
      Part.reserve, Part.modCring_modCring]
    rfl

theorem Part.flushAsks_admin {c : Fin 8} {f : Flush} (h : p.flushAsks c = some f) :
    p.admin.state = .waiting (.flushRing f) := by
  unfold Part.flushAsks at h
  split at h
  · next g hg =>
    simp only at h
    split at h
    · cases h
      exact hg
    · cases h
  · cases h

/-- An entry of `c` taken, and the flush that waits for it perhaps granted. -/
theorem Part.consumes_modCring {c : Fin 8}
    (hq : q = p ∨ ∃ f, (p.flushAsks c = some f ∧ q = { p with admin := { p.admin with
      state := .waiting (.flushRing { f with granted := true }) } })) (g : CompletionRing → CompletionRing) :
    p.Consumes (q.modCring c g) := by
  rcases hq with rfl | ⟨f, hf, rfl⟩
  · exact ⟨by simp, rfl, rfl, rfl, fun _ => rfl, .inl rfl⟩
  · refine ⟨?_, rfl, rfl, rfl, fun _ => rfl, .inr ⟨f, Part.flushAsks_admin hf, rfl⟩⟩
    exact Part.Keeps.of_blocks fun b => by cases b <;> simp [Region.same]

theorem Part.Consumes.signal (h : p.Consumes q) (v : Fin 16) : p.Consumes (q.signal v) := by
  have hkeeps := q.signal_keeps v
  refine ⟨?_, by rw [hkeeps.compl, h.fifo], by rw [hkeeps.compl, h.adminHeld], by rw [hkeeps.compl, h.adminRing],
    fun x => ?_, by rw [hkeeps.admin]; exact h.admin⟩
  · exact h.keeps.trans (hkeeps.mono (by simp))
  · rw [← h.access x]
    unfold Part.signal
    split <;> rfl

theorem Part.armTest_of_empty {c : Fin 8} (h : (p.cring c).producer = (p.cring c).consumer) :
    p.armTest c = p.modCring c fun x => { x with armed := true } := if_pos h

theorem Part.armTest_of_unconsumed {c : Fin 8} (h : (p.cring c).producer ≠ (p.cring c).consumer) :
    p.armTest c = (p.modCring c fun x => { x with armed := false }).signal (p.cring c).vector := by
  rw [Part.signal_modCring]
  exact if_neg h

/-- Settles O15. -/
theorem completeConsumesAndArms : Obligations.CompleteConsumesAndArms := by
  intro s ring c index granted q hs halive hring hpresent hindex hspan hcases
  have hfreed := Part.freed_consumer hpresent hcases
  have heffect (arm : Bool) : effect (.complete ring index arm) s.part =
      (if arm then (q.modCring c fun x =>
          { x with consumer := index.toNat, reserved := x.reserved + granted }).armCring c
        else q.modCring c fun x => { x with consumer := index.toNat, reserved := x.reserved + granted }).react := by
    simp only [effect, Part.complete, ringField_of_val hring]
    rw [if_pos ⟨halive, hpresent, hindex, hspan⟩, hfreed]
  have hconsumes (g : CompletionRing → CompletionRing) : s.part.Consumes (q.modCring c g) := by
    rcases hcases with ⟨-, -, hq⟩ | ⟨f, hf, -, -, -, hq⟩
    · exact Part.consumes_modCring (.inl hq) g
    · exact Part.consumes_modCring (.inr ⟨f, hf, hq⟩) g
  have hengine : q.engine = s.part.engine := ((hconsumes id).keeps.engine)
  have hcring : q.cring c = s.part.cring c := by
    rcases hcases with ⟨-, -, rfl⟩ | ⟨f, hf, -, -, -, rfl⟩ <;> rfl
  set r := q.modCring c fun x => { x with consumer := index.toNat, reserved := x.reserved + granted } with hr
  have hrc : r.cring c = { q.cring c with
      consumer := index.toNat, reserved := (q.cring c).reserved + granted } := by
    rw [hr, Part.modCring_cring, if_pos rfl]
  refine ⟨exec_of_effect ?_, fun hrunning hempty => exec_of_effect ?_, fun hrunning hunconsumed => exec_of_effect ?_,
    fun hstill => exec_of_effect ?_⟩
  · rw [heffect, if_neg (by simp), ((hconsumes _).settled hs).react]
  · have harm : r.armCring c = q.modCring c fun x =>
        { x with consumer := index.toNat, reserved := x.reserved + granted, armed := true } := by
      rw [Part.armCring, if_pos (by rw [← hrunning, ← hengine]; rfl), Part.armTest_of_empty (by rw [hrc, hcring]; exact hempty),
        hr, Part.modCring_modCring]
    rw [heffect, if_pos rfl, harm, ((hconsumes _).settled hs).react]
  · have harm : r.armCring c = (q.modCring c fun x =>
        { x with consumer := index.toNat, reserved := x.reserved + granted, armed := false }).signal
          (s.part.cring c).vector := by
      rw [Part.armCring, if_pos (by rw [← hrunning, ← hengine]; rfl),
        Part.armTest_of_unconsumed (by rw [hrc, hcring]; exact hunconsumed), hr, Part.modCring_modCring, ← hr, hrc, hcring]
    rw [heffect, if_pos rfl, harm, (((hconsumes _).signal _).settled hs).react]
  · have harm : r.armCring c = q.modCring c fun x =>
        { x with consumer := index.toNat, reserved := x.reserved + granted, armPending := true } := by
      rw [Part.armCring, if_neg (by rw [show r.engine = s.part.engine from hengine]; exact hstill), hr, Part.modCring_modCring]
    rw [heffect, if_pos rfl, harm, ((hconsumes _).settled hs).react]

end Sys2Proof.Machine
end

section
/-! The notice ring's and the admin rings' notifies (R127, R144, R147, R148, R167). -/

-- One declaration at a time: every further thread counts against the memory the check allows.
set_option Elab.async false

namespace Sys2Proof.Machine

variable {p q : Part}

/-! ### NOTICE -/

theorem Part.signal_notices (p : Part) (v : Fin 16) : (p.signal v).notices = p.notices := (p.signal_keeps v).notices

theorem Part.noticeArmTest_notices (p : Part) : p.noticeArmTest.notices = { p.notices with
    ring := { p.notices.ring with
      normalArmed := decide (p.notices.ring.producer = p.notices.ring.consumer)
      urgentArmed := !p.notices.ring.urgentIn p.notices.ring.consumer p.notices.ring.producer } } := by
  simp only [Part.noticeArmTest]
  (repeat' split) <;> simp [Part.signal_notices]

theorem Part.signals_noticeArmTest (p : Part) : p.Signals p.noticeArmTest p.notices.ring.armSignals := by
  set n := p.notices.ring with hn
  have hnormal : p.Signals (if n.producer ≠ n.consumer then p.signal n.normalVector else p)
      (if n.producer ≠ n.consumer then [n.normalVector] else []) := by
    split
    · exact p.signals_signal _
    · exact p.signals_nil
  generalize hq : (if n.producer ≠ n.consumer then p.signal n.normalVector else p) = q at hnormal
  have hurgent : q.Signals (if n.urgentIn n.consumer n.producer
        && !(decide (n.producer ≠ n.consumer) && n.normalVector == n.urgentVector) then q.signal n.urgentVector else q)
      (if n.urgentIn n.consumer n.producer = true ∧ ¬(n.producer ≠ n.consumer ∧ n.normalVector = n.urgentVector)
        then [n.urgentVector] else []) := by
    by_cases h : n.urgentIn n.consumer n.producer = true
        ∧ ¬(n.producer ≠ n.consumer ∧ n.normalVector = n.urgentVector)
    · rw [if_pos h, if_pos (by simpa [imp_iff_not_or] using h)]
      exact q.signals_signal _
    · rw [if_neg h, if_neg (by simpa [imp_iff_not_or] using h)]
      exact q.signals_nil
  have hboth := hnormal.trans hurgent
  refine hboth.same ?_ ?_ ?_ ?_ <;> simp only [Part.noticeArmTest, ← hn, hq] <;> rfl

/-- Settles O16. -/
theorem noticeConsumesAndArms : Obligations.NoticeConsumesAndArms := by
  intro s ring index arm hs halive hpresent hindex hspan
  set q := s.part.onNotices fun u => { u with ring := u.ring.consume index.toNat } with hq
  have heffect : effect (.notice ring index arm) s.part = (if arm then q.armNotices else q).react := by
    simp only [effect, Part.notice]
    rw [if_pos ⟨halive, hpresent, hindex, hspan⟩]
  have hring : q.notices.ring = s.part.notices.ring.consume index.toNat := rfl
  have hkeeps : s.part.Keeps [.host, .notices, .out] (if arm then q.armNotices else q) := by
    split <;> simp [hq]
  have hframe := hs.react_keeps hkeeps
  cases arm with
  | false =>
    refine ⟨_, exec_of_effect heffect, ?_, ?_, ?_, fun _ => ?_, nofun, nofun, onlyChanges_iff.2 ⟨rfl, hframe⟩⟩
    · simp [hring, NoticeRing.consume]
    · simp [hring, NoticeRing.consume]
    · simp [hring, NoticeRing.consume]
    · simp [NoticeRing.consume, hq]
  | true =>
    by_cases hrunning : s.part.engine.state = .running
    · have harm : q.armNotices = q.noticeArmTest := if_pos hrunning
      rw [if_pos rfl, harm] at heffect hframe
      have hringAfter : q.noticeArmTest.react.notices.ring = { s.part.notices.ring.consume index.toNat with
          normalArmed := decide (s.part.notices.ring.producer = index.toNat)
          urgentArmed := !(s.part.notices.ring.consume index.toNat).urgentIn index.toNat
            s.part.notices.ring.producer } := by
        rw [Part.react_notices_ring, Part.noticeArmTest_notices]
        rfl
      have hsent : s.part.Signals q.noticeArmTest.react q.notices.ring.armSignals :=
        (q.signals_noticeArmTest.since (p := s.part) rfl rfl).react
      have hurgent : ∀ a b, q.noticeArmTest.react.notices.ring.urgentIn a b =
          (s.part.notices.ring.consume index.toNat).urgentIn a b := by
        rw [hringAfter]
        exact fun _ _ => rfl
      refine ⟨_, exec_of_effect heffect, congrArg NoticeRing.consumer hringAfter, (congrArg NoticeRing.producer hringAfter).trans rfl,
        congrArg NoticeRing.lastUrgent hringAfter, nofun, fun _ _ => ⟨congrArg NoticeRing.normalArmed hringAfter, ?_,
          (congrArg NoticeRing.armPending hringAfter).trans rfl, ?_⟩, fun _ hstill => absurd hrunning hstill,
        onlyChanges_iff.2 ⟨rfl, hframe⟩⟩
      · exact (congrArg NoticeRing.urgentArmed hringAfter).trans (congrArg not (hurgent _ _).symm)
      · dsimp only
        rw [hurgent]
        exact hsent.signalled
    · have harm : q.armNotices = q.onNotices fun u => { u with ring := { u.ring with armPending := true } } :=
        if_neg hrunning
      rw [if_pos rfl, harm] at heffect hframe
      refine ⟨_, exec_of_effect heffect, ?_, ?_, ?_, nofun, fun _ h => absurd h hrunning, fun _ _ => ?_,
        onlyChanges_iff.2 ⟨rfl, hframe⟩⟩
      iterate 3 simp [hring, NoticeRing.consume]
      simp [NoticeRing.consume, hq]

/-! ### ADMIN_SUBMIT and ADMIN_COMPLETE -/

theorem Part.askCommand_of_due (h : p.commandDue) : p.askCommand = (p.ask .administration
    (.read (p.engine.areaBase + BitVec.ofNat 64 (64 * p.admin.consumer)) 64)).onAdmin fun a =>
      { a with state := .fetching } := if_pos h

/-- Admin indices and signals moved: the command fetch is the one thing that may become due. -/
structure Part.AdminMoves (p q : Part) : Prop where
  keeps : p.Keeps [.host, .admin, .compl, .out] q
  state : q.admin.state = p.admin.state
  fifo : q.compl.fifo = p.compl.fifo
  adminHeld : q.compl.adminHeld = p.compl.adminHeld
  access : ∀ x, q.hasAccess x = p.hasAccess x

theorem Part.AdminMoves.react_eq (h : p.AdminMoves q) (hp : Settled p) : q.react = q.askCommand := by
  obtain ⟨hcapture, hposting, hadmin, hnotice, -⟩ := hp.nothingDue
  have hengine := h.keeps.engine
  have hstill : q.askNotice = q := by
    rw [Part.askNotice_eq_self_iff, hengine, h.keeps.notices]
    exact hnotice
  rw [hp.react_eq (h.keeps.mono (by simp)).sameBus (fun hd => hcapture (hd.of_keeps (h.keeps.mono (by simp)) h.state))
    (fun ⟨hworks, haccess, hfifo⟩ => hposting ⟨hengine ▸ hworks, h.access _ ▸ haccess, h.fifo ▸ hfifo⟩)
    fun ⟨hworks, haccess, hheld⟩ => hadmin ⟨hengine ▸ hworks, h.access _ ▸ haccess, h.adminHeld ▸ hheld⟩, hstill]

theorem Part.adminMoves_onAdmin (f : AdminUnit → AdminUnit) (h : (f p.admin).state = p.admin.state) :
    p.AdminMoves (p.onAdmin f) := ⟨by simp, h, rfl, rfl, fun _ => rfl⟩

theorem Part.adminMoves_onCompl (p : Part) (f : AdminRing → AdminRing) :
    p.AdminMoves (p.onCompl fun c => { c with adminRing := f c.adminRing }) :=
  ⟨by simp, rfl, rfl, rfl, fun _ => rfl⟩

theorem Part.AdminMoves.signal (h : p.AdminMoves q) (v : Fin 16) : p.AdminMoves (q.signal v) := by
  have hkeeps := q.signal_keeps v
  refine ⟨h.keeps.trans (hkeeps.mono (by simp)), by rw [hkeeps.admin, h.state], by rw [hkeeps.compl, h.fifo],
    by rw [hkeeps.compl, h.adminHeld], fun x => ?_⟩
  rw [← h.access x]
  unfold Part.signal
  split <;> rfl

theorem Part.adminFree_pos {p : Part} : 1 ≤ p.adminFree ↔
    distance p.engine.areaSize p.compl.adminRing.consumer p.compl.adminRing.producer + 1 < p.engine.areaSize := by
  unfold Part.adminFree
  omega

theorem Part.adminArmTest_of_empty (h : p.compl.adminRing.producer = p.compl.adminRing.consumer) :
    p.adminArmTest = p.onCompl fun c => { c with adminRing := { c.adminRing with armed := true } } := if_pos h

theorem Part.adminArmTest_of_unconsumed (h : p.compl.adminRing.producer ≠ p.compl.adminRing.consumer) :
    p.adminArmTest = (p.onCompl fun c => { c with adminRing := { c.adminRing with armed := false } }).signal 0 := by
  rw [Part.signal_onCompl]
  exact if_neg h

theorem Part.waiting_signal (p : Part) (v : Fin 16) : (p.signal v).host.waiting = p.host.waiting := by
  unfold Part.signal
  split <;> rfl

theorem Part.outstanding_signal (p : Part) (v : Fin 16) : (p.signal v).host.outstanding = p.host.outstanding := by
  unfold Part.signal
  split <;> rfl

/-- An ARM of the admin completion ring in RUNNING: one signal on vector 0 where an entry is unconsumed. -/
theorem Part.adminArmTest_spec (p : Part) :
    p.Signals p.adminArmTest (if p.compl.adminRing.producer ≠ p.compl.adminRing.consumer then [0] else [])
      ∧ p.adminArmTest.compl = { p.compl with adminRing := { p.compl.adminRing with
        armed := decide (p.compl.adminRing.producer = p.compl.adminRing.consumer) } }
      ∧ p.AdminMoves p.adminArmTest ∧ p.adminArmTest.host.waiting = p.host.waiting
      ∧ p.adminArmTest.host.outstanding = p.host.outstanding := by
  by_cases h : p.compl.adminRing.producer = p.compl.adminRing.consumer
  · rw [Part.adminArmTest_of_empty h, if_neg (not_not.2 h)]
    exact ⟨p.signals_nil.same rfl rfl rfl rfl, by simp [h],
      p.adminMoves_onCompl fun r => { r with armed := true }, rfl, rfl⟩
  · rw [Part.adminArmTest_of_unconsumed h, if_pos h]
    refine ⟨?_, by simp [h, (Part.signal_keeps _ _).compl],
      (p.adminMoves_onCompl fun r => { r with armed := false }).signal 0, Part.waiting_signal _ _,
      Part.outstanding_signal _ _⟩
    exact (Part.signals_signal _ 0).since rfl rfl

/-- The command fetch that an index moved, or an entry consumed, makes due is asked for (R148). -/
theorem Part.askCommand_spec (p : Part) :
    (p.commandDue → p.askCommand.admin = { p.admin with state := .fetching }
      ∧ p.askCommand.request .administration = some (.read
          (p.engine.areaBase + BitVec.ofNat 64 (64 * p.admin.consumer)) 64)
      ∧ ∀ x, x ≠ .administration → p.askCommand.request x = p.request x)
    ∧ (¬p.commandDue → p.askCommand = p) := by
  refine ⟨fun hdue => ?_, Part.askCommand_eq_self_iff.2⟩
  rw [Part.askCommand_of_due hdue]
  refine ⟨rfl, ?_, fun x hx => ?_⟩
  · rw [Part.onAdmin_request, Part.ask_request, if_pos rfl]
  · rw [Part.onAdmin_request, Part.ask_request, if_neg hx]

/-- Settles O17. -/
theorem adminNotifiesMoveIndicesAndFetch : Obligations.AdminNotifiesMoveIndicesAndFetch := by
  constructor
  · intro s ring index arm hs halive hindex
    set q := s.part.onAdmin fun a => { a with producer := index.toNat } with hq
    have heffect : effect (.adminSubmit ring index arm) s.part = q.askCommand := by
      simp only [effect, Part.adminSubmit]
      rw [if_pos ⟨halive, hindex⟩, (Part.adminMoves_onAdmin _ (by rfl)).react_eq hs]
    refine ⟨_, exec_of_effect heffect, ?_, ?_, onlyChanges_iff.2 ⟨rfl, by simp [hq]⟩, fun hrunning hidle hne hfree => ?_,
      fun hno => ?_⟩
    · simp [hq]
    · simp [hq]
    · obtain ⟨hadmin, hrequest, -⟩ := q.askCommand_spec.1 ⟨hrunning, hidle, hne, hfree⟩
      exact ⟨congrArg AdminUnit.state hadmin, hrequest⟩
    · have hnot : ¬q.commandDue := by
        rintro ⟨hrunning, hidle, hne, hfree⟩
        rcases hno with h | h | h | h
        · exact h hrunning
        · exact h hidle
        · exact hne h
        · rw [show q.adminFree = s.part.adminFree from rfl, h] at hfree
          omega
      dsimp only
      rw [Part.askCommand_eq_self_iff.2 hnot]
      exact ⟨rfl, rfl⟩
  · intro s ring index hs halive hindex hspan
    set q := s.part.onCompl fun c => { c with adminRing := { c.adminRing with consumer := index.toNat } } with hq
    have heffect (arm : Bool) : effect (.adminComplete ring index arm) s.part = (if arm then q.armAdmin else q).react := by
      simp only [effect, Part.adminComplete]
      rw [if_pos ⟨halive, hindex, hspan⟩]
    have hmoves : s.part.AdminMoves q := s.part.adminMoves_onCompl fun r => { r with consumer := index.toNat }
    refine ⟨fun arm harm => ?_, fun hstill => ?_⟩
    · set r := if arm then q.adminArmTest else q with hr
      have hr' : (if arm then q.armAdmin else q) = r := by
        rcases harm with rfl | hrunning
        · rfl
        · cases arm
          · rfl
          · exact if_pos hrunning
      obtain ⟨hsent, hcompl, hmoves', hwaiting, hout⟩ := q.adminArmTest_spec
      have hspec : s.part.Signals r (if arm = true ∧ s.part.compl.adminRing.producer ≠ index.toNat then [0] else [])
          ∧ r.compl = { s.part.compl with adminRing := { s.part.compl.adminRing with
            consumer := index.toNat
            armed := if arm then decide (s.part.compl.adminRing.producer = index.toNat)
              else s.part.compl.adminRing.armed } }
          ∧ s.part.AdminMoves r ∧ r.host.waiting = s.part.host.waiting
          ∧ r.host.outstanding = s.part.host.outstanding := by
        cases arm with
        | false => exact ⟨q.signals_nil.since rfl rfl, rfl, hmoves, rfl, rfl⟩
        | true =>
          refine ⟨?_, hcompl, ⟨hmoves.keeps.trans hmoves'.keeps, hmoves'.state.trans hmoves.state,
            hmoves'.fifo.trans hmoves.fifo, hmoves'.adminHeld.trans hmoves.adminHeld,
            fun x => (hmoves'.access x).trans (hmoves.access x)⟩, hwaiting, hout⟩
          simp only [true_and]
          exact hsent.since rfl rfl
      obtain ⟨hsent, hcompl, hmoves, hwaiting, hout⟩ := hspec
      have hadmin : r.admin = s.part.admin := by
        cases arm
        · rfl
        · exact (Part.adminArmTest_keeps q).admin
      have hdue : r.commandDue ↔ s.part.engine.state = .running ∧ s.part.admin.state = .idle
          ∧ s.part.admin.producer ≠ s.part.admin.consumer ∧ distance s.part.engine.areaSize index.toNat
            s.part.compl.adminRing.producer + 1 < s.part.engine.areaSize := by
        rw [Part.commandDue, Part.adminFree_pos, hmoves.keeps.engine, hadmin, hcompl]
      have heffect' := heffect arm
      rw [hr', hmoves.react_eq hs] at heffect'
      obtain ⟨hasks, hstill⟩ := r.askCommand_spec
      refine ⟨_, exec_of_effect heffect', ?_, ?_, fun hrunning hidle hwaits hfree => ?_, fun hno => ?_, ?_,
        onlyChanges_iff.2 ⟨rfl, ?_⟩⟩
      · simpa using hcompl
      · exact (hmoves.react_eq hs ▸ hsent.react).signalled
      · obtain ⟨hfetches, hread, hothers⟩ := hasks (hdue.2 ⟨hrunning, hidle, hwaits, hfree⟩)
        rw [hadmin] at hfetches hread
        exact ⟨hfetches, by rw [hmoves.keeps.engine] at hread; exact hread, 
          fun x hx => (hothers x hx).trans (congrArg (fun v => Vector.get v x.place) hwaiting)⟩
      · have hnot : ¬r.commandDue := by
          rw [hdue]
          rintro ⟨hrunning, hidle, hwaits, hfree⟩
          rcases hno with h | h | h | h
          · exact h hrunning
          · exact h hidle
          · exact hwaits h
          · omega
        dsimp only
        rw [hstill hnot]
        exact ⟨hadmin, hwaiting⟩
      · simpa using hout
      · simpa using hmoves.keeps.mono (l' := [.admin, .host, .compl, .out]) (by simp)
    · have harm : q.armAdmin = q.onCompl fun c => { c with adminRing := { c.adminRing with armPending := true } } :=
        if_neg hstill
      have hmoves' : s.part.AdminMoves (q.onCompl fun c => { c with adminRing := { c.adminRing with armPending := true } }) :=
        s.part.adminMoves_onCompl fun r => { r with consumer := index.toNat, armPending := true }
      have hnot : ¬(q.onCompl fun c => { c with adminRing := { c.adminRing with armPending := true } }).commandDue :=
        fun ⟨hrunning, _⟩ => hstill hrunning
      refine exec_of_effect ?_
      rw [heffect, if_pos rfl, harm, hmoves'.react_eq hs, Part.askCommand_eq_self_iff.2 hnot]
      rfl

end Sys2Proof.Machine
end

section
/-! Close operations (R68, R83, R88 to R90): the open timers that ask for them, and the bank they take. -/

-- One declaration at a time: every further thread counts against the memory the check allows.
set_option Elab.async false

namespace Sys2Proof.Machine

variable {p q : Part}

/-! ### Banks -/

theorem Part.modBank_window (p : Part) (w v : Fin 16) (n : Nat) (f : Bank → Bank) : (p.modBank w n f).window v =
    if v = w then { p.window v with banks := (p.window v).banks.modify n f } else p.window v :=
  p.modWindow_window w v _

theorem Part.modBank_bank? (p : Part) (w v : Fin 16) (n m : Nat) (f : Bank → Bank) :
    ((p.modBank w n f).window v).banks[m]? =
      if v = w ∧ m = n then (p.window v).banks[m]?.map f else (p.window v).banks[m]? := by
  rw [p.modBank_window]
  by_cases hv : v = w
  · by_cases hm : n = m
    · simp [hv, hm]
    · simp [hv, hm, Ne.symm hm]
  · simp [hv]

/-- Banks are looked at by window and then bank, four to a window. -/
theorem bankOrder_length : bankOrder.length = 64 := by decide

theorem bankOrder_getElem (w : Fin 16) (b : Fin 4) : bankOrder[4 * w.val + b.val]? = some (w, b.val) := by
  revert w b
  decide

theorem mem_bankOrder {x : Fin 16 × Nat} : x ∈ bankOrder ↔ x.2 < 4 := by
  obtain ⟨w, n⟩ := x
  simp [bankOrder]

/-- The first bank in order of which something holds. -/
theorem bankOrder_find? {f : Fin 16 × Nat → Bool} {w : Fin 16} {b : Fin 4} (h : f (w, b.val) = true)
    (hfirst : ∀ (v : Fin 16) (c : Fin 4), f (v, c.val) = true → w < v ∨ (w = v ∧ b ≤ c)) :
    bankOrder.find? f = some (w, b.val) := by
  have hplace (v : Fin 16) (c : Fin 4) : 4 * v.val + c.val < bankOrder.length := by
    rw [bankOrder_length]
    omega
  rw [List.find?_eq_some_iff_getElem]
  refine ⟨h, 4 * w.val + b.val, hplace w b, ?_, fun j hj => ?_⟩
  · exact Option.some_injective _ ((List.getElem?_eq_getElem (hplace w b)).symm.trans (bankOrder_getElem w b))
  · have hv : j / 4 < 16 := by omega
    have hj' : 4 * (⟨j / 4, hv⟩ : Fin 16).val + (⟨j % 4, by omega⟩ : Fin 4).val = j := by simp; omega
    have hat : bankOrder[j]? = some (⟨j / 4, hv⟩, j % 4) := by
      have hat := bankOrder_getElem ⟨j / 4, hv⟩ ⟨j % 4, by omega⟩
      rwa [hj'] at hat
    rw [List.getElem?_eq_getElem (by have := hplace w b; omega), Option.some_inj] at hat
    rw [hat]
    by_contra hf
    rcases hfirst ⟨j / 4, hv⟩ ⟨j % 4, by omega⟩ (by simpa using hf) with hlt | ⟨heq, hle⟩
    · have : w.val < j / 4 := hlt
      omega
    · have hw : w.val = j / 4 := congrArg Fin.val heq
      have : b.val ≤ j % 4 := hle
      omega

theorem Part.settleView_modBank (p : Part) (w : Fin 16) (n : Nat) (f : Bank → Bank) :
    (p.modBank w n f).settleView = p.settleView :=
  Part.settleView_congr rfl rfl (fun _ => rfl) fun v => by
    rw [p.modBank_window]
    split <;> rfl

/-! ### The bank to close -/

/-- An OWNER closes OPEN banks that are marked and requested, a RELEASING port every OPEN bank (R89, R90). -/
def Part.closes (p : Part) (x : Bank) : Bool :=
  x.state == .opened && (decide (p.port.state = .releasing) || x.dueToClose && x.closeRequest)

theorem Part.closeTarget_eq (hmaster : p.master.state = .idle)
    (hport : p.port.state = .owner ∨ p.port.state = .releasing) :
    p.closeTarget = bankOrder.find? fun x => (p.bank? x.1 x.2).any p.closes := by
  rcases hport with h | h <;> simp only [Part.closeTarget, hmaster, h, if_true] <;> congr 1 <;> funext x <;>
    cases p.bank? x.1 x.2 <;> simp [Part.closes, h, Bool.and_assoc]

/-- Settles O40. -/
theorem openTimersAskForCloses : Obligations.OpenTimersAskForCloses := by
  refine ⟨fun s w b => ?_, fun s w b x hs hmaster hbank hopen hfirst => ?_, fun s hno => exec_of_effect ?_⟩
  · refine ⟨_, exec_of_effect rfl, fun x hx hopen => ?_, fun x hx hopen => ?_, fun v c hne => ?_,
      onlyChanges_iff.2 ⟨rfl, by simp [effect]⟩⟩ <;> dsimp only [effect] <;> rw [Part.modBank_bank?]
    · simp [hx, Bank.expire, hopen]
    · simp [hx, Bank.expire, hopen]
    · rw [if_neg (by tauto)]
  · have hport : s.part.port.state = .owner ∨ s.part.port.state = .releasing := hfirst.imp And.left And.left
    have hcloses : s.part.closes x = true := by
      rcases hfirst with ⟨hs, hdue, hrequest, -⟩ | ⟨hs, -⟩ <;> simp [Part.closes, *]
    have htarget : s.part.closeTarget = some (w, b.val) := by
      rw [Part.closeTarget_eq hmaster hport]
      refine bankOrder_find? (by simpa [Part.bank?, hbank] using hcloses) fun v c hc => ?_
      obtain ⟨y, hy, hclose⟩ := (Option.any_eq_true _ _).1 hc
      simp only [Part.closes, Bool.and_eq_true, beq_iff_eq] at hclose
      rcases hfirst with ⟨hs, -, -, hfirst⟩ | ⟨-, hfirst⟩
      · simp only [hs, reduceCtorEq, decide_false, Bool.false_or, Bool.and_eq_true] at hclose
        exact hfirst v c y hy hclose.1 hclose.2.1 hclose.2.2
      · exact hfirst v c y hy hclose.1
    set q := ((s.part.modBank w b.val fun x => { x with closeRequest := false }).onMaster fun _ =>
      { state := .closing, operation := some (s.part.closeRecord w b.val), staging := [] }).present
        (s.part.closeRecord w b.val) .closePage with hq
    have hview : q.settleView = s.part.settleView := s.part.settleView_modBank w b.val _
    have hkeeps : s.part.Keeps [.windows, .master, .out] q := by simp [hq]
    have hreact : q.react = q := by
      refine (hs.nothingDue.of_keeps (hkeeps.mono (by simp))).react_of_still ?_ ?_
      · rcases hport with h | h
        · have hstate : q.port.state = .owner := h
          simp only [Part.portStill, hstate]
          exact fun ⟨hidle, _⟩ => by cases hidle
        · have hstate : q.port.state = .releasing := h
          simp only [Part.portStill, hstate]
      · rw [hkeeps.port, Part.requestLevel_congr hview]
        exact (settled_iff.1 hs).2.1
    have heffect : effect .closeOperation s.part = q := by
      simp only [effect, Part.startClose, htarget]
      exact hreact
    refine ⟨_, exec_of_effect heffect, rfl, ⟨_, rfl, rfl, rfl, rfl, rfl, rfl, rfl⟩, ?_, fun v c hne => ?_, ?_,
      onlyChanges_iff.2 ⟨rfl, hkeeps⟩⟩
    · refine (s.part.modBank_bank? w w b.val b.val _).trans ?_
      simp [hbank]
    · refine (s.part.modBank_bank? w v b.val c _).trans (if_neg (by tauto))
    · change s.part.out ++ [.phase .closePage
        (((s.part.modBank w b.val fun x => { x with closeRequest := false }).window w).closeAddress b.val) 0] = _
      rw [Part.modBank_window, if_pos rfl]
      rfl
  · have hnone : s.part.closeTarget = none := by
      rcases hno with h | ⟨howner, hreleasing⟩ | ⟨h, hno⟩ | ⟨h, hno⟩
      · simp [Part.closeTarget, h]
      · unfold Part.closeTarget
        split
        · split <;> simp_all
        · rfl
      all_goals
        by_cases hmaster : s.part.master.state = .idle
        · rw [Part.closeTarget_eq hmaster (by simp [h]), List.find?_eq_none]
          rintro ⟨w, n⟩ hmem hany
          obtain ⟨y, hy, hclose⟩ := (Option.any_eq_true _ _).1 hany
          have := hno w ⟨n, mem_bankOrder.1 hmem⟩ y hy
          simp_all [Part.closes]
        · simp [Part.closeTarget, hmaster]
    simp [effect, Part.startClose, hnone]

end Sys2Proof.Machine
end

section
/-! What the backplane's lines and phases do to the port and the notice buffer: GNT rising, WDR, phases while
joining, and the notice beats (R35, R96, R97, R99, R100, R102, R131, R132). -/

-- One declaration at a time: every further thread counts against the memory the check allows.
set_option Elab.async false

namespace Sys2Proof.Machine

variable {p q : Part}

/-! ### The notice buffer -/

theorem Part.dropReceiving_eq (p : Part) : p.dropReceiving = { p with notices := { p.notices with
    buffer := p.notices.buffer.map fun e => if e.state = .receiving then .empty else e } } := by
  simp [Part.dropReceiving, Part.onNotices, tabMap_eq_map]

theorem Part.dropReceiving_eq_self (h : ∀ b, (p.entry b).state ≠ .receiving) : p.dropReceiving = p := by
  have hbuffer : (p.notices.buffer.map fun e => if e.state = .receiving then .empty else e) = p.notices.buffer :=
    Vector.ext fun i hi => by
      have hb := h ⟨i, hi⟩
      simp only [Part.entry, Vector.get_eq_getElem] at hb
      simp [hb]
  rw [Part.dropReceiving_eq, hbuffer]

theorem NoticeUnit.freeEntry_eq_some {n : NoticeUnit} {b : Fin 4} (h : (n.buffer.get b).state = .free)
    (hfirst : ∀ a, a < b → (n.buffer.get a).state ≠ .free) : n.freeEntry = some b := by
  rw [NoticeUnit.freeEntry, ← Fin.find?_eq_find?_finRange, Fin.find?_eq_some_iff]
  exact ⟨by simp [h], fun a ha => by simpa using hfirst a ha⟩

theorem NoticeUnit.freeEntry_eq_none {n : NoticeUnit} (h : ∀ b, (n.buffer.get b).state ≠ .free) :
    n.freeEntry = none := by
  rw [NoticeUnit.freeEntry, List.find?_eq_none]
  simpa using h

/-! ### Phases seen (R96, R132) -/

theorem Part.seePhase_of_not_joining (h : p.port.state ≠ .joining) (code : PhaseCode) :
    p.seePhase code = if code = .data then p else p.dropReceiving := by
  simp only [Part.seePhase, if_neg h]

/-- A NOTICE phase for the part, with right parity, where the port answers. -/
theorem Part.noticePhase_of_answered {node : BitVec 5} (hport : p.port.state = .idle ∨ p.port.state = .requesting)
    (hnode : p.notices.nodeId = some node) (beats : Nat) :
    p.noticePhase (node.setWidth 32) beats true = p.dropReceiving.answerNotice beats := by
  have hjoin : p.port.state ≠ .joining := by rcases hport with h | h <;> simp [h]
  have hanswers : p.port.state.answers = true := by rcases hport with h | h <;> simp [h, PortState.answers]
  have hseen := Part.seePhase_of_not_joining hjoin .notice
  rw [if_neg (by decide)] at hseen
  have haddressed : p.dropReceiving.notices.addressed (node.setWidth 32) = true := by
    change (match p.notices.nodeId with
      | some i => node.setWidth 32 == i.setWidth 32
      | none => false) = true
    simp [hnode]
  simp only [Part.noticePhase, hseen]
  rw [if_pos (by simp [haddressed, hanswers])]

theorem Part.noticePhase_of_unanswered {ad : BusWord} {beats : Nat} {good : Bool}
    (h : good = false ∨ (p.port.state ≠ .idle ∧ p.port.state ≠ .requesting)
      ∨ ∀ node, p.notices.nodeId = some node → ad ≠ node.setWidth 32) :
    p.noticePhase ad beats good = p.seePhase .notice := by
  have hstate : (p.seePhase .notice).port.state = p.port.state := by
    simp only [Part.seePhase]
    (repeat' split) <;> rfl
  have hnode : (p.seePhase .notice).notices.nodeId = p.notices.nodeId := by
    simp only [Part.seePhase]
    (repeat' split) <;> rfl
  simp only [Part.noticePhase]
  refine if_neg fun hall => ?_
  simp only [Bool.and_eq_true, hstate] at hall
  obtain ⟨⟨hanswers, haddressed⟩, hgood⟩ := hall
  rcases h with h | ⟨hidle, hrequesting⟩ | h
  · simp [h] at hgood
  · cases hs : p.port.state <;> simp_all [PortState.answers]
  · unfold NoticeUnit.addressed at haddressed
    rw [hnode] at haddressed
    split at haddressed
    · next node hn => exact h node hn (by simpa using haddressed)
    · cases haddressed

theorem Part.seePhase_out (p : Part) (code : PhaseCode) : (p.seePhase code).out = p.out :=
  (p.seePhase_keeps code).out

/-- Settles O48. -/
theorem inboundNoticesAreReceived : Obligations.InboundNoticesAreReceived := by
  refine ⟨fun s ad beats node hport hnode had => ?_, fun s ad beats good hno => ?_,
    fun s b ad good hport hrec hbeats => ?_, fun s => exec_of_effect s.part.dropReceiving_eq⟩
  · subst had
    have heffect := Part.noticePhase_of_answered hport hnode
    have hentry := s.part.dropReceiving_entry
    refine ⟨fun hne => ?_, fun b hfree hfirst => ?_, fun hbusy => exec_of_effect ?_⟩
    · have hanswer : s.part.dropReceiving.answerNotice beats = s.part.dropReceiving.emit (.answer .fault) := if_pos hne
      exact ⟨_, exec_of_effect ((heffect beats).trans hanswer), rfl, hentry, onlyChanges_iff.2 ⟨rfl, by simp⟩⟩
    · have hb : s.part.dropReceiving.notices.freeEntry = some b := by
        refine NoticeUnit.freeEntry_eq_some ?_ fun a ha => ?_
        · change (s.part.dropReceiving.entry b).state = _
          rw [hentry]
          rcases hfree with h | h <;> simp [h, BufferEntry.empty]
        · change (s.part.dropReceiving.entry a).state ≠ _
          obtain ⟨hnot, hno⟩ := hfirst a ha
          rw [hentry, if_neg hno]
          exact hnot
      have hanswer : s.part.dropReceiving.answerNotice 4 = (s.part.dropReceiving.modEntry b fun _ =>
          { BufferEntry.empty with state := .receiving }).emit (.answer .ack) := by
        simp [Part.answerNotice, hb]
      refine ⟨_, exec_of_effect ((heffect 4).trans hanswer), rfl, ?_, fun a ha => ?_, onlyChanges_iff.2 ⟨rfl, by simp⟩⟩
      · exact (Part.modEntry_entry ..).trans (if_pos rfl)
      · exact ((Part.modEntry_entry ..).trans (if_neg ha)).trans (hentry a)
    · have hsame : s.part.dropReceiving = s.part := Part.dropReceiving_eq_self fun b => (hbusy b).2
      have hnone : s.part.notices.freeEntry = none := NoticeUnit.freeEntry_eq_none fun b => (hbusy b).1
      refine (heffect 4).trans ?_
      rw [hsame]
      simp [Part.answerNotice, hnone, Part.onStats, Part.emit]
  · refine ⟨?_, _, exec_of_effect rfl, s.part.seePhase_out .notice⟩
    rw [exec_eq, exec_eq]
    simp only [effect, Part.noticePhase_of_unanswered hno]
  · have hanswers : s.part.port.state.answers = true := by rcases hport with h | h <;> simp [h, PortState.answers]
    have heffect : effect (.inboundNoticeBeat ad good) s.part =
        (s.part.modEntry b fun e => e.takeBeat ad good).emit (.answer .ack) := by
      simp [effect, Part.noticeBeatTaken, Part.seePhase_data hanswers, NoticeUnit.receiving_eq_some hrec, hbeats, hanswers]
    have hentry (a : Fin 4) : ((s.part.modEntry b fun e => e.takeBeat ad good).emit (.answer .ack)).entry a =
        if a = b then (s.part.entry a).takeBeat ad good else s.part.entry a := Part.modEntry_entry ..
    refine ⟨_, exec_of_effect heffect, rfl, fun a ha => (hentry a).trans (if_neg ha), fun h => ?_, fun h => ?_,
      fun h => ?_, onlyChanges_iff.2 ⟨rfl, by simp⟩⟩
    all_goals
      refine (hentry b).trans ?_
      simp [BufferEntry.takeBeat, h]

/-! ### Joining (R96, R97) -/

theorem Part.seePhase_eq (p : Part) (code : PhaseCode) : p.seePhase code = { p with
    port := { p.port with joinTimer := if p.port.state = .joining then 32 else p.port.joinTimer }
    notices := { p.notices with buffer := p.notices.buffer.map fun e =>
      if code ≠ .data ∧ e.state = .receiving then .empty else e } } := by
  have hjoin : (if p.port.state = .joining then p.onPort fun x => { x with joinTimer := joinInterval } else p) =
      { p with port := { p.port with joinTimer := if p.port.state = .joining then 32 else p.port.joinTimer } } := by
    split <;> rfl
  simp only [Part.seePhase, hjoin]
  by_cases hcode : code = .data
  · simp [hcode]
  · simp only [hcode, if_false, Part.dropReceiving_eq, ne_eq, not_false_eq_true, true_and]

/-- An ATTACHED event that waits still waits, or its entry has been asked for (R139). -/
theorem Part.react_attached (h : p.notices.attached = true) : p.react.notices.attached = true
    ∨ (p.notices.write = none ∧ p.react.notices.write = some { buffer := none, urgent := false }) := by
  generalize hq : p.movePort.driveLevel.captureFlush.askPosting.askAdminPosting = q
  have hnotices : q.notices = p.notices := by rw [← hq]; simp
  rw [Part.react, Part.askCommand_notices, hq, ← hnotices]
  rw [← hnotices] at h
  by_cases hmay : q.engine.state = .running ∧ q.notices.ring.present = true ∧ 1 ≤ q.notices.ring.freeEntries
      ∧ q.notices.write = none
  · simp only [Part.askNotice, if_pos hmay, if_pos h]
    exact .inr ⟨hmay.2.2.2, rfl⟩
  · simp only [Part.askNotice, if_neg hmay]
    exact .inl h

theorem Part.pendAttached_notices (halive : p.engine.state.alive = true) :
    p.pendAttached.notices = { p.notices with attached := true } := by
  simp only [Part.pendAttached, if_pos halive, Part.countMerge]
  split <;> rfl

/-- An IDLE port goes on to REQUESTING where a slot is bus-eligible and GNT is low (R97). -/
theorem Part.movePort_of_idle (h : p.port.state = .idle) :
    (p.reportedSet = [] ∨ p.port.gnt = true → p.movePort = p)
      ∧ (p.reportedSet ≠ [] → p.port.gnt = false →
        p.movePort = p.onPort fun x => { x with state := .requesting, req := true }) := by
  refine ⟨fun hstays => ?_, fun hset hgnt => ?_⟩
  · rw [Part.movePort_eq_self_iff, Part.portStill]
    simpa only [h] using hstays
  · simp [Part.movePort, h, hset, hgnt]

/-- Settles O47. -/
theorem joiningWaitsForQuiet : Obligations.JoiningWaitsForQuiet := by
  refine ⟨fun s code => exec_of_effect (s.part.seePhase_eq code), fun s hstate halive => ?_,
    fun s hstate => exec_of_effect (if_neg hstate)⟩
  set q := (s.part.onPort fun x => { x with state := .idle, joinTimer := 0 }).pendAttached with hq
  have hkeeps : (s.part.onPort fun x => { x with state := .idle, joinTimer := 0 }).Keeps [.notices, .stats] q := by
    simp [hq]
  have hport : q.port = { s.part.port with state := .idle, joinTimer := 0 } := hkeeps.port
  have hset : q.reportedSet = s.part.reportedSet :=
    Part.reportedSet_congr ((hkeeps.mono (by simp)).settleView.trans rfl)
  have hnotices : q.notices = { s.part.notices with attached := true } := Part.pendAttached_notices halive
  obtain ⟨hstays, hmoves⟩ := Part.movePort_of_idle (p := q) (by rw [hport])
  refine ⟨_, exec_of_effect (if_pos hstate), ?_, fun h => ?_, fun h hgnt => ?_, ?_, ?_, ?_, ?_⟩
  · rw [Part.react_port_joinTimer, hport]
  · have hmove := hstays (by rw [hset, hport]; exact h)
    rw [Part.react_port, hmove]
    simp [Part.driveLevel, hport]
  · have hmove := hmoves (by rw [hset]; exact h) (by rw [hport]; exact hgnt)
    rw [Part.react_port, hmove]
    simp [Part.driveLevel]
  · have hattached := Part.react_attached (p := q) (by rw [hnotices])
    rw [hnotices] at hattached
    exact hattached
  · simpa using hkeeps.sched
  · simpa using hkeeps.master
  · simpa using hkeeps.out

end Sys2Proof.Machine
end

section
/-! GNT rising and WDR: a tenure begins, or an owner is asked to release (R35, R56, R99, R100, R102, R132). -/

-- One declaration at a time: every further thread counts against the memory the check allows.
set_option Elab.async false

namespace Sys2Proof.Machine

variable {p q : Part}

/-- What the port's lines and state alone change leaves a settled part settled where the port then has no move. -/
theorem Settled.of_port (h : Settled p) (hq : p.Keeps [.port] q) (hstill : q.portStill)
    (hreq : q.port.req = p.port.req := by rfl) (hlvl : q.port.lvl = p.port.lvl := by rfl) : Settled q := by
  obtain ⟨hcapture, hposting, hadmin, hnotice, hcommand⟩ := h.nothingDue.of_keeps (hq.mono (by simp))
  refine settled_iff.2 ⟨hstill, ?_, hcapture, hposting, hadmin, hnotice, hcommand⟩
  rw [hlvl, hreq, Part.requestLevel_congr (hq.mono (by simp)).settleView]
  exact (settled_iff.1 h).2.1

/-- A port that requests still requests: the bus-eligible set is not about to stay empty (R98). -/
theorem Settled.setStaysEmpty (h : Settled p) (hs : p.port.state = .requesting) : p.setStaysEmpty = false := by
  have hstill := (settled_iff.1 h).1
  simpa only [Part.portStill, hs] using hstill

/-- Settles O42. -/
theorem grantsBeginTenures : Obligations.GrantsBeginTenures := by
  refine ⟨fun s hs hgnt => ⟨fun hreq hwdr => exec_of_effect ?_, fun hstate => exec_of_effect ?_,
    fun hstate => exec_of_effect ?_⟩, fun s hgnt => exec_of_effect ?_⟩
  · set q := s.part.onPort fun x => { x with gnt := true, state := .owner, tenure := true } with hq
    have hempty : q.setStaysEmpty = false := by
      rw [← hs.setStaysEmpty hreq]
      exact Part.setStaysEmpty_congr rfl
    have hsettled : Settled q := by
      refine hs.of_port (by simp [hq]) ?_
      simp [Part.portStill, hempty, show q.port.state = .owner from rfl]
    have heffect : effect .gntRise s.part = q.dropReceiving.react := by
      simp [effect, Part.grantRises, hgnt, Part.onPort, hreq, Part.takeGrant, Part.dropReceiving, Part.onNotices, hwdr, q]
    rw [heffect, (hsettled.congr q.sameDue_dropReceiving).react]
    exact q.dropReceiving_eq
  · set q := s.part.onPort fun x => { x with gnt := true, state := .releasing, tenure := true } with hq
    have hsettled : Settled q := hs.of_port (by simp [hq])
      (by simp [Part.portStill, show q.port.state = .releasing from rfl])
    have heffect : effect .gntRise s.part = q.dropReceiving.react := by
      rcases hstate with ⟨hreq, hwdr, hmaster⟩ | hidle
      · simp [effect, Part.grantRises, hgnt, Part.onPort, hreq, Part.takeGrant, Part.dropReceiving, Part.onNotices,
          hwdr, Part.takeWithdraw, hmaster, q]
      · simp [effect, Part.grantRises, hgnt, Part.onPort, hidle, Part.takeGrant, Part.dropReceiving, Part.onNotices, q]
    rw [heffect, (hsettled.congr q.sameDue_dropReceiving).react]
    exact q.dropReceiving_eq
  · rcases hstate with h | h <;> simp [effect, Part.grantRises, hgnt, Part.onPort, h]
  · simp [effect, Part.grantRises, hgnt]

/-! ### Withdraw (R35, R102) -/

theorem HostPort.abandonRead_waiting {h : HostPort} (x : Source) : h.abandonRead.waiting.get x.place =
    if x = .master then none else h.waiting.get x.place := by
  rw [HostPort.abandonRead, tabUpdate_get]
  by_cases hx : x = .master
  · simp [hx]
  · simp [hx, Source.place_inj]

theorem Part.abandonFetch_eq {o : Operation} {k : Fin 8} (hstate : p.master.state = .fetching)
    (hop : p.master.operation = some o) (hslot : o.slot = some k) : p.abandonFetch =
      ((p.modSlot k fun x => { x with state := .started }).onHost HostPort.abandonRead).masterIdle := by
  simp [Part.abandonFetch, hstate, hop, hslot]

/-- Of what waits at the arbiter, only the Master's read is abandoned (R56). -/
theorem HostPort.abandonRead_hasAccess {x : Source} (hx : x ≠ .master) (h : q.host = p.host.abandonRead) :
    q.hasAccess x = p.hasAccess x := by
  have hrequest : q.request x = p.request x := by
    rw [Part.request, Part.request, h, HostPort.abandonRead_waiting, if_neg hx]
  have houtstanding : q.outstandingFor x = p.outstandingFor x := by
    rw [Part.outstandingFor, Part.outstandingFor, h, HostPort.abandonRead]
    cases p.host.outstanding with
    | none => rfl
    | some a => by_cases ha : a.source = .master <;> simp [ha]
  rw [Part.hasAccess, Part.hasAccess, hrequest, houtstanding]

/-- An abandoned fetch gives nothing else to do. -/
theorem Part.NothingDue.of_abandonFetch (h : p.NothingDue) (hhost : q.host = p.host.abandonRead)
    (hq : p.Keeps [.host, .sched, .master, .port] q) : q.NothingDue := by
  obtain ⟨hcapture, hposting, hadmin, hnotice, hcommand⟩ := h
  have haccess {x : Source} (hx : x ≠ .master) : p.hasAccess x = true → q.hasAccess x = true := by
    rw [HostPort.abandonRead_hasAccess hx hhost]
    exact id
  refine ⟨fun hd => hcapture (hd.of_keeps (hq.mono (by simp)) (by rw [hq.admin])),
    fun hd => hposting (hd.of_access (by rw [hq.engine]) hq.compl (haccess (by simp))),
    fun hd => hadmin (hd.of_access (by rw [hq.engine]) hq.compl (haccess (by simp))), ?_, ?_⟩
  · rw [hq.engine, hq.notices]
    exact hnotice
  · simp only [Part.commandDue, Part.adminFree, hq.engine, hq.admin, hq.compl]
    exact hcommand

/-- Settles O46. -/
theorem withdrawActsOnAnOwner : Obligations.WithdrawActsOnAnOwner := by
  refine ⟨fun s hs howner => ⟨fun hmaster => exec_of_effect ?_, fun hmaster => exec_of_effect ?_,
    fun o k hmaster hop hslot => ?_⟩, fun s hno => exec_of_effect ?_, fun s => exec_of_effect rfl⟩
  · set q := s.part.onPort fun x => { x with wdr := true, state := .releasing } with hq
    have heffect : effect .withdraw s.part = q.react := by
      simp [effect, Part.withdraw, Part.onPort, howner, Part.takeWithdraw, hmaster, q]
    have hsettled : Settled q := hs.of_port (by simp [hq])
      (by simp [Part.portStill, show q.port.state = .releasing from rfl])
    exact heffect.trans hsettled.react
  · set q := s.part.onPort fun x => { x with wdr := true, state := .yielding } with hq
    have heffect : effect .withdraw s.part = q.react := by
      rcases hmaster with h | h | h <;>
        simp [effect, Part.withdraw, Part.onPort, howner, Part.takeWithdraw, h, q]
    have hbusy : s.part.master.state ≠ .idle := by rcases hmaster with h | h | h <;> simp [h]
    have hsettled : Settled q := hs.of_port (by simp [hq]) hbusy
    exact heffect.trans hsettled.react
  · set q := (((s.part.modSlot k fun x => { x with state := .started }).onHost
      HostPort.abandonRead).masterIdle).onPort fun x => { x with wdr := true, state := .releasing } with hq
    have heffect : effect .withdraw s.part = q.react := by
      have habandon := Part.abandonFetch_eq (p := s.part.onPort fun x => { x with wdr := true }) hmaster hop hslot
      refine (if_pos howner).trans ?_
      simp only [Part.takeWithdraw, habandon,
        show (s.part.onPort fun x => { x with wdr := true }).master.state = .fetching from hmaster]
      rfl
    have hkeeps : s.part.Keeps [.host, .sched, .master, .port] q := by simp [hq, Part.masterIdle]
    have hreact : q.react = q.driveLevel := by
      rw [(hs.nothingDue.of_abandonFetch rfl hkeeps).react_eq, Part.movePort_eq_self_iff.2]
      simp [Part.portStill, show q.port.state = .releasing from rfl]
    have hslots (j : Fin 8) : q.slot j = if j = k then { s.part.slot j with state := .started } else s.part.slot j :=
      s.part.modSlot_slot k j _
    refine ⟨_, exec_of_effect (heffect.trans hreact), rfl, rfl, rfl, (hslots k).trans (if_pos rfl),
      fun j hj => (hslots j).trans (if_neg hj), ?_, rfl, fun x hx => ?_,
      onlyChanges_iff.2 ⟨rfl, hkeeps.trans (by simp [Part.driveLevel])⟩⟩
    · exact (HostPort.abandonRead_waiting .master).trans (if_pos rfl)
    · change s.part.host.outstanding.map _ = _
      simp only [hx, Option.map_some]
      by_cases hsource : x.source = .master <;> simp [hsource, beq_eq_false_iff_ne.2]
  · simp [effect, Part.withdraw, Part.onPort, hno]

end Sys2Proof.Machine
end

section
/-! The checks at admission and the mapping (R10, R11, R72 to R74), and the split of a transaction into bursts
(R53). -/

-- One declaration at a time: every further thread counts against the memory the check allows.
set_option Elab.async false

namespace Sys2Proof.Machine

variable {p q : Part}

/-! ### Checks and mapping at admission -/

theorem Part.badRecord_iff (p : Part) (rec : Block) : p.badRecord rec = true ↔ recOpcode rec = none
    ∨ ((recOpcode rec = some .read ∨ recOpcode rec = some .write) ∧ (recLength rec = 0 ∨ 4096 < recLength rec))
    ∨ (recOpcode rec = some .compareSwap ∧ ¬(4 ∣ (recAddr rec).toNat))
    ∨ (recOpcode rec = some .noticeSend ∧ (31 < recDestination rec
      ∨ ∃ n, p.notices.nodeId = some n ∧ recDestination rec = n.toNat)) := by
  cases hop : recOpcode rec with
  | none => simp [Part.badRecord, hop]
  | some op =>
    cases op with
    | read | write | marker => simp [Part.badRecord, hop]
    | compareSwap => simp [Part.badRecord, hop, Nat.dvd_iff_mod_eq_zero]
    | noticeSend => cases hnode : p.notices.nodeId <;> simp [Part.badRecord, hop, hnode]

theorem Window.misaligned_iff (x : Window) (rec : Block) : x.misaligned rec = true ↔
    recOpcode rec ≠ some .compareSwap
      ∧ ((recAddr rec).toNat % x.portWidth ≠ 0 ∨ recLength rec % x.portWidth ≠ 0) := by
  simp [Window.misaligned]

theorem Window.denies_iff (x : Window) (rec : Block) : x.denies rec = true ↔
    (recOpcode rec = some .read ∧ x.access = .writeOnly) ∨ (recOpcode rec = some .write ∧ x.access = .readOnly)
      ∨ (recOpcode rec = some .compareSwap
        ∧ ¬(x.access = .readWrite ∧ x.lockPermitted = true ∧ x.portWidth = 4)) := by
  cases hop : recOpcode rec with
  | none => simp [Window.denies, hop]
  | some op =>
    cases op with
    | compareSwap => simp [Window.denies, hop, imp_iff_not_or, or_assoc]
    | read | write | noticeSend | marker => simp [Window.denies, hop]

theorem Window.matches_iff {x : Window} {a : Nat} : x.matches a = true ↔
    (x.state = .opened ∨ x.state = .fenced) ∧ x.base.toNat ≤ a ∧ a < x.base.toNat + x.size := by
  simp [Window.matches, and_assoc]

/-- No two window ranges in use overlap (R78). -/
def Part.Disjoint (p : Part) : Prop := ∀ u v : Fin 16, u ≠ v → (p.window u).state ≠ .unused →
  (p.window v).state ≠ .unused → rangesOverlap (p.window u).base.toNat (p.window u).size
    (p.window v).base.toNat (p.window v).size = false

/-- Of windows that do not overlap, one alone contains an address. -/
theorem Part.Disjoint.windowAt_eq {w : Fin 16} {a : Nat} (h : p.Disjoint) (hw : (p.window w).matches a = true) :
    p.windowAt a = some w := by
  have hunique (v : Fin 16) (hv : (p.window v).matches a = true) : v = w := by
    by_contra hne
    obtain ⟨hvstate, hvlow, hvhigh⟩ := Window.matches_iff.1 hv
    obtain ⟨hwstate, hwlow, hwhigh⟩ := Window.matches_iff.1 hw
    have hover := h v w hne (by rcases hvstate with h | h <;> simp [h]) (by rcases hwstate with h | h <;> simp [h])
    simp only [rangesOverlap, decide_eq_false_iff_not] at hover
    omega
  rw [Part.windowAt, ← Fin.find?_eq_find?_finRange, Fin.find?_eq_some_iff]
  exact ⟨hw, fun v hv => Bool.eq_false_iff.2 fun hmatch => hv.ne (hunique v hmatch)⟩

theorem Part.windowAt_eq_none_iff {a : Nat} : p.windowAt a = none ↔ ∀ u, ¬(p.window u).matches a = true := by
  simp [Part.windowAt]

/-- The window a record's range lies in (R72). -/
def Window.Contains (x : Window) (rec : Block) : Prop := (x.state = .opened ∨ x.state = .fenced)
  ∧ x.base.toNat ≤ (recAddr rec).toNat ∧ (recAddr rec).toNat + rangeLength rec ≤ x.base.toNat + x.size

theorem rangeLength_pos {rec : Block} (hgood : p.badRecord rec = false)
    (hop : recOpcode rec = some .read ∨ recOpcode rec = some .write ∨ recOpcode rec = some .compareSwap) :
    0 < rangeLength rec := by
  have hno : ¬p.badRecord rec = true := by simp [hgood]
  rw [p.badRecord_iff] at hno
  rcases hop with h | h | h <;> simp [h] at hno <;> simp [rangeLength, h]
  all_goals omega

/-- What the mapping gives a READ, WRITE or COMPARE_SWAP, by the window that contains it. -/
theorem Part.Disjoint.mapping_eq {rec : Block} (h : p.Disjoint) (hgood : p.badRecord rec = false)
    (hop : recOpcode rec = some .read ∨ recOpcode rec = some .write ∨ recOpcode rec = some .compareSwap) :
    (∀ w, (p.window w).Contains rec → p.mapping rec = if (p.window w).misaligned rec then .status .badAlignment
      else if (p.window w).denies rec then .status .accessDenied else .window w)
    ∧ ((∀ w, ¬(p.window w).Contains rec) → p.mapping rec = .status .noWindow) := by
  have hpos := rangeLength_pos hgood hop
  have hmapping : p.mapping rec = match p.windowAt (recAddr rec).toNat with
      | none => .status .noWindow
      | some w =>
        if (p.window w).base.toNat + (p.window w).size < (recAddr rec).toNat + rangeLength rec then .status .noWindow
        else if (p.window w).misaligned rec then .status .badAlignment
        else if (p.window w).denies rec then .status .accessDenied
        else .window w := by
    rcases hop with hop | hop | hop <;> simp only [Part.mapping, hgood, hop, Bool.false_eq_true, if_false] <;> rfl
  refine ⟨fun w ⟨hstate, hlow, hhigh⟩ => ?_, fun hno => ?_⟩
  · rw [hmapping, h.windowAt_eq (Window.matches_iff.2 ⟨hstate, hlow, by omega⟩)]
    exact if_neg (by omega)
  · rw [hmapping]
    cases hat : p.windowAt (recAddr rec).toNat with
    | none => rfl
    | some w =>
      obtain ⟨hstate, hlow, -⟩ := Window.matches_iff.1 (List.find?_some (p := fun v => (p.window v).matches _) hat)
      refine if_pos ?_
      by_contra hhigh
      exact hno w ⟨hstate, hlow, by omega⟩

/-- Settles O26. -/
theorem mappingFindsTheContainingWindow : Obligations.MappingFindsTheContainingWindow := by
  refine ⟨fun p rec => ⟨p.badRecord_iff rec, fun hbad => ?_, fun hgood hop => ?_⟩,
    fun x rec => ⟨x.misaligned_iff rec, x.denies_iff rec⟩, fun p rec w hdisjoint hgood hop => ?_⟩
  · simp [Part.mapping, hbad]
  · rcases hop with h | h <;> simp [Part.mapping, hgood, h]
  · obtain ⟨hin, hout⟩ := Part.Disjoint.mapping_eq hdisjoint hgood hop
    by_cases hany : ∃ v, (p.window v).Contains rec
    · obtain ⟨v, hv⟩ := hany
      have hsame (u : Fin 16) (hu : (p.window u).Contains rec) : u = v := by
        have hpos := rangeLength_pos hgood hop
        obtain ⟨hustate, hulow, huhigh⟩ := hu
        obtain ⟨hvstate, hvlow, hvhigh⟩ := hv
        have hat := Part.Disjoint.windowAt_eq hdisjoint (Window.matches_iff.2 ⟨hustate, hulow, by omega⟩)
        rw [Part.Disjoint.windowAt_eq hdisjoint (Window.matches_iff.2 ⟨hvstate, hvlow, by omega⟩)] at hat
        exact (Option.some_inj.1 hat).symm
      have hmapping := hin v hv
      refine ⟨⟨fun h => ?_, fun ⟨hstate, hlow, hhigh, hright, hallowed⟩ => ?_⟩, ⟨fun h => ?_, fun h => ?_⟩,
        fun hstate hlow hhigh => ?_⟩
      · rw [hmapping] at h
        split at h
        · cases h
        split at h
        · cases h
        next hright hallowed =>
        cases h
        exact ⟨hv.1, hv.2.1, hv.2.2, by simpa using hright, by simpa using hallowed⟩
      · rw [hin w ⟨hstate, hlow, hhigh⟩]
        simp [hright, hallowed]
      · rw [hmapping] at h
        (repeat' split at h) <;> cases h
      · exact absurd hv.2 (h v hv.1)
      · rw [hin w ⟨hstate, hlow, hhigh⟩]
        exact ⟨fun hmis => by simp [hmis], fun hright hdenied => by simp [hright, hdenied]⟩
    · have hno (u : Fin 16) (hu : (p.window u).Contains rec) : False := hany ⟨u, hu⟩
      rw [hout hno]
      exact ⟨⟨fun h => (by cases h), fun ⟨hstate, hlow, hhigh, _⟩ => (hno w ⟨hstate, hlow, hhigh⟩).elim⟩,
        ⟨fun _ u hstate hin => hno u ⟨hstate, hin⟩, fun _ => rfl⟩,
        fun hstate hlow hhigh => (hno w ⟨hstate, hlow, hhigh⟩).elim⟩

/-! ### Burst splitting (R53) -/

/-- The multiple of `k` after `a`: no other lies between, and it is no farther than `k`. -/
theorem next_multiple {k a : Nat} (hk : 0 < k) : a < (a / k + 1) * k ∧ (a / k + 1) * k ≤ a + k
    ∧ ∀ x, a < x → x < (a / k + 1) * k → x % k ≠ 0 := by
  have hlt : a < (a / k + 1) * k := Nat.lt_mul_of_div_lt (Nat.lt_succ_self _) hk
  have hle : a / k * k ≤ a := Nat.div_mul_le_self a k
  refine ⟨hlt, by rw [Nat.add_one_mul]; omega, fun x hx hxk hmod => ?_⟩
  obtain ⟨c, rfl⟩ := Nat.dvd_of_mod_eq_zero hmod
  have hc : c < a / k + 1 := by
    rw [Nat.mul_comm] at hxk
    exact Nat.lt_of_mul_lt_mul_right hxk
  have hcle : k * c ≤ a := (Nat.mul_comm k c).trans_le ((Nat.mul_le_mul_right k (Nat.lt_succ_iff.1 hc)).trans hle)
  omega

/-- Where a burst from `a` ends: the nearest of the transaction's end, the burst block's and the page's. -/
theorem Window.burstEnd_spec {x : Window} {a stop : Nat} (hblock : 0 < x.portWidth * x.maxBurst)
    (hpage : x.kind = .paged → 0 < x.pageSize ∧ x.base.toNat ≤ a) (hlt : a < stop) :
    a < x.burstEnd a stop ∧ x.burstEnd a stop ≤ stop
    ∧ x.burstEnd a stop ≤ a + x.portWidth * x.maxBurst
    ∧ (x.burstEnd a stop = stop ∨ x.burstEnd a stop % (x.portWidth * x.maxBurst) = 0
      ∨ (x.kind = .paged ∧ (x.burstEnd a stop - x.base.toNat) % x.pageSize = 0))
    ∧ ∀ y, a < y → y < x.burstEnd a stop → y % (x.portWidth * x.maxBurst) ≠ 0
      ∧ (x.kind = .paged → (y - x.base.toNat) % x.pageSize ≠ 0) := by
  obtain ⟨hafter, hnear, hbetween⟩ := next_multiple (a := a) hblock
  generalize hb : (a / (x.portWidth * x.maxBurst) + 1) * (x.portWidth * x.maxBurst) = blockEnd at hafter hnear hbetween
  have hmultiple : blockEnd % (x.portWidth * x.maxBurst) = 0 := by rw [← hb, Nat.mul_mod_left]
  cases hkind : x.kind with
  | direct =>
    have hend : x.burstEnd a stop = min stop blockEnd := by simp only [Window.burstEnd, hkind, hb]
    rw [hend]
    refine ⟨by omega, by omega, by omega, ?_, fun y hy hye => ⟨hbetween y hy (by omega), fun h => (by cases h)⟩⟩
    rcases Nat.le_total stop blockEnd with h | h
    · exact .inl (min_eq_left h)
    · exact .inr (.inl (by rw [min_eq_right h, hmultiple]))
  | paged =>
    obtain ⟨hsize, hbase⟩ := hpage hkind
    obtain ⟨hpafter, -, hpbetween⟩ := next_multiple (a := a - x.base.toNat) hsize
    generalize hp : ((a - x.base.toNat) / x.pageSize + 1) * x.pageSize = piece at hpafter hpbetween
    have hpiece : piece % x.pageSize = 0 := by rw [← hp, Nat.mul_mod_left]
    have hend : x.burstEnd a stop = min stop (min blockEnd (x.base.toNat + piece)) := by
      simp only [Window.burstEnd, hkind, hb, hp]
    rw [hend]
    refine ⟨by omega, by omega, by omega, ?_, fun y hy hye => ⟨hbetween y hy (by omega), fun _ =>
      hpbetween _ (by omega) (by omega)⟩⟩
    rcases Nat.le_total stop (min blockEnd (x.base.toNat + piece)) with h | h
    · exact .inl (min_eq_left h)
    · rw [min_eq_right h]
      rcases Nat.le_total blockEnd (x.base.toNat + piece) with h | h
      · exact .inr (.inl (by rw [min_eq_left h, hmultiple]))
      · refine .inr (.inr ⟨rfl, ?_⟩)
        rw [min_eq_right h, Nat.add_sub_cancel_left, hpiece]

/-- A burst ends on the port's width where the transaction, the blocks and the pages do. -/
theorem Window.burstEnd_mod {x : Window} {a stop : Nat} (hstop : stop % x.portWidth = 0)
    (hpage : x.kind = .paged → x.pageSize % x.portWidth = 0 ∧ x.base.toNat % x.portWidth = 0) :
    x.portWidth ∣ x.burstEnd a stop := by
  have hs : x.portWidth ∣ stop := Nat.dvd_of_mod_eq_zero hstop
  have hblock : x.portWidth ∣ (a / (x.portWidth * x.maxBurst) + 1) * (x.portWidth * x.maxBurst) :=
    dvd_mul_of_dvd_right (dvd_mul_right _ _) _
  have hmin {m n : Nat} (hm : x.portWidth ∣ m) (hn : x.portWidth ∣ n) : x.portWidth ∣ min m n := by
    rcases min_choice m n with h | h <;> rwa [h]
  cases hkind : x.kind with
  | direct =>
    simp only [Window.burstEnd, hkind]
    exact hmin hs hblock
  | paged =>
    obtain ⟨hsize, hbase⟩ := hpage hkind
    simp only [Window.burstEnd, hkind]
    exact hmin hs (hmin hblock (dvd_add (Nat.dvd_of_mod_eq_zero hbase)
      (dvd_mul_of_dvd_right (Nat.dvd_of_mod_eq_zero hsize) _)))

/-- Settles O29. -/
theorem burstsFollowTheSplit : Obligations.BurstsFollowTheSplit := by
  intro p s w a stop e hw hop hwidth hmax hpaged ha hstop hlt hend haddr hlen hprogress he
  set x := p.window w
  have hat : (recAddr s.record + BitVec.ofNat 32 s.progress).toNat = a := by
    rw [BitVec.toNat_add, BitVec.toNat_ofNat]
    omega
  have hstart : (p.nextBurst s).addr = recAddr s.record + BitVec.ofNat 32 s.progress
      ∧ (p.nextBurst s).start = s.progress ∧ (p.nextBurst s).bytes = x.burstEnd a stop - a
      ∧ (p.nextBurst s).beats = (p.nextBurst s).bytes / x.portWidth := by
    rcases hop with hop | hop <;> simp [Part.nextBurst, hop, hw, hat, ← hstop, x]
  obtain ⟨haddrs, hprog, hbytes, hbeats⟩ := hstart
  obtain ⟨hafter, hle, hnear, hends, hbetween⟩ := x.burstEnd_spec (Nat.mul_pos hwidth hmax)
    (fun hk => ⟨(hpaged hk).1, (hpaged hk).2.2.2⟩) hlt
  have hee : e = x.burstEnd a stop := by omega
  have hdvd : x.portWidth ∣ (p.nextBurst s).bytes := by
    rw [hbytes]
    refine Nat.dvd_sub (x.burstEnd_mod ?_ fun hk => ⟨(hpaged hk).2.1, (hpaged hk).2.2.1⟩) ?_
    · rw [hstop, Nat.add_mod, haddr, hlen, Nat.zero_mod]
    · exact ha ▸ Nat.dvd_of_mod_eq_zero (by rw [Nat.add_mod, haddr, hprogress, Nat.zero_mod])
  rw [← hee] at hafter hle hnear hends hbetween
  have hexact : (p.nextBurst s).beats * x.portWidth = (p.nextBurst s).bytes := by
    rw [hbeats, Nat.div_mul_cancel hdvd]
  refine ⟨?_, hprog, hafter, hle, hends, hbetween, hexact, ?_, ?_⟩
  · rw [haddrs, ← hat, BitVec.ofNat_toNat, BitVec.setWidth_eq]
  · rw [hbeats]
    exact Nat.div_pos (Nat.le_of_dvd (by omega) hdvd) hwidth
  · refine Nat.le_of_mul_le_mul_right ?_ hwidth
    rw [hexact, Nat.mul_comm]
    omega

end Sys2Proof.Machine
end

section
/-! Bursts as they are driven: the first phase (R46, R48, R84, R85), and what an ACK takes the phases to
(R47, R54, R55, R57, R58, R60, R83, R84). -/

-- One declaration at a time: every further thread counts against the memory the check allows.
set_option Elab.async false

namespace Sys2Proof.Machine

variable {p q : Part}

/-! ### A phase is driven -/

theorem Part.present_eq {o : Operation} (h : p.master.operation = some o) (ph : Phase) :
    p.present o ph = drives p o ph (p.phaseAd o ph) (ph.beatCount o) := by
  simp only [Part.present, Part.modOperation, Part.onMaster, Part.emit, h, Option.map_some]
  rfl

/-- The operation has gone on to `x` with its next phase. -/
theorem Part.modOperation_present {o : Operation} (h : p.master.operation = some o) (x : Operation) (ph : Phase) :
    (p.modOperation fun _ => x).present x ph = drives p x ph (p.phaseAd x ph) (ph.beatCount x) := by
  have hx : (p.modOperation fun _ => x).master.operation = some x := by simp [Part.modOperation, Part.onMaster, h]
  rw [Part.present_eq hx]
  rfl

theorem Part.recordOf_slot {o : Operation} {k : Fin 8} (h : o.slot = some k) : p.recordOf o = (p.slot k).record := by
  simp [Part.recordOf, h]

/-! ### The first phase of a burst -/

@[simp] theorem Opcode.addressPhase_ne_openPage (op : Opcode) : op.addressPhase ≠ .openPage := by
  cases op <;> simp [Opcode.addressPhase]

@[simp] theorem Opcode.addressPhase_ne_closePage (op : Opcode) : op.addressPhase ≠ .closePage := by
  cases op <;> simp [Opcode.addressPhase]

theorem Part.phaseAd_addressPhase (p : Part) (o : Operation) : p.phaseAd o o.opcode.addressPhase =
    if o.opcode = .read ∨ o.opcode = .write ∨ o.opcode = .compareSwap then o.addr
    else BitVec.ofNat 32 (recDestination (p.recordOf o)) := by
  cases hop : o.opcode <;> simp [Opcode.addressPhase, Part.phaseAd]

theorem Phase.beatCount_addressPhase (o : Operation) : o.opcode.addressPhase.beatCount o =
    if o.opcode = .read ∨ o.opcode = .write then o.beats else if o.opcode = .compareSwap then 1 else 4 := by
  cases hop : o.opcode <;> simp [Opcode.addressPhase, Phase.beatCount]

/-- What a phase puts on AD depends on the windows, the record, the node id and the data staged (R46, R82). -/
theorem Part.phaseAd_congr {o : Operation} (hw : q.windows = p.windows) (hrec : q.recordOf o = p.recordOf o)
    (hn : q.notices = p.notices) (hm : q.master.staging = p.master.staging) (ph : Phase) :
    q.phaseAd o ph = p.phaseAd o ph := by
  have hdata : q.writeBeatData o = p.writeBeatData o := by
    unfold Part.writeBeatData Part.noticeBeat
    rw [hrec, hn, hm]
  unfold Part.phaseAd Part.window
  rw [hw, hrec, hdata]

/-- The part as its burst goes out, before the first phase is driven (R30, R48, R85). -/
def Part.goesOut (p : Part) (o : Operation) : Part :=
  ((p.onMaster fun m => { m with state := .driving, operation := some o }).clearDeferred).countPage o

theorem Part.goesOut_keeps (p : Part) (o : Operation) : ((p.onMaster fun m =>
    { m with state := .driving, operation := some o }).clearDeferred).Keeps [.stats] (p.goesOut o) :=
  Part.countPage_keeps _ _

theorem Part.goesOut_slot (p : Part) (o : Operation) (k : Fin 8) :
    (p.goesOut o).slot k = { p.slot k with deferred := false } :=
  ((p.goesOut_keeps o).slot k).trans (Part.clearDeferred_slot _ k)

theorem Part.goesOut_recordOf (p : Part) (o x : Operation) : (p.goesOut o).recordOf x = p.recordOf x := by
  unfold Part.recordOf
  cases x.slot with
  | none => rfl
  | some k => exact (congrArg Slot.record (p.goesOut_slot o k)).trans rfl

theorem Part.countPage_stats_congr (hw : q.windows = p.windows) (hs : q.stats = p.stats) (o : Operation) (n : Nat) :
    (q.countPage { o with limit := n }).stats = (p.countPage o).stats := by
  have hwindow : q.window = p.window := by
    funext w
    rw [Part.window, hw, Part.window]
  unfold Part.countPage
  simp only [hwindow]
  cases o.window with
  | none => exact hs
  | some w =>
    cases hk : (p.window w).kind with
    | direct => simpa only [hk] using hs
    | paged =>
      simp only [hk, Part.onStats, hs]
      rfl

theorem Part.startDriving_slot (p : Part) (o : Operation) (k : Fin 8) :
    (p.startDriving o).slot k = { p.slot k with deferred := false } :=
  p.goesOut_slot { o with limit := p.burstLimit o } k

theorem Part.startDriving_stats (p : Part) (o : Operation) : (p.startDriving o).stats = (p.countPage o).stats :=
  Part.countPage_stats_congr (p := p) (q := (p.onMaster fun m =>
    { m with state := .driving, operation := some { o with limit := p.burstLimit o } }).clearDeferred) rfl rfl o _

theorem Part.startDriving_out (p : Part) (o : Operation) : (p.startDriving o).out = p.out ++
    [.phase (p.openingPhase o).code (p.phaseAd o (p.openingPhase o)) ((p.openingPhase o).beatCount o)] := by
  have hout : (p.goesOut { o with limit := p.burstLimit o }).out = p.out := (p.goesOut_keeps _).out
  have hmaster := (p.goesOut_keeps { o with limit := p.burstLimit o }).master
  have had := Part.phaseAd_congr (o := o) (p := p) (q := p.goesOut { o with limit := p.burstLimit o })
    ((p.goesOut_keeps _).windows) (p.goesOut_recordOf _ o) ((p.goesOut_keeps _).notices)
    ((congrArg Master.staging hmaster).trans rfl) (p.openingPhase o)
  have hpresent : (p.startDriving o).out = (p.goesOut { o with limit := p.burstLimit o }).out ++ [.phase
    (p.openingPhase o).code ((p.goesOut { o with limit := p.burstLimit o }).phaseAd o (p.openingPhase o))
      ((p.openingPhase o).beatCount o)] := rfl
  rw [hpresent, hout, had]

/-- The page table's answer to a burst: its bank is OPEN with its page, CLOSED, or neither (R84). -/
theorem Window.firstPhase_eq {x : Window} {o : Operation} {b : Bank} (h : x.banks[o.bank]? = some b) :
    (b.state = .opened → b.page = o.page → b.dueToClose = false → x.firstPhase o = o.opcode.addressPhase)
    ∧ (b.state = .closed → x.firstPhase o = .openPage)
    ∧ (b.state = .unknown ∨ (b.state = .opened ∧ (b.page ≠ o.page ∨ b.dueToClose = true)) →
      x.firstPhase o = .closePage) := by
  refine ⟨fun hs hpage hdue => ?_, fun hs => ?_, fun hs => ?_⟩
  · simp [Window.firstPhase, h, hs, hpage, hdue]
  · simp [Window.firstPhase, h, hs]
  · rcases hs with hs | ⟨hs, hpage | hdue⟩ <;> simp [Window.firstPhase, *]

/-- Settles O30. -/
theorem firstPhaseFollowsThePageTable : Obligations.FirstPhaseFollowsThePageTable := by
  intro p o ad count had hcount
  have hmaster := p.startDriving_master o
  have haddress (h : p.openingPhase o = o.opcode.addressPhase) :
      (p.startDriving o).out = p.out ++ [.phase o.opcode.addressPhase.code ad count] := by
    rw [p.startDriving_out o, h, p.phaseAd_addressPhase o, Phase.beatCount_addressPhase, ← had, ← hcount]
  have hpaged {w : Fin 16} (hw : o.window = some w) (hkind : (p.window w).kind = .paged) :
      p.openingPhase o = (p.window w).firstPhase o
        ∧ (p.startDriving o).stats = if (p.window w).firstPhase o = o.opcode.addressPhase
          then { p.stats with pageHits := satSucc p.stats.pageHits }
          else { p.stats with pageMisses := satSucc p.stats.pageMisses } := by
    rw [p.startDriving_stats o]
    simp [Part.openingPhase, Part.countPage, hw, hkind, Part.onStats]
  refine ⟨by rw [hmaster], by rw [hmaster], p.startDriving_slot o, fun hw => ?_, fun w hw hkind => ?_,
    fun w b hw hkind hb hopen hpage hdue => ?_, fun w b ph hw hkind hb hph => ?_⟩
  · have hphase : p.openingPhase o = o.opcode.addressPhase := by simp [Part.openingPhase, hw]
    have hlimit : p.burstLimit o = 16 := by simp [Part.burstLimit, hw, noticeLimit]
    refine ⟨by rw [hmaster, hlimit, hphase], hphase, haddress hphase, ?_⟩
    rw [p.startDriving_stats o]
    simp [Part.countPage, hw]
  · have hphase : p.openingPhase o = o.opcode.addressPhase := by simp [Part.openingPhase, hw, hkind]
    have hlimit : p.burstLimit o = responseLimit (p.window w).limitClass := by simp [Part.burstLimit, hw]
    refine ⟨by rw [hmaster, hlimit, hphase], hphase, haddress hphase, ?_⟩
    rw [p.startDriving_stats o]
    simp [Part.countPage, hw, hkind]
  all_goals
    have hlimit : p.burstLimit o = responseLimit (p.window w).limitClass := by simp [Part.burstLimit, hw]
    obtain ⟨hopening, hstats⟩ := hpaged hw hkind
    obtain ⟨hhit, hclosed, hmiss⟩ := Window.firstPhase_eq hb
  · have hfirst := hhit hopen hpage hdue
    have hphase := hopening.trans hfirst
    refine ⟨by rw [hmaster, hlimit, hphase], hphase, haddress hphase, ?_⟩
    rw [hstats, if_pos hfirst]
  · have hfirst : (p.window w).firstPhase o = ph := by
      rcases hph with ⟨hs, rfl⟩ | ⟨hs, rfl⟩
      · exact hclosed hs
      · exact hmiss hs
    have hphase := hopening.trans hfirst
    have hnot : ph ≠ o.opcode.addressPhase := by
      rcases hph with ⟨-, rfl⟩ | ⟨-, rfl⟩
      · exact o.opcode.addressPhase_ne_openPage.symm
      · exact o.opcode.addressPhase_ne_closePage.symm
    refine ⟨by rw [hmaster, hlimit, hphase], hphase, by rw [hstats, hfirst, if_neg hnot], ?_⟩
    rw [p.startDriving_out o, hphase]
    rcases hph with ⟨-, rfl⟩ | ⟨-, rfl⟩ <;> simp [Part.phaseAd, Phase.beatCount, hw]

/-! ### Phases and their answers -/

/-- What the Master, the banks and the host channel alone change leaves a settled part settled while the Master is
at work on an operation: the bus-eligible set is as it was, and no access asked for is withdrawn. -/
theorem Settled.of_busy (h : Settled p) (hq : p.Keeps [.host, .windows, .master, .stats, .out] q)
    (hview : q.settleView = p.settleView) (hbusy : q.master.state ≠ .idle)
    (haccess : ∀ x, p.hasAccess x = true → q.hasAccess x = true) : Settled q := by
  obtain ⟨hport, hlevel, hcapture, hposting, hadmin, hnotice, hcommand⟩ := settled_iff.1 h
  refine settled_iff.2 ⟨?_, ?_, fun hd => hcapture (hd.of_keeps (hq.mono (by simp)) (by rw [hq.admin])),
    fun hd => hposting (hd.of_access (by rw [hq.engine]) hq.compl (haccess _)),
    fun hd => hadmin (hd.of_access (by rw [hq.engine]) hq.compl (haccess _)), ?_, ?_⟩
  · unfold Part.portStill at *
    rw [hq.port]
    split at hport
    · rwa [Part.reportedSet_congr hview]
    · rwa [Part.setStaysEmpty_congr hview]
    · exact fun ⟨hidle, _⟩ => hbusy hidle
    · exact hbusy
    · trivial
    · trivial
    · trivial
  · rw [hq.port, Part.requestLevel_congr hview]
    exact hlevel
  · rw [hq.engine, hq.notices]
    exact hnotice
  · simp only [Part.commandDue, Part.adminFree, hq.engine, hq.admin, hq.compl]
    exact hcommand

theorem drives_keeps (p : Part) (o : Operation) (ph : Phase) (ad : BusWord) (count : Nat) :
    p.Keeps [.master, .out] (drives p o ph ad count) :=
  .of_blocks fun b => by cases b <;> simp [Region.same, drives]

theorem Settled.drives (h : Settled p) (hstate : p.master.state ≠ .idle) (o : Operation) (ph : Phase) (ad : BusWord)
    (count : Nat) : Settled (drives p o ph ad count) :=
  h.of_busy ((drives_keeps p o ph ad count).mono (by simp)) rfl hstate fun _ => id

/-- An answer ACK takes the operation on from its phase. -/
theorem effect_ack {o : Operation} {k : Fin 8} {ph : Phase} (h : Driving p o k ph) (ad : BusWord) :
    effect (.targetAnswer .ack ad true) p = (p.acknowledge o ph ad).react := by
  obtain ⟨hstate, hop, -, hph⟩ := h
  simp [effect, Part.takeAnswer, Part.waitingPhase, hstate, hop, hph, Part.answered]

/-- The next phase is driven, and nothing else follows. -/
theorem exec_ack_drives {s : State} {o x : Operation} {k : Fin 8} {ph next : Phase} {ad ad' : BusWord} {count : Nat}
    (hs : Settled s.part) (h : Driving s.part o k ph) (hack : s.part.acknowledge o ph ad = drives s.part x next ad' count) :
    exec (.targetAnswer .ack ad true) s = .next { s with part := drives s.part x next ad' count } :=
  exec_of_effect (by rw [effect_ack h, hack, (hs.drives (by simp [h.1]) x next ad' count).react])

/-! What an acknowledged beat goes on to, by the opcode (R54, R57, R58, R60). -/

/-- A READ takes the beat's data, and delivers after its last. -/
theorem Part.acknowledge_readBeat {o : Operation} (h : o.opcode ≠ .compareSwap) (ad : BusWord) :
    p.acknowledge o .readBeat ad =
      let x := { o with acked := o.acked + 1 }
      let q := p.onMaster fun m =>
        { m with staging := m.staging ++ leBytes o.width ad.toNat, operation := some x }
      if x.beats ≤ x.acked then q.endOperation x .clean else q.present x .readBeat := by
  unfold Part.acknowledge
  dsimp only
  split
  · next hc => exact absurd hc h
  all_goals rfl

theorem Part.acknowledge_writeBeat {o : Operation} (h : o.opcode ≠ .compareSwap) (ad : BusWord) :
    p.acknowledge o .writeBeat ad =
      let x := { o with acked := o.acked + 1 }
      let q := p.modOperation fun _ => x
      if x.beats ≤ x.acked then q.endOperation x .clean else q.present x .writeBeat := by
  unfold Part.acknowledge
  dsimp only
  split
  · next hc => exact absurd hc h
  all_goals rfl

/-- A COMPARE_SWAP keeps the word it read, and writes where it equals the compare value. -/
theorem Part.acknowledge_lockedRead {o : Operation} (h : o.opcode = .compareSwap) (ad : BusWord) :
    p.acknowledge o .readBeat ad =
      let x := { o with acked := o.acked + 1, oldValue := some ad }
      (p.modOperation fun _ => x).present x (if ad = recCompare (p.recordOf o) then .writeBeat else .endLock) := by
  unfold Part.acknowledge
  dsimp only
  split
  · rfl
  all_goals
    next hc =>
    rw [h] at hc
    cases hc

theorem Part.acknowledge_lockedWrite {o : Operation} (h : o.opcode = .compareSwap) (ad : BusWord) :
    p.acknowledge o .writeBeat ad =
      let x := { o with acked := o.acked + 1 }
      (p.modOperation fun _ => x).present x .endLock := by
  unfold Part.acknowledge
  dsimp only
  split
  · rfl
  all_goals
    next hc =>
    rw [h] at hc
    cases hc

/-- A READ delivers its acknowledged beats before it reports; any other burst reports (R55). -/
theorem Part.endOperation_of_burst {o : Operation} {k : Fin 8} (h : o.slot = some k) (e : OperationEnd) :
    p.endOperation o e = if o.opcode = .read ∧ 0 < o.acked ∧ p.engine.state ≠ .failed then
      (p.onMaster fun m =>
        { m with
          state := .delivering
          operation := some { o with phase := none, ending := e } }).ask .master
            (.write (recBuffer (p.slot k).record + BitVec.ofNat 64 o.start)
              (p.master.staging.take o.ackedBytes))
      else p.reportBurst o k e o.ackedBytes true := by
  unfold Part.endOperation
  split
  · next hn => rw [h] at hn; cases hn
  · next j hj =>
    rw [h] at hj
    cases hj
    rfl

theorem waitingPhase_of_idle (hd : p.master.state ≠ .driving) (hc : p.master.state ≠ .closing) :
    p.waitingPhase = none := by
  unfold Part.waitingPhase
  split <;> simp_all

/-- Settles O31. -/
theorem burstPhasesFollowTheirAnswers : Obligations.BurstPhasesFollowTheirAnswers := by
  refine ⟨fun s ad => exec_of_effect ?_, fun s a ad good hd hc => ⟨exec_of_effect ?_, exec_of_effect ?_⟩,
    fun s o k ad hs hop => ⟨fun h => ?_, fun h hmore => ?_, fun h hlast halive => ?_⟩,
    fun s o k ad hs hop => ⟨fun h hacked => ?_, fun h hmore => ?_⟩,
    fun s o k ad b0 b1 b2 node hs hop hnode h0 h1 h2 => ⟨fun h hacked => ?_, fun h hbeats => ?_⟩⟩
  · simp only [effect, Part.takeAnswer]
    split <;> simp
  · simp [effect, Part.takeAnswer, waitingPhase_of_idle hd hc]
  · simp [effect, Part.expireResponse, waitingPhase_of_idle hd hc]
  · exact exec_ack_drives hs h (Part.present_eq h.2.1 .readBeat)
  · have hack : s.part.acknowledge o .readBeat ad = drives
        { s.part with master := { s.part.master with staging := s.part.master.staging ++ leBytes o.width ad.toNat } }
        { o with acked := o.acked + 1 } .readBeat 0#32 0 := by
      rw [Part.acknowledge_readBeat (by simp [hop])]
      refine (if_neg (by simpa using hmore)).trans ?_
      exact Part.present_eq rfl .readBeat
    have hsettled : Settled { s.part with master :=
        { s.part.master with staging := s.part.master.staging ++ leBytes o.width ad.toNat } } :=
      hs.congr (s.part.sameDue_onMaster (f := fun m => { m with staging := m.staging ++ leBytes o.width ad.toNat }) rfl)
    refine exec_of_effect ?_
    rw [effect_ack h, hack]
    exact (hsettled.drives (by simp [h.1]) _ _ _ _).react
  · set q := (s.part.onMaster fun m =>
      { state := .delivering, staging := m.staging ++ leBytes o.width ad.toNat,
        operation := some { o with acked := o.acked + 1, phase := none, ending := .clean } }).ask .master
        (.write (recBuffer (s.part.slot k).record + BitVec.ofNat 64 o.start)
          ((s.part.master.staging ++ leBytes o.width ad.toNat).take ((o.acked + 1) * o.width))) with hq
    have hack : s.part.acknowledge o .readBeat ad = q := by
      rw [Part.acknowledge_readBeat (by simp [hop])]
      refine (if_pos hlast.le).trans ?_
      refine (Part.endOperation_of_burst (o := { o with acked := o.acked + 1 }) (k := k) h.2.2.1 _).trans ?_
      exact if_pos ⟨hop, Nat.succ_pos _, halive⟩
    have hkeeps : s.part.Keeps [.host, .master] q := by simp [hq]
    have hsettled : Settled q := hs.of_busy (hkeeps.mono (by simp)) rfl (by simp [hq]) fun _ hx =>
      Part.hasAccess_ask hx
    have heffect : effect (.targetAnswer .ack ad true) s.part = q := by rw [effect_ack h, hack, hsettled.react]
    refine ⟨_, exec_of_effect heffect, rfl, by simp [hq, hlast], ?_, onlyChanges_iff.2 ⟨rfl, hkeeps.mono (by simp)⟩⟩
    rw [hlast]
    exact (Part.ask_request ..).trans (if_pos rfl)
  · refine exec_ack_drives hs h ((Part.present_eq h.2.1 .writeBeat).trans ?_)
    simp [Part.phaseAd, Part.writeBeatData, hop, hacked, Phase.beatCount]
  · refine exec_ack_drives hs h ?_
    rw [Part.acknowledge_writeBeat (by simp [hop])]
    refine (if_neg (by simpa using hmore)).trans ?_
    refine (Part.modOperation_present h.2.1 _ .writeBeat).trans ?_
    simp [Part.phaseAd, Part.writeBeatData, hop, Phase.beatCount]
  · refine exec_ack_drives hs h ((Part.present_eq h.2.1 .writeBeat).trans ?_)
    simp [Part.phaseAd, Part.writeBeatData, hop, hacked, Phase.beatCount, Part.noticeBeat, h0,
      NoticeUnit.sourceNode, hnode, Part.recordOf_slot h.2.2.1]
  · have hnext (hmore : o.acked + 1 < 4) : exec (.targetAnswer .ack ad true) s = .next { s with part :=
        (drives s.part { o with acked := o.acked + 1 } .writeBeat
          (s.part.noticeBeat (s.part.slot k).record (o.acked + 1)) 0) } := by
      refine exec_ack_drives hs h ?_
      rw [Part.acknowledge_writeBeat (by simp [hop])]
      refine (if_neg (by dsimp only; omega)).trans ?_
      refine (Part.modOperation_present h.2.1 _ .writeBeat).trans ?_
      simp [Part.phaseAd, Part.writeBeatData, hop, Phase.beatCount, Part.recordOf, h.2.2.1]
    refine ⟨fun ha => ?_, fun ha => ?_, fun ha => ?_⟩ <;> rw [hnext (by omega)]
    · simp [ha, h1, Part.noticeBeat]
    · simp [ha, h2, Part.noticeBeat]
    · simp [ha, h0, h1, h2, Part.noticeBeat, NoticeUnit.sourceNode, hnode]

/-- Settles O32. -/
theorem lockedSequencesAndPagePhases : Obligations.LockedSequencesAndPagePhases := by
  refine ⟨fun s o k ad hs hop => ⟨fun h => ?_, fun h hequal => ?_, fun h hdiff => ?_, fun h => ?_⟩,
    fun s o k w ad hs hw hbank => ⟨fun h => ?_, fun h => ?_⟩⟩
  · exact exec_ack_drives hs h (Part.modOperation_present h.2.1 _ .readBeat)
  · refine exec_ack_drives hs h ?_
    rw [Part.acknowledge_lockedRead hop, Part.recordOf_slot h.2.2.1, if_pos hequal]
    refine (Part.modOperation_present h.2.1 { o with acked := o.acked + 1, oldValue := some ad } .writeBeat).trans ?_
    simp [Part.phaseAd, Part.writeBeatData, hop, Phase.beatCount, Part.recordOf, h.2.2.1]
  · refine exec_ack_drives hs h ?_
    rw [Part.acknowledge_lockedRead hop, Part.recordOf_slot h.2.2.1, if_neg hdiff]
    exact Part.modOperation_present h.2.1 _ .endLock
  · refine exec_ack_drives hs h ?_
    rw [Part.acknowledge_lockedWrite hop]
    exact Part.modOperation_present h.2.1 _ .endLock
  · set r := s.part.modBank w o.bank fun _ => .closed with hr
    have hack : s.part.acknowledge o .closePage ad = drives r o .openPage
        ((s.part.window w).openAddress o.bank o.page) 0 := by
      simp only [Part.acknowledge, h.2.2.1, Part.onOperationWindow, hw]
      refine (Part.present_eq (p := r) h.2.1 .openPage).trans ?_
      simp only [Part.phaseAd, hw, hr, Part.modBank_window, if_true]
      rfl
    have hkeeps : s.part.Keeps [.windows, .master, .out] (drives r o .openPage
        ((s.part.window w).openAddress o.bank o.page) 0) :=
      Part.Keeps.trans (q := r) (by simp [hr]) ((drives_keeps _ _ _ _ _).mono (by simp))
    have hsettled := hs.of_busy (hkeeps.mono (by simp)) (s.part.settleView_modBank w o.bank fun _ => .closed)
      (by simp [drives, hr, h.1]) fun _ => id
    have heffect := (effect_ack h ad).trans ((congrArg Part.react hack).trans hsettled.react)
    refine ⟨_, exec_of_effect heffect, ?_, fun b hb => ?_, fun v hv => ?_, rfl, rfl,
      onlyChanges_iff.2 ⟨rfl, hkeeps⟩⟩
    · exact (Part.modBank_bank? ..).trans (by simp [hbank])
    · exact (Part.modBank_bank? ..).trans (by simp [hb])
    · exact (Part.modBank_window ..).trans (if_neg hv)
  · set r := s.part.modBank w o.bank fun _ => .openedWith o.page (s.part.window w).openLimit with hr
    have hpresent : s.part.acknowledge o .openPage ad = r.present o o.opcode.addressPhase := by
      simp only [Part.acknowledge, Part.onOperationWindow, hw]
      rfl
    have hack := hpresent.trans (Part.present_eq (p := r) h.2.1 o.opcode.addressPhase)
    rw [r.phaseAd_addressPhase o, Phase.beatCount_addressPhase] at hack
    have hkeeps : s.part.Keeps [.windows, .master, .out] (r.present o o.opcode.addressPhase) := by simp [hr]
    have hsettled := hs.of_busy (hkeeps.mono (by simp)) (s.part.settleView_modBank w o.bank _)
      (by simp [Part.present, Part.modOperation, hr, h.1]) fun _ => id
    rw [← hpresent, hack] at hsettled hkeeps
    have heffect := (effect_ack h ad).trans ((congrArg Part.react hack).trans hsettled.react)
    refine ⟨_, exec_of_effect heffect, ?_, fun b hb => ?_, fun v hv => ?_, rfl, fun hop => ?_,
      onlyChanges_iff.2 ⟨rfl, hkeeps⟩⟩
    · exact (Part.modBank_bank? ..).trans (by simp [hbank, Bank.openedWith])
    · exact (Part.modBank_bank? ..).trans (by simp [hb])
    · exact (Part.modBank_window ..).trans (if_neg hv)
    · change s.part.out ++ [.phase o.opcode.addressPhase.code _ _] = _
      rw [if_pos hop]
      rcases hop with hop | hop | hop <;> simp [hop]

end Sys2Proof.Machine
end

section
/-! The rules of the Dispatch Queue's own operations, field by field: a reservation released, a slot that goes FREE,
slots returned, a record discarded, a ring halted (R13 to R17, R41, R43, R75, R115, R116). -/

-- One declaration at a time: every further thread counts against the memory the check allows.
set_option Elab.async false

namespace Sys2Proof.Machine

variable {p q : Part}

/-! ### What does not depend on the queue -/

/-- No flush waits for an entry, so that a release grants none (R20, R115). -/
def Part.NoFlush (p : Part) : Prop := ∀ f, p.admin.state ≠ .waiting (.flushRing f)

theorem Part.NoFlush.of_admin (h : p.NoFlush) (hq : q.admin = p.admin := by rfl) : q.NoFlush := fun f => by
  rw [hq]
  exact h f

/-- Whether a slot is found fenced depends on its ring, its window and the engine (R28). -/
theorem Part.considered_congr {s : Slot} (hengine : q.engine.state = p.engine.state)
    (hring : { q.ring s.ring with producer := 0, evictionBar := false, fetchIndex := 0 } =
      { p.ring s.ring with producer := 0, evictionBar := false, fetchIndex := 0 })
    (hwindow : ∀ w, (q.window w).readsFenced = (p.window w).readsFenced) : q.considered s = p.considered s := by
  have horder : (q.ring s.ring).order = (p.ring s.ring).order := by simpa using congrArg SubmissionRing.order hring
  have hconsumer : (q.ring s.ring).consumer = (p.ring s.ring).consumer := by
    simpa using congrArg SubmissionRing.consumer hring
  have hmet : q.orderMet s = p.orderMet s := by simp only [Part.orderMet, horder, hconsumer]
  have hfenced : q.slotFenced s = p.slotFenced s := by
    unfold Part.slotFenced
    split
    · exact hwindow _
    · rfl
  have hfound : q.foundFenced s = p.foundFenced s := by rw [Part.foundFenced, Part.foundFenced, hengine, hmet, hfenced]
  rw [Part.considered_eq, Part.considered_eq, hfound]

theorem Part.considered_of_not_deferred {s : Slot} (h : s.deferred = false) : p.considered s = s := by
  cases s
  simp only at h
  subst h
  simp [Part.considered_eq]

@[simp] theorem Part.considered_empty (p : Part) : p.considered .empty = .empty :=
  Part.considered_of_not_deferred rfl

/-! ### A reservation is released (R116) -/

/-- The reservation of what gives it up is released, where it has one. -/
def Part.released (p : Part) (c : Option (Fin 8)) : Part :=
  match c with
  | some c => p.unreserve c
  | none => p

theorem Part.released_keeps (p : Part) (c : Option (Fin 8)) : p.Keeps [.admin, .compl] (p.released c) := by
  cases c <;> simp [Part.released]

@[simp] theorem Part.keeps_released {l : List Region} (c : Option (Fin 8)) (hl : [.admin, .compl] ⊆ l) :
    p.Keeps l (q.released c) ↔ p.Keeps l q := (q.released_keeps c).iff hl

@[simp] theorem Part.released_fetch (p : Part) (c : Option (Fin 8)) : (p.released c).fetch = p.fetch :=
  (p.released_keeps c).fetch
@[simp] theorem Part.released_sched (p : Part) (c : Option (Fin 8)) : (p.released c).sched = p.sched :=
  (p.released_keeps c).sched
@[simp] theorem Part.released_ring (p : Part) (c : Option (Fin 8)) (r : Fin 8) : (p.released c).ring r = p.ring r :=
  (p.released_keeps c).ring r
@[simp] theorem Part.released_slot (p : Part) (c : Option (Fin 8)) (k : Fin 8) : (p.released c).slot k = p.slot k :=
  (p.released_keeps c).slot k
@[simp] theorem Part.released_window (p : Part) (c : Option (Fin 8)) (w : Fin 16) :
    (p.released c).window w = p.window w := (p.released_keeps c).window w
@[simp] theorem Part.released_stats (p : Part) (c : Option (Fin 8)) : (p.released c).stats = p.stats :=
  (p.released_keeps c).stats
@[simp] theorem Part.released_fifo (p : Part) (c : Option (Fin 8)) : (p.released c).compl.fifo = p.compl.fifo := by
  cases c <;> simp [Part.released]
@[simp] theorem Part.released_adminHeld (p : Part) (c : Option (Fin 8)) :
    (p.released c).compl.adminHeld = p.compl.adminHeld := by
  cases c <;> simp [Part.released]
@[simp] theorem Part.released_adminRing (p : Part) (c : Option (Fin 8)) :
    (p.released c).compl.adminRing = p.compl.adminRing := by
  cases c <;> simp [Part.released]

theorem Part.NoFlush.released_eq (h : p.NoFlush) (c : Option (Fin 8)) : p.released c =
    match c with
    | some c => p.modCring c fun x => { x with reserved := x.reserved - 1 }
    | none => p := by
  cases c with
  | none => rfl
  | some c => exact Part.unreserve_eq c h

theorem Part.NoFlush.released_admin (h : p.NoFlush) (c : Option (Fin 8)) : (p.released c).admin = p.admin := by
  rw [h.released_eq]
  cases c <;> rfl

/-- Without a flush that waits, a release lowers the reserved count of its ring by one, and nothing else. -/
theorem Part.NoFlush.released_cring (h : p.NoFlush) (x : Option (Fin 8)) (c : Fin 8) : (p.released x).cring c =
    { p.cring c with reserved := (p.cring c).reserved - if x = some c then 1 else 0 } := by
  rw [h.released_eq]
  cases x with
  | none => simp
  | some d =>
    simp only [Part.modCring_cring, Option.some_inj]
    by_cases hc : c = d
    · simp [hc]
    · simp [hc, Ne.symm hc]

/-! ### A slot goes FREE (R14, R41) -/

@[simp] theorem Part.modRing_admission (p : Part) (r : Fin 8) (f : SubmissionRing → SubmissionRing) :
    (p.modRing r f).fetch.admission = p.fetch.admission := rfl
@[simp] theorem Part.modRing_flight (p : Part) (r : Fin 8) (f : SubmissionRing → SubmissionRing) :
    (p.modRing r f).fetch.flight = p.fetch.flight := rfl
@[simp] theorem Part.modRing_lastChosen (p : Part) (r : Fin 8) (f : SubmissionRing → SubmissionRing) :
    (p.modRing r f).fetch.lastChosen = p.fetch.lastChosen := rfl

@[simp] theorem Part.freeSlot_slot (p : Part) (k j : Fin 8) :
    (p.freeSlot k).slot j = if j = k then .empty else p.slot j := p.modSlot_slot k j fun _ => .empty
@[simp] theorem Part.freeSlot_ring (p : Part) (k r : Fin 8) :
    (p.freeSlot k).ring r = { p.ring r with evictionBar := false } := Part.clearBars_ring _ r
@[simp] theorem Part.freeSlot_age (p : Part) (k : Fin 8) : (p.freeSlot k).sched.age = p.sched.age.erase k := rfl
@[simp] theorem Part.freeSlot_waiters (p : Part) (k : Fin 8) : (p.freeSlot k).sched.waiters = p.sched.waiters := rfl
@[simp] theorem Part.freeSlot_sequence (p : Part) (k : Fin 8) : (p.freeSlot k).sched.sequence = p.sched.sequence := rfl
@[simp] theorem Part.freeSlot_admission (p : Part) (k : Fin 8) :
    (p.freeSlot k).fetch.admission = p.fetch.admission := rfl
@[simp] theorem Part.freeSlot_flight (p : Part) (k : Fin 8) : (p.freeSlot k).fetch.flight = p.fetch.flight := rfl
@[simp] theorem Part.freeSlot_lastChosen (p : Part) (k : Fin 8) :
    (p.freeSlot k).fetch.lastChosen = p.fetch.lastChosen := rfl
@[simp] theorem Part.freeSlot_window (p : Part) (k : Fin 8) (w : Fin 16) : (p.freeSlot k).window w = p.window w := rfl
@[simp] theorem Part.freeSlot_cring (p : Part) (k c : Fin 8) : (p.freeSlot k).cring c = p.cring c := rfl

/-- A slot leaves its window, which has one slot fewer in flight (R75). -/
@[simp] theorem Part.leaveWindow_window (p : Part) (x : Option (Fin 16)) (w : Fin 16) : (p.leaveWindow x).window w =
    { p.window w with inFlight := (p.window w).inFlight - if x = some w then 1 else 0 } := by
  cases x with
  | none => simp [Part.leaveWindow]
  | some v =>
    simp only [Part.leaveWindow, Part.modWindow_window, Option.some_inj]
    by_cases hw : w = v
    · simp [hw]
    · simp [hw, Ne.symm hw]

@[simp] theorem Part.leaveWindow_fetch (p : Part) (x : Option (Fin 16)) : (p.leaveWindow x).fetch = p.fetch :=
  (p.leaveWindow_keeps x).fetch
@[simp] theorem Part.leaveWindow_sched (p : Part) (x : Option (Fin 16)) : (p.leaveWindow x).sched = p.sched :=
  (p.leaveWindow_keeps x).sched
@[simp] theorem Part.leaveWindow_compl (p : Part) (x : Option (Fin 16)) : (p.leaveWindow x).compl = p.compl :=
  (p.leaveWindow_keeps x).compl
@[simp] theorem Part.leaveWindow_ring (p : Part) (x : Option (Fin 16)) (r : Fin 8) : (p.leaveWindow x).ring r = p.ring r :=
  (p.leaveWindow_keeps x).ring r
@[simp] theorem Part.leaveWindow_slot (p : Part) (x : Option (Fin 16)) (k : Fin 8) : (p.leaveWindow x).slot k = p.slot k :=
  (p.leaveWindow_keeps x).slot k
@[simp] theorem Part.leaveWindow_cring (p : Part) (x : Option (Fin 16)) (c : Fin 8) : (p.leaveWindow x).cring c = p.cring c :=
  (p.leaveWindow_keeps x).cring c

/-! ### A slot is vacated: evicted or returned (R13, R16, R43) -/

theorem Part.vacate_eq (p : Part) (k : Fin 8) : p.vacate k =
    (((p.released (p.slot k).reservation).leaveWindow (p.slot k).window).modRing (p.slot k).ring fun r =>
      r.giveBack (p.slot k).index).freeSlot k := rfl

@[simp] theorem Part.vacate_slot (p : Part) (k j : Fin 8) :
    (p.vacate k).slot j = if j = k then .empty else p.slot j := by
  rw [Part.vacate_eq, Part.freeSlot_slot]
  simp

@[simp] theorem Part.vacate_window (p : Part) (k : Fin 8) (w : Fin 16) : (p.vacate k).window w =
    { p.window w with inFlight := (p.window w).inFlight - if (p.slot k).window = some w then 1 else 0 } := by
  rw [Part.vacate_eq]
  simp

theorem Part.vacate_ring (p : Part) (k r : Fin 8) : (p.vacate k).ring r =
    { (if r = (p.slot k).ring then (p.ring r).giveBack (p.slot k).index else p.ring r) with evictionBar := false } := by
  rw [Part.vacate_eq, Part.freeSlot_ring, Part.modRing_ring]
  simp

@[simp] theorem Part.vacate_age (p : Part) (k : Fin 8) : (p.vacate k).sched.age = p.sched.age.erase k := by
  rw [Part.vacate_eq]
  simp
@[simp] theorem Part.vacate_waiters (p : Part) (k : Fin 8) : (p.vacate k).sched.waiters = p.sched.waiters := by
  rw [Part.vacate_eq]
  simp
@[simp] theorem Part.vacate_sequence (p : Part) (k : Fin 8) : (p.vacate k).sched.sequence = p.sched.sequence := by
  rw [Part.vacate_eq]
  simp
@[simp] theorem Part.vacate_admission (p : Part) (k : Fin 8) : (p.vacate k).fetch.admission = p.fetch.admission := by
  rw [Part.vacate_eq]
  simp
@[simp] theorem Part.vacate_flight (p : Part) (k : Fin 8) : (p.vacate k).fetch.flight = p.fetch.flight := by
  rw [Part.vacate_eq]
  simp
@[simp] theorem Part.vacate_lastChosen (p : Part) (k : Fin 8) : (p.vacate k).fetch.lastChosen = p.fetch.lastChosen := by
  rw [Part.vacate_eq]
  simp
@[simp] theorem Part.vacate_fifo (p : Part) (k : Fin 8) : (p.vacate k).compl.fifo = p.compl.fifo := by
  rw [Part.vacate_eq]
  simp [Part.freeSlot, Part.clearBars]
@[simp] theorem Part.vacate_adminHeld (p : Part) (k : Fin 8) : (p.vacate k).compl.adminHeld = p.compl.adminHeld := by
  rw [Part.vacate_eq]
  simp [Part.freeSlot, Part.clearBars]
@[simp] theorem Part.vacate_adminRing (p : Part) (k : Fin 8) : (p.vacate k).compl.adminRing = p.compl.adminRing := by
  rw [Part.vacate_eq]
  simp [Part.freeSlot, Part.clearBars]

theorem Part.NoFlush.vacate_admin (h : p.NoFlush) (k : Fin 8) : (p.vacate k).admin = p.admin := by
  rw [Part.vacate_eq, ← h.released_admin (p.slot k).reservation]
  exact (Part.leaveWindow_keeps _ _).admin

theorem Part.NoFlush.vacate_cring (h : p.NoFlush) (k c : Fin 8) : (p.vacate k).cring c =
    { p.cring c with reserved := (p.cring c).reserved - if (p.slot k).reservation = some c then 1 else 0 } := by
  rw [Part.vacate_eq, Part.freeSlot_cring, ← h.released_cring]
  exact Part.leaveWindow_cring _ _ c

/-! ### The HELD slots of a ring are returned (R16, R43) -/

/-- What the ring takes back with the slots `l`, one after the other. -/
def Part.takenBack (p : Part) (l : List (Fin 8)) (r : SubmissionRing) : SubmissionRing :=
  l.foldl (fun x k => x.giveBack (p.slot k).index) r

theorem Part.takenBack_evictionBar (p : Part) (l : List (Fin 8)) (r : SubmissionRing) (b : Bool) :
    p.takenBack l { r with evictionBar := b } = { p.takenBack l r with evictionBar := b } := by
  unfold Part.takenBack
  induction l generalizing r with
  | nil => rfl
  | cons k l ih => exact ih (r.giveBack (p.slot k).index)

/-- The slots `l` have been returned, one after the other. -/
def Part.returned (p : Part) (l : List (Fin 8)) : Part := l.foldl Part.returnSlot p

theorem Part.returnAll_eq (p : Part) (r : Fin 8) : p.returnAll r = p.returned (p.heldSlots r) := rfl

theorem Part.returnSlot_slot (p : Part) (k j : Fin 8) :
    (p.returnSlot k).slot j = if j = k then .empty else p.slot j := p.vacate_slot k j

theorem Part.returned_slot (p : Part) (l : List (Fin 8)) (j : Fin 8) :
    (p.returned l).slot j = if j ∈ l then .empty else p.slot j := by
  induction l generalizing p with
  | nil => simp [Part.returned]
  | cons k l ih =>
    refine (ih (p.returnSlot k)).trans ?_
    rw [Part.returnSlot_slot]
    by_cases hl : j ∈ l <;> by_cases hk : j = k <;> simp [hl, hk]

/-- The slots not yet returned are as they were. -/
theorem Part.returnSlot_other {k : Fin 8} {l : List (Fin 8)} (h : k ∉ l) : ∀ j ∈ l, (p.returnSlot k).slot j = p.slot j :=
  fun j hj => by
    rw [Part.returnSlot_slot, if_neg]
    rintro rfl
    exact h hj

theorem Part.returned_window (p : Part) {l : List (Fin 8)} (hl : l.Nodup) (w : Fin 16) : (p.returned l).window w =
    { p.window w with
      inFlight := (p.window w).inFlight - l.countP fun k => (p.slot k).window == some w } := by
  induction l generalizing p with
  | nil => simp [Part.returned]
  | cons k l ih =>
    obtain ⟨hk, hl⟩ := List.nodup_cons.1 hl
    have hcount : l.countP (fun j => ((p.returnSlot k).slot j).window == some w) =
        l.countP fun j => (p.slot j).window == some w :=
      List.countP_congr fun j hj => by rw [Part.returnSlot_other hk j hj]
    have hwindow : (p.returnSlot k).window w = _ := p.vacate_window k w
    refine (ih (p.returnSlot k) hl).trans ?_
    rw [hcount, List.countP_cons]
    rw [hwindow]
    by_cases hw : (p.slot k).window = some w
    · simp [hw, Nat.sub_sub, Nat.add_comm]
    · simp [hw]

theorem Part.NoFlush.returned_admin (h : p.NoFlush) (l : List (Fin 8)) : (p.returned l).admin = p.admin := by
  induction l generalizing p with
  | nil => rfl
  | cons k l ih =>
    have hk : (p.returnSlot k).admin = p.admin := h.vacate_admin k
    exact (ih (h.of_admin hk)).trans hk

theorem Part.NoFlush.returned_cring (h : p.NoFlush) {l : List (Fin 8)} (hl : l.Nodup) (c : Fin 8) :
    (p.returned l).cring c = { p.cring c with
      reserved := (p.cring c).reserved - l.countP fun k => (p.slot k).reservation == some c } := by
  induction l generalizing p with
  | nil => simp [Part.returned]
  | cons k l ih =>
    obtain ⟨hk, hl⟩ := List.nodup_cons.1 hl
    have hcount : l.countP (fun j => ((p.returnSlot k).slot j).reservation == some c) =
        l.countP fun j => (p.slot j).reservation == some c :=
      List.countP_congr fun j hj => by rw [Part.returnSlot_other hk j hj]
    have hcring : (p.returnSlot k).cring c = _ := h.vacate_cring k c
    have hflush : (p.returnSlot k).NoFlush := h.of_admin (h.vacate_admin k)
    refine (ih hflush hl).trans ?_
    rw [hcount, List.countP_cons, hcring]
    by_cases hc : (p.slot k).reservation = some c
    · simp [hc, Nat.sub_sub, Nat.add_comm]
    · simp [hc]

/-- A ring takes back the positions of its own slots; where any goes FREE, every bar clears. -/
theorem Part.returned_ring (p : Part) {l : List (Fin 8)} (hl : l.Nodup) {r : Fin 8} (hr : ∀ k ∈ l, (p.slot k).ring = r)
    (q : Fin 8) : (p.returned l).ring q =
      { (if q = r then p.takenBack l (p.ring q) else p.ring q) with
        evictionBar := (p.ring q).evictionBar && l.isEmpty } := by
  induction l generalizing p with
  | nil => simp [Part.returned, Part.takenBack]
  | cons k l ih =>
    obtain ⟨hk, hl⟩ := List.nodup_cons.1 hl
    have hother := Part.returnSlot_other (p := p) hk
    have hring : (p.returnSlot k).ring q = _ := p.vacate_ring k q
    rw [hr k (by simp)] at hring
    refine (ih (p.returnSlot k) hl fun j hj => ?_).trans ?_
    · rw [hother j hj]
      exact hr j (by simp [hj])
    · have hbacks (x : SubmissionRing) : (p.returnSlot k).takenBack l x = p.takenBack l x := by
        unfold Part.takenBack
        refine List.foldl_ext _ _ _ fun y j hj => ?_
        rw [hother j hj]
      rw [hbacks, hring]
      by_cases hq : q = r
      · simp only [if_pos hq, Bool.false_and, List.isEmpty_cons, Bool.and_false, Part.takenBack_evictionBar]
        rfl
      · simp [hq]

/-- What no slot's return changes, no return of several changes. -/
theorem Part.returned_same {α : Type} (f : Part → α) (h : ∀ p k, f (Part.returnSlot p k) = f p) (p : Part) (l : List (Fin 8)) :
    f (p.returned l) = f p := by
  induction l generalizing p with
  | nil => rfl
  | cons k l ih => exact (ih (p.returnSlot k)).trans (h p k)

@[simp] theorem Part.returned_waiters (p : Part) (l : List (Fin 8)) : (p.returned l).sched.waiters = p.sched.waiters :=
  Part.returned_same (fun p => p.sched.waiters) (fun p k => p.vacate_waiters k) p l
@[simp] theorem Part.returned_sequence (p : Part) (l : List (Fin 8)) : (p.returned l).sched.sequence = p.sched.sequence :=
  Part.returned_same (fun p => p.sched.sequence) (fun p k => p.vacate_sequence k) p l
@[simp] theorem Part.returned_admission (p : Part) (l : List (Fin 8)) : (p.returned l).fetch.admission = p.fetch.admission :=
  Part.returned_same (fun p => p.fetch.admission) (fun p k => p.vacate_admission k) p l
@[simp] theorem Part.returned_flight (p : Part) (l : List (Fin 8)) : (p.returned l).fetch.flight = p.fetch.flight :=
  Part.returned_same (fun p => p.fetch.flight) (fun p k => p.vacate_flight k) p l
@[simp] theorem Part.returned_lastChosen (p : Part) (l : List (Fin 8)) : (p.returned l).fetch.lastChosen = p.fetch.lastChosen :=
  Part.returned_same (fun p => p.fetch.lastChosen) (fun p k => p.vacate_lastChosen k) p l
@[simp] theorem Part.returned_fifo (p : Part) (l : List (Fin 8)) : (p.returned l).compl.fifo = p.compl.fifo :=
  Part.returned_same (fun p => p.compl.fifo) (fun p k => p.vacate_fifo k) p l
@[simp] theorem Part.returned_adminHeld (p : Part) (l : List (Fin 8)) : (p.returned l).compl.adminHeld = p.compl.adminHeld :=
  Part.returned_same (fun p => p.compl.adminHeld) (fun p k => p.vacate_adminHeld k) p l
@[simp] theorem Part.returned_adminRing (p : Part) (l : List (Fin 8)) : (p.returned l).compl.adminRing = p.compl.adminRing :=
  Part.returned_same (fun p => p.compl.adminRing) (fun p k => p.vacate_adminRing k) p l

theorem Part.returned_age (p : Part) (l : List (Fin 8)) : (p.returned l).sched.age = l.foldl List.erase p.sched.age := by
  induction l generalizing p with
  | nil => rfl
  | cons k l ih =>
    have hage : (p.returnSlot k).sched.age = p.sched.age.erase k := p.vacate_age k
    exact (ih (p.returnSlot k)).trans (by rw [hage]; rfl)

theorem Part.returned_stats (p : Part) (l : List (Fin 8)) :
    (p.returned l).stats = { p.stats with returns := satSucc^[l.length] p.stats.returns } := by
  induction l generalizing p with
  | nil => rfl
  | cons k l ih =>
    have hstats : (p.returnSlot k).stats = { p.stats with returns := satSucc p.stats.returns } :=
      congrArg (fun t : Stats => { t with returns := satSucc t.returns }) (p.vacate_keeps k).stats
    refine (ih (p.returnSlot k)).trans ?_
    rw [hstats]
    rfl

/-- A returned position is NOT_ADMITTED; nothing else of the ring has changed but its held count and links. -/
theorem Part.takenBack_eq (p : Part) (l : List (Fin 8)) (r : SubmissionRing) : p.takenBack l r =
    { r with
      span := (p.takenBack l r).span, links := (p.takenBack l r).links, heldCount := r.heldCount - l.length } := by
  unfold Part.takenBack
  induction l generalizing r with
  | nil => rfl
  | cons k l ih =>
    refine (ih (r.giveBack (p.slot k).index)).trans ?_
    simp [SubmissionRing.giveBack, SubmissionRing.setSpan, SubmissionRing.setLink, Nat.sub_sub, Nat.add_comm]

theorem SubmissionRing.giveBack_spanOffset (r : SubmissionRing) (n i : Nat) :
    (r.giveBack n).spanOffset i = r.spanOffset i := rfl

theorem SubmissionRing.giveBack_spanMark (r : SubmissionRing) (n i : Nat) : (r.giveBack n).spanMark i =
    if r.spanOffset i = r.spanOffset n then .notAdmitted else r.spanMark i := by
  change (r.span.set (r.spanOffset n) .notAdmitted).getD (r.spanOffset i) .notAdmitted = _
  rw [List.getD_eq_getElem?_getD, List.getElem?_set]
  by_cases h : r.spanOffset i = r.spanOffset n
  · by_cases hlt : r.spanOffset n < r.span.length <;> simp [h, hlt]
  · simp [h, Ne.symm h, SubmissionRing.spanMark]

theorem Part.takenBack_spanMark (p : Part) (l : List (Fin 8)) (r : SubmissionRing) (i : Nat) :
    (p.takenBack l r).spanMark i =
      if ∃ k ∈ l, r.spanOffset i = r.spanOffset (p.slot k).index then .notAdmitted else r.spanMark i := by
  unfold Part.takenBack
  induction l generalizing r with
  | nil => simp
  | cons k l ih =>
    refine (ih (r.giveBack (p.slot k).index)).trans ?_
    simp only [SubmissionRing.giveBack_spanOffset, SubmissionRing.giveBack_spanMark, List.mem_cons, exists_eq_or_imp]
    by_cases hk : r.spanOffset i = r.spanOffset (p.slot k).index
    · simp [hk]
    · simp [hk]

/-! ### The record in the admission register and the fetch in flight (R16, R17, R21) -/

/-- The record in the admission register is the ring's and goes, its reservation with it; or nothing changes. -/
theorem Part.discardAdmission_cases (p : Part) (r : Fin 8) :
    (∃ a, p.fetch.admission = some a ∧ a.ring = r ∧ p.discardAdmission r =
      ((p.onFetch fun u => { u with admission := none }).released (some a.reservation)).endHoldFor a.ring a.index)
    ∨ ((∀ a, p.fetch.admission = some a → a.ring ≠ r) ∧ p.discardAdmission r = p) := by
  unfold Part.discardAdmission
  cases h : p.fetch.admission with
  | none => exact .inr ⟨fun a ha => (by cases ha), rfl⟩
  | some a =>
    by_cases ha : a.ring = r
    · exact .inl ⟨a, rfl, ha, if_pos ha⟩
    · refine .inr ⟨fun x hx => ?_, if_neg ha⟩
      cases hx
      exact ha

theorem Part.discardAdmission_fetch (p : Part) (r : Fin 8) : (p.discardAdmission r).fetch =
    { p.fetch with admission := p.fetch.admission.filter fun a => a.ring != r } := by
  rcases p.discardAdmission_cases r with ⟨a, ha, hr, h⟩ | ⟨hno, h⟩
  · rw [h, (Part.endHoldFor_keeps _ _ _).fetch, Part.released_fetch, ha, Option.filter_some_neg (by simp [hr])]
    rfl
  · rw [h]
    cases hadmission : p.fetch.admission with
    | none => exact congrArg (fun x => { p.fetch with admission := x }) hadmission
    | some a =>
      rw [Option.filter_some_pos (by simpa using hno a hadmission), ← hadmission]

@[simp] theorem Part.discardAdmission_ring (p : Part) (r q : Fin 8) : (p.discardAdmission r).ring q = p.ring q := by
  rw [Part.ring, p.discardAdmission_fetch r]
  rfl

theorem Part.NoFlush.discardAdmission_cring (h : p.NoFlush) (r c : Fin 8) : (p.discardAdmission r).cring c =
    { p.cring c with reserved := (p.cring c).reserved
        - p.fetch.admission.toList.countP fun a => a.ring == r && a.reservation == c } := by
  rcases p.discardAdmission_cases r with ⟨a, ha, hr, hd⟩ | ⟨hno, hd⟩
  · have hflush : (p.onFetch fun u => { u with admission := none }).NoFlush := h
    rw [hd, (Part.endHoldFor_keeps _ _ _).cring c, hflush.released_cring, ha]
    by_cases hc : a.reservation = c <;> simp [hr, hc, beq_eq_false_iff_ne.2]
  · rw [hd]
    cases hadmission : p.fetch.admission with
    | none => rfl
    | some a => simp [hno a hadmission]

theorem Part.NoFlush.discardAdmission_admin (h : p.NoFlush) (r : Fin 8) : (p.discardAdmission r).admin = p.admin := by
  rcases p.discardAdmission_cases r with ⟨a, -, -, hd⟩ | ⟨-, hd⟩
  · have hflush : (p.onFetch fun u => { u with admission := none }).NoFlush := h
    rw [hd, (Part.endHoldFor_keeps _ _ _).admin, hflush.released_admin]
    rfl
  · rw [hd]

theorem Part.discardAdmission_fifo (p : Part) (r : Fin 8) : (p.discardAdmission r).compl.fifo = p.compl.fifo := by
  rcases p.discardAdmission_cases r with ⟨a, -, -, hd⟩ | ⟨-, hd⟩
  · rw [hd, (Part.endHoldFor_keeps _ _ _).compl, Part.released_fifo]
    rfl
  · rw [hd]

theorem Part.markFlight_flight (p : Part) (r : Fin 8) : (p.markFlight r).fetch.flight =
    p.fetch.flight.map fun f => { f with discard := f.discard || f.ring == r } := by
  change p.fetch.flight.map _ = _
  congr 1
  funext f
  by_cases hf : f.ring = r <;> simp [hf, beq_eq_false_iff_ne.2]

@[simp] theorem Part.markFlight_ring (p : Part) (r q : Fin 8) : (p.markFlight r).ring q = p.ring q := rfl
@[simp] theorem Part.markFlight_admission (p : Part) (r : Fin 8) :
    (p.markFlight r).fetch.admission = p.fetch.admission := rfl

/-! ### A ring returns what it holds, and its F goes back (R16, R17) -/

theorem Part.heldSlots_nodup (p : Part) (r : Fin 8) : (p.heldSlots r).Nodup := (List.nodup_finRange 8).filter _

theorem Part.mem_heldSlots {p : Part} {r k : Fin 8} : k ∈ p.heldSlots r ↔ (p.slot k).state = .held ∧ (p.slot k).ring = r := by
  simp [Part.heldSlots]

/-- The ring as its returned slots leave it, before F goes back. -/
def Part.ringReturned (p : Part) (r : Fin 8) : SubmissionRing := p.takenBack (p.heldSlots r) (p.ring r)

theorem Part.returnAll_ring (p : Part) (r q : Fin 8) : (p.returnAll r).ring q =
    { (if q = r then p.ringReturned r else p.ring q) with
      evictionBar := (p.ring q).evictionBar && (p.heldSlots r).isEmpty } := by
  rw [Part.returnAll_eq, p.returned_ring (p.heldSlots_nodup r) (fun k hk => (Part.mem_heldSlots.1 hk).2)]
  by_cases hq : q = r
  · subst hq
    rfl
  · simp [hq]

theorem SubmissionRing.rewind_evictionBar (r : SubmissionRing) (o : Option Nat) (b : Bool) :
    ({ r with evictionBar := b }).rewind o = { r.rewind o with evictionBar := b } := by
  cases o <;> rfl

/-- F goes back, and nothing else of the ring changes. -/
theorem SubmissionRing.rewind_eq (r : SubmissionRing) (o : Option Nat) :
    r.rewind o = { r with fetchIndex := (r.rewind o).fetchIndex } := by
  cases o <;> rfl

/-- The part with the slots returned and F gone back, the admission register and the flight still to be looked at. -/
def Part.wentBack (p : Part) (r : Fin 8) : Part := (p.returnAll r).modRing r fun x => x.rewind (p.lowestHeld r)

theorem Part.haltReturns_eq (p : Part) (r : Fin 8) : p.haltReturns r = ((p.wentBack r).discardAdmission r).markFlight r := rfl

theorem Part.haltReturns_ring (p : Part) (r q : Fin 8) : (p.haltReturns r).ring q =
    { (if q = r then (p.ringReturned r).rewind (p.lowestHeld r) else p.ring q) with
      evictionBar := (p.ring q).evictionBar && (p.heldSlots r).isEmpty } := by
  rw [Part.haltReturns_eq, Part.markFlight_ring, Part.discardAdmission_ring, Part.wentBack, Part.modRing_ring,
    Part.returnAll_ring]
  by_cases hq : q = r
  · simp [hq, SubmissionRing.rewind_evictionBar]
  · simp [hq]

theorem Part.haltReturns_sched (p : Part) (r : Fin 8) : (p.haltReturns r).sched = (p.returnAll r).sched :=
  (Part.discardAdmission_keeps (p.wentBack r) r).sched

theorem Part.haltReturns_slot (p : Part) (r j : Fin 8) : (p.haltReturns r).slot j =
    if (p.slot j).state = .held ∧ (p.slot j).ring = r then .empty else p.slot j := by
  have hslot := p.returned_slot (p.heldSlots r) j
  simp only [Part.mem_heldSlots] at hslot
  exact (congrArg (fun u : Scheduler => u.slots.get j) (p.haltReturns_sched r)).trans hslot

theorem Part.haltReturns_window (p : Part) (r : Fin 8) (w : Fin 16) : (p.haltReturns r).window w =
    { p.window w with
      inFlight := (p.window w).inFlight - (p.heldSlots r).countP fun k => (p.slot k).window == some w } :=
  ((Part.discardAdmission_keeps (p.wentBack r) r).window w).trans (p.returned_window (p.heldSlots_nodup r) w)

theorem Part.haltReturns_stats (p : Part) (r : Fin 8) : (p.haltReturns r).stats =
    { p.stats with returns := satSucc^[(p.heldSlots r).length] p.stats.returns } :=
  (Part.discardAdmission_keeps (p.wentBack r) r).stats.trans (p.returned_stats _)

theorem Part.wentBack_admission (p : Part) (r : Fin 8) : (p.wentBack r).fetch.admission = p.fetch.admission :=
  p.returned_admission _

theorem Part.haltReturns_admission (p : Part) (r : Fin 8) :
    (p.haltReturns r).fetch.admission = p.fetch.admission.filter fun a => a.ring != r := by
  rw [Part.haltReturns_eq, Part.markFlight_admission, Part.discardAdmission_fetch, p.wentBack_admission r]

theorem Part.haltReturns_flight (p : Part) (r : Fin 8) : (p.haltReturns r).fetch.flight =
    p.fetch.flight.map fun f => { f with discard := f.discard || f.ring == r } := by
  have hflight : (p.wentBack r).fetch.flight = p.fetch.flight := p.returned_flight _
  rw [Part.haltReturns_eq, Part.markFlight_flight, Part.discardAdmission_fetch, hflight]

theorem Part.haltReturns_lastChosen (p : Part) (r : Fin 8) :
    (p.haltReturns r).fetch.lastChosen = p.fetch.lastChosen := by
  have hlast : (p.wentBack r).fetch.lastChosen = p.fetch.lastChosen := p.returned_lastChosen _
  refine Eq.trans ?_ hlast
  exact (congrArg FetchUnit.lastChosen (Part.discardAdmission_fetch (p.wentBack r) r)).trans rfl

theorem Part.haltReturns_fifo (p : Part) (r : Fin 8) : (p.haltReturns r).compl.fifo = p.compl.fifo :=
  (Part.discardAdmission_fifo (p.wentBack r) r).trans (p.returned_fifo _)

theorem Part.NoFlush.wentBack (h : p.NoFlush) (r : Fin 8) : (p.wentBack r).NoFlush :=
  h.of_admin (h.returned_admin (p.heldSlots r))

theorem Part.NoFlush.haltReturns_admin (h : p.NoFlush) (r : Fin 8) : (p.haltReturns r).admin = p.admin :=
  ((h.wentBack r).discardAdmission_admin r).trans (h.returned_admin (p.heldSlots r))

theorem Part.NoFlush.haltReturns_cring (h : p.NoFlush) (r c : Fin 8) : (p.haltReturns r).cring c = { p.cring c with
    reserved := (p.cring c).reserved - ((p.heldSlots r).countP fun k => (p.slot k).reservation == some c)
      - p.fetch.admission.toList.countP fun a => a.ring == r && a.reservation == c } := by
  have hcring : (p.wentBack r).cring c = _ := h.returned_cring (p.heldSlots_nodup r) c
  refine ((h.wentBack r).discardAdmission_cring r c).trans ?_
  rw [hcring, p.wentBack_admission r]

end Sys2Proof.Machine
end

section
/-! What a settlement does, field by field (R17, R26, R40, R41, R45, R75). -/

-- One declaration at a time: every further thread counts against the memory the check allows.
set_option Elab.async false

namespace Sys2Proof.Machine

variable {p q : Part} {k : Fin 8} {st : Status} {x : BitVec 32}

/-! ### The slot's own part -/

/-- The slot as it settles: POSTING with its final status and result, out of its window (R40). -/
def Slot.concluded (s : Slot) (st : Status) (x : BitVec 32) : Slot :=
  { s with state := .posting, finalStatus := some st, result := x, window := none, deferred := false }

theorem Part.concluded_slot (p : Part) (k : Fin 8) (st : Status) (x : BitVec 32) (j : Fin 8) :
    (p.concluded k st x).slot j = if j = k then (p.slot k).concluded st x else p.slot j := by
  change (Part.leaveWindow _ _).slot j = _
  rw [Part.leaveWindow_slot, Part.modSlot_slot]
  split
  · next h => rw [h]; rfl
  · rfl

theorem Part.concluded_ring (p : Part) (k : Fin 8) (st : Status) (x : BitVec 32) (r : Fin 8) :
    (p.concluded k st x).ring r = if r = (p.slot k).ring then
      (p.ring r).settleAt (p.slot k).index (linkOf (p.slot k).record st) else p.ring r := by
  rw [Part.concluded, Part.modRing_ring, Part.leaveWindow_ring]
  rfl

theorem Part.concluded_window (p : Part) (k : Fin 8) (st : Status) (x : BitVec 32) (w : Fin 16) :
    (p.concluded k st x).window w = { p.window w with
      inFlight := (p.window w).inFlight - if (p.slot k).window = some w then 1 else 0 } :=
  Part.leaveWindow_window _ _ w

theorem Part.concluded_age (p : Part) (k : Fin 8) (st : Status) (x : BitVec 32) :
    (p.concluded k st x).sched.age = p.sched.age := by
  change (Part.leaveWindow _ _).sched.age = _
  rw [Part.leaveWindow_sched]
  rfl

theorem Part.concluded_waiters (p : Part) (k : Fin 8) (st : Status) (x : BitVec 32) :
    (p.concluded k st x).sched.waiters = p.sched.waiters := by
  change (Part.leaveWindow _ _).sched.waiters = _
  rw [Part.leaveWindow_sched]
  rfl

theorem Part.concluded_admission (p : Part) (k : Fin 8) (st : Status) (x : BitVec 32) :
    (p.concluded k st x).fetch.admission = p.fetch.admission := by
  change (Part.leaveWindow _ _).fetch.admission = _
  rw [Part.leaveWindow_fetch]
  rfl

theorem Part.concluded_flight (p : Part) (k : Fin 8) (st : Status) (x : BitVec 32) :
    (p.concluded k st x).fetch.flight = p.fetch.flight := by
  change (Part.leaveWindow _ _).fetch.flight = _
  rw [Part.leaveWindow_fetch]
  rfl

/-! ### The next record of its chain -/

theorem SubmissionRing.settleAt_size (r : SubmissionRing) (n : Nat) (m : LinkMark) : (r.settleAt n m).size = r.size := rfl

/-- The slot `s` is that of the record after slot `k`'s in its chain, and waits for its outcome (R26). -/
def Part.awaits (p : Part) (k : Fin 8) (s : Slot) : Bool :=
  recChain (p.slot k).record && (s.counted && s.ring == (p.slot k).ring && s.index == p.successor k && s.chain == .waiting)

/-- Slot `s` as a settlement of slot `k` leaves it: told of its outcome where it waits for it. -/
def Part.told (p : Part) (k : Fin 8) (st : Status) (s : Slot) : Slot :=
  if p.awaits k s then { s with chain := if st = .success then .success else .failed } else s

/-- The part with the slot concluded and the next record of its chain told. -/
def Part.passes (p : Part) (k : Fin 8) (st : Status) (x : BitVec 32) : Part :=
  (p.concluded k st x).chainTold (p.slot k) st

theorem Part.concluded_size (p : Part) (k : Fin 8) (st : Status) (x : BitVec 32) (r : Fin 8) :
    ((p.concluded k st x).ring r).size = (p.ring r).size := by
  rw [Part.concluded_ring]
  split <;> rfl

theorem Part.passes_slot (p : Part) (k : Fin 8) (st : Status) (x : BitVec 32) (j : Fin 8) :
    (p.passes k st x).slot j = if j = k then (p.slot k).concluded st x else p.told k st (p.slot j) := by
  unfold Part.passes Part.chainTold Part.told Part.awaits
  cases hc : recChain (p.slot k).record
  · simp [Part.concluded_slot]
  · simp only [if_true, Part.resolveChain_slot, Part.concluded_slot, Part.concluded_size, Bool.true_and, Part.successor]
    by_cases hj : j = k
    · simp [hj, Slot.concluded, Slot.counted]
    · simp [hj]

theorem Part.chainTold_age (p : Part) (s : Slot) (st : Status) : (p.chainTold s st).sched.age = p.sched.age := by
  unfold Part.chainTold
  split <;> rfl

theorem Part.chainTold_waiters (p : Part) (s : Slot) (st : Status) :
    (p.chainTold s st).sched.waiters = p.sched.waiters := by
  unfold Part.chainTold
  split <;> rfl

theorem Part.passes_keeps (p : Part) (k : Fin 8) (st : Status) (x : BitVec 32) :
    (p.concluded k st x).Keeps [.sched] (p.passes k st x) := Part.chainTold_keeps _ _ _

theorem Part.passes_fifoOpen (p : Part) (k : Fin 8) (st : Status) (x : BitVec 32) :
    (p.passes k st x).fifoOpen = p.fifoOpen := by
  have hcompl : (p.passes k st x).compl = p.compl :=
    (p.passes_keeps k st x).compl.trans (p.concluded_keeps k st x).compl
  rw [Part.fifoOpen, Part.fifoOpen, hcompl, Part.passes, Part.chainTold_waiters, Part.concluded_waiters]

/-! ### Its completion -/

/-- The slot goes FREE without a completion: QUIET, with SUCCESS (R41). -/
def Slot.quietly (s : Slot) (st : Status) : Bool := recQuiet s.record && st == .success

/-- The part with the slot settled, before a chain hold begins and a ring halts. -/
def Part.completed (p : Part) (k : Fin 8) (st : Status) (x : BitVec 32) : Part :=
  (p.passes k st x).passedOn (p.slot k) k st

theorem Part.completed_eq (p : Part) (k : Fin 8) (st : Status) (x : BitVec 32) : p.completed k st x =
    if (p.slot k).quietly st then ((p.passes k st x).released (p.slot k).reservation).freeSlot k
    else if p.fifoOpen then ((p.passes k st x).enterFifo ((p.slot k).concluded st x).completion).freeSlot k
    else (p.passes k st x).onSched fun u => { u with waiters := u.waiters ++ [.slot k] } := by
  have hslot : (p.passes k st x).slot k = (p.slot k).concluded st x := (p.passes_slot k st x k).trans (if_pos rfl)
  have hcompleted : p.completed k st x =
      if (p.slot k).quietly st then ((p.passes k st x).released (p.slot k).reservation).freeSlot k
      else (p.passes k st x).handOver k := rfl
  rw [hcompleted, Part.handOver, p.passes_fifoOpen, hslot]

theorem Part.settle_completed (p : Part) (k : Fin 8) (st : Status) (x : BitVec 32) : p.settle k st x =
    (((p.completed k st x).beginHold (p.slot k).ring (p.slot k).index (p.slot k).record st).haltOnError
      (p.slot k).ring (p.slot k).index st).considerSlots := rfl

theorem Part.completed_slot (p : Part) (k : Fin 8) (st : Status) (x : BitVec 32) (j : Fin 8) :
    (p.completed k st x).slot j =
      if j = k then (if (p.slot k).quietly st || p.fifoOpen then .empty else (p.slot k).concluded st x)
      else p.told k st (p.slot j) := by
  rw [Part.completed_eq]
  cases hq : (p.slot k).quietly st
  · cases ho : p.fifoOpen
    · exact p.passes_slot k st x j
    · simp only [Bool.false_eq_true, if_false, if_true, Part.freeSlot_slot, Bool.or_true]
      by_cases hj : j = k
      · simp [hj]
      · simp only [if_neg hj]
        exact (p.passes_slot k st x j).trans (if_neg hj)
  · simp only [if_true, Part.freeSlot_slot, Part.released_slot, Bool.true_or]
    by_cases hj : j = k
    · simp [hj]
    · simp only [if_neg hj]
      exact (p.passes_slot k st x j).trans (if_neg hj)

theorem Part.completed_fifo (p : Part) (k : Fin 8) (st : Status) (x : BitVec 32) :
    (p.completed k st x).compl.fifo = p.compl.fifo ++
      if (p.slot k).quietly st = false ∧ p.fifoOpen = true then [((p.slot k).concluded st x).completion] else [] := by
  have hfifo : (p.passes k st x).compl.fifo = p.compl.fifo :=
    congrArg CompletionUnit.fifo ((p.passes_keeps k st x).compl.trans (p.concluded_keeps k st x).compl)
  have hreleased : ((p.passes k st x).released (p.slot k).reservation).compl.fifo = p.compl.fifo := by
    rw [Part.released_fifo, hfifo]
  rw [Part.completed_eq]
  cases hq : (p.slot k).quietly st
  · cases ho : p.fifoOpen
    · simpa using hfifo
    · exact congrArg (· ++ [((p.slot k).concluded st x).completion]) hfifo
  · simp only [if_true, Bool.true_eq_false, false_and, if_false, List.append_nil]
    exact hreleased

theorem Part.completed_waiters (p : Part) (k : Fin 8) (st : Status) (x : BitVec 32) :
    (p.completed k st x).sched.waiters = p.sched.waiters ++
      if (p.slot k).quietly st = false ∧ p.fifoOpen = false then [.slot k] else [] := by
  have hwaiters : (p.passes k st x).sched.waiters = p.sched.waiters := by
    rw [Part.passes, Part.chainTold_waiters, Part.concluded_waiters]
  rw [Part.completed_eq]
  cases hq : (p.slot k).quietly st
  · cases ho : p.fifoOpen
    · exact congrArg (· ++ [.slot k]) hwaiters
    · simpa using hwaiters
  · simpa using hwaiters

theorem Part.passes_ring (p : Part) (k : Fin 8) (st : Status) (x : BitVec 32) (r : Fin 8) :
    (p.passes k st x).ring r = if r = (p.slot k).ring then
      (p.ring r).settleAt (p.slot k).index (linkOf (p.slot k).record st) else p.ring r :=
  ((p.passes_keeps k st x).ring r).trans (p.concluded_ring k st x r)

/-- The ring's position is DONE; every bar clears where the slot goes FREE. -/
theorem Part.completed_ring (p : Part) (k : Fin 8) (st : Status) (x : BitVec 32) (r : Fin 8) :
    (p.completed k st x).ring r =
      { (if r = (p.slot k).ring then (p.ring r).settleAt (p.slot k).index (linkOf (p.slot k).record st)
          else p.ring r) with
        evictionBar := (p.ring r).evictionBar && !((p.slot k).quietly st || p.fifoOpen) } := by
  have hring := p.passes_ring k st x r
  have hbar : ((p.passes k st x).ring r).evictionBar = (p.ring r).evictionBar := by
    rw [hring]
    split <;> rfl
  rw [← hring, Part.completed_eq]
  cases hq : (p.slot k).quietly st
  · cases ho : p.fifoOpen
    · simp only [Bool.false_eq_true, if_false, Bool.or_false, Bool.not_false, Bool.and_true, ← hbar]
      rfl
    · simp only [Bool.false_eq_true, if_false, if_true, Part.freeSlot_ring, Bool.or_true, Bool.not_true, Bool.and_false]
      rfl
  · simp [Part.freeSlot_ring]

theorem Part.completed_window (p : Part) (k : Fin 8) (st : Status) (x : BitVec 32) (w : Fin 16) :
    (p.completed k st x).window w = { p.window w with
      inFlight := (p.window w).inFlight - if (p.slot k).window = some w then 1 else 0 } :=
  ((Part.passedOn_keeps _ _ _ _).window w).trans
    (((p.passes_keeps k st x).window w).trans (p.concluded_window k st x w))

theorem Part.completed_keeps (p : Part) (k : Fin 8) (st : Status) (x : BitVec 32) :
    p.Keeps [.admin, .fetch, .sched, .windows, .compl] (p.completed k st x) := by
  simp [Part.completed, Part.passes]

theorem Part.completed_admission (p : Part) (k : Fin 8) (st : Status) (x : BitVec 32) :
    (p.completed k st x).fetch.admission = p.fetch.admission := by
  have hpasses : (p.passes k st x).fetch.admission = p.fetch.admission :=
    (congrArg FetchUnit.admission (p.passes_keeps k st x).fetch).trans (p.concluded_admission k st x)
  rw [Part.completed_eq]
  (repeat' split) <;> simpa using hpasses

theorem Part.completed_flight (p : Part) (k : Fin 8) (st : Status) (x : BitVec 32) :
    (p.completed k st x).fetch.flight = p.fetch.flight := by
  have hpasses : (p.passes k st x).fetch.flight = p.fetch.flight :=
    (congrArg FetchUnit.flight (p.passes_keeps k st x).fetch).trans (p.concluded_flight k st x)
  rw [Part.completed_eq]
  (repeat' split) <;> simpa using hpasses

theorem Part.completed_age (p : Part) (k : Fin 8) (st : Status) (x : BitVec 32) :
    (p.completed k st x).sched.age =
      if (p.slot k).quietly st || p.fifoOpen then p.sched.age.erase k else p.sched.age := by
  have hpasses : (p.passes k st x).sched.age = p.sched.age := by
    rw [Part.passes, Part.chainTold_age, Part.concluded_age]
  rw [Part.completed_eq]
  cases hq : (p.slot k).quietly st
  · cases ho : p.fifoOpen
    · exact hpasses
    · exact congrArg (List.erase · k) hpasses
  · simpa using congrArg (List.erase · k) hpasses

theorem Part.NoFlush.completed_admin (h : p.NoFlush) (k : Fin 8) (st : Status) (x : BitVec 32) :
    (p.completed k st x).admin = p.admin := by
  have hpasses : (p.passes k st x).admin = p.admin :=
    (p.passes_keeps k st x).admin.trans (p.concluded_keeps k st x).admin
  rw [Part.completed_eq]
  split
  · exact ((h.of_admin hpasses).released_admin _).trans hpasses
  split <;> exact hpasses

/-- An entry goes back to its ring only where the slot goes without a completion. -/
theorem Part.NoFlush.completed_cring (h : p.NoFlush) (k : Fin 8) (st : Status) (x : BitVec 32) (c : Fin 8) :
    (p.completed k st x).cring c = { p.cring c with reserved := (p.cring c).reserved -
      (if (p.slot k).quietly st = true ∧ (p.slot k).reservation = some c then 1 else 0) } := by
  have hadmin : (p.passes k st x).admin = p.admin :=
    (p.passes_keeps k st x).admin.trans (p.concluded_keeps k st x).admin
  have hcring : (p.passes k st x).cring c = p.cring c :=
    ((p.passes_keeps k st x).cring c).trans ((p.concluded_keeps k st x).cring c)
  rw [Part.completed_eq]
  cases hq : (p.slot k).quietly st
  · simp only [Bool.false_eq_true, if_false, false_and, Nat.sub_zero]
    split <;> exact hcring
  · simp only [if_true, Part.freeSlot_cring, true_and]
    rw [(h.of_admin hadmin).released_cring, hcring]

end Sys2Proof.Machine
end

section
/-! What a settlement leaves: the settled slot, the other slots, the ring with or without a halt, and the terms of the
claims in which it is told (R17, R26, R40, R41, R45). -/

-- One declaration at a time: every further thread counts against the memory the check allows.
set_option Elab.async false

namespace Sys2Proof.Machine

variable {p q : Part} {k : Fin 8} {st : Status} {x : BitVec 32}

/-! ### With or without a halt (R17) -/

/-- The slot has settled and a chain hold has begun where its successor is on its way; no ring has halted yet. -/
def Part.handedOn (p : Part) (k : Fin 8) (st : Status) (x : BitVec 32) : Part :=
  (p.completed k st x).beginHold (p.slot k).ring (p.slot k).index (p.slot k).record st

theorem Part.handedOn_keeps (p : Part) (k : Fin 8) (st : Status) (x : BitVec 32) :
    (p.completed k st x).Keeps [.port] (p.handedOn k st x) := by
  simp [Part.handedOn]

theorem Part.handedOn_state (p : Part) (k : Fin 8) (st : Status) (x : BitVec 32) (r : Fin 8) :
    ((p.handedOn k st x).ring r).state = (p.ring r).state ∧ ((p.handedOn k st x).ring r).policy = (p.ring r).policy
      ∧ ((p.handedOn k st x).ring r).haltedAt = (p.ring r).haltedAt := by
  rw [(p.handedOn_keeps k st x).ring r, p.completed_ring k st x r]
  split <;> exact ⟨rfl, rfl, rfl⟩

theorem Part.settle_eq_haltOnError (p : Part) (k : Fin 8) (st : Status) (x : BitVec 32) : p.settle k st x =
    ((p.handedOn k st x).haltOnError (p.slot k).ring (p.slot k).index st).considerSlots := rfl

theorem Part.settle_of_unhalted (h : (p.ring (p.slot k).ring).unhaltedBy st) :
    p.settle k st x = (p.handedOn k st x).considerSlots := by
  obtain ⟨hstate, hpolicy, -⟩ := p.handedOn_state k st x (p.slot k).ring
  rw [Part.settle_eq_haltOnError]
  congr 1
  simp only [Part.haltOnError, hstate, hpolicy]
  rcases h with h | ⟨hno, hcontinue⟩
  · simp [h]
  · cases hring : (p.ring (p.slot k).ring).state with
    | active => simp [hcontinue hring]
    | halted => exact absurd hring hno
    | absent | deleting => simp

/-- The ring as the halt finds it: HALTED, with halted-at the settled index. -/
def Part.haltedBy (p : Part) (k : Fin 8) (st : Status) (x : BitVec 32) : Part :=
  (p.handedOn k st x).modRing (p.slot k).ring fun r => { r with state := .halted, haltedAt := some (p.slot k).index }

theorem Part.settle_of_halts (herror : st.isError = true) (hactive : (p.ring (p.slot k).ring).state = .active)
    (hpolicy : (p.ring (p.slot k).ring).policy = .halt) :
    p.settle k st x = ((p.haltedBy k st x).haltReturns (p.slot k).ring).considerSlots := by
  obtain ⟨hstate, hpol, -⟩ := p.handedOn_state k st x (p.slot k).ring
  rw [Part.settle_eq_haltOnError]
  congr 1
  simp only [Part.haltOnError, hstate, hpol, herror, hactive, hpolicy, if_true]
  rfl

theorem Part.settle_of_halted (herror : st.isError = true) (hhalted : (p.ring (p.slot k).ring).state = .halted) :
    p.settle k st x = ((p.handedOn k st x).modRing (p.slot k).ring fun r =>
      { r with haltedAt := some (r.haltedAt.getD (p.slot k).index) }).considerSlots := by
  obtain ⟨hstate, hpol, -⟩ := p.handedOn_state k st x (p.slot k).ring
  rw [Part.settle_eq_haltOnError]
  congr 1
  simp only [Part.haltOnError, hstate, herror, hhalted, if_true]

/-- A settlement with this status halts the ring of slot `k`. -/
def Part.Halts (p : Part) (k : Fin 8) (st : Status) : Prop :=
  st.isError = true ∧ (p.ring (p.slot k).ring).state = .active ∧ (p.ring (p.slot k).ring).policy = .halt

/-- `q` is the part after slot `k` has settled in `p`, before the slots are considered, and no ring has halted: at
most the halted-at of its ring has been set. -/
structure Part.SettlesOn (p : Part) (k : Fin 8) (st : Status) (x : BitVec 32) (q : Part) : Prop where
  keeps : (p.handedOn k st x).Keeps [.fetch] q
  rings : ∀ r, ∃ n, q.ring r = { (p.handedOn k st x).ring r with haltedAt := n }
  admission : q.fetch.admission = (p.handedOn k st x).fetch.admission
  flight : q.fetch.flight = (p.handedOn k st x).fetch.flight

theorem Part.unhaltedBy_of_not_halts (hhalts : ¬p.Halts k st)
    (hhalted : ¬(st.isError = true ∧ (p.ring (p.slot k).ring).state = .halted)) :
    (p.ring (p.slot k).ring).unhaltedBy st := by
  unfold SubmissionRing.unhaltedBy
  by_cases herror : st.isError = true
  · refine .inr ⟨fun h => hhalted ⟨herror, h⟩, fun hactive => ?_⟩
    by_contra hpolicy
    refine hhalts ⟨herror, hactive, ?_⟩
    cases hp : (p.ring (p.slot k).ring).policy with
    | halt => rfl
    | _ => exact absurd hp hpolicy
  · exact .inl (by simpa using herror)

/-- A settlement halts the ring of its slot, or it does not. -/
theorem Part.settle_cases (p : Part) (k : Fin 8) (st : Status) (x : BitVec 32) :
    (p.Halts k st ∧ p.settle k st x = ((p.haltedBy k st x).haltReturns (p.slot k).ring).considerSlots)
    ∨ (¬p.Halts k st ∧ ∃ q, p.settle k st x = q.considerSlots ∧ p.SettlesOn k st x q) := by
  by_cases hhalts : p.Halts k st
  · obtain ⟨herror, hactive, hpolicy⟩ := hhalts
    exact .inl ⟨⟨herror, hactive, hpolicy⟩, Part.settle_of_halts herror hactive hpolicy⟩
  refine .inr ⟨hhalts, ?_⟩
  by_cases hhalted : st.isError = true ∧ (p.ring (p.slot k).ring).state = .halted
  · refine ⟨_, Part.settle_of_halted hhalted.1 hhalted.2, by simp, fun r => ?_, rfl, rfl⟩
    rw [Part.modRing_ring]
    split
    · exact ⟨_, rfl⟩
    · exact ⟨_, rfl⟩
  · have hun := Part.unhaltedBy_of_not_halts hhalts hhalted
    exact ⟨_, Part.settle_of_unhalted hun, Part.keeps_self _ _, fun r => ⟨_, rfl⟩, rfl, rfl⟩

/-! ### The slots (R26, R43) -/

theorem Part.told_state (p : Part) (k : Fin 8) (st : Status) (s : Slot) :
    (p.told k st s).state = s.state ∧ (p.told k st s).ring = s.ring := by
  unfold Part.told
  split <;> exact ⟨rfl, rfl⟩

theorem Part.handedOn_slot (p : Part) (k : Fin 8) (st : Status) (x : BitVec 32) (j : Fin 8) :
    (p.handedOn k st x).slot j =
      if j = k then (if (p.slot k).quietly st || p.fifoOpen then .empty else (p.slot k).concluded st x)
      else p.told k st (p.slot j) :=
  ((p.handedOn_keeps k st x).slot j).trans (p.completed_slot k st x j)

theorem Part.haltedBy_slot (p : Part) (k : Fin 8) (st : Status) (x : BitVec 32) (j : Fin 8) :
    (p.haltedBy k st x).slot j = (p.handedOn k st x).slot j := rfl

/-- The settled slot: FREE with its completion made, or POSTING. -/
theorem Part.settle_slot_self (p : Part) (k : Fin 8) (st : Status) (x : BitVec 32) : (p.settle k st x).slot k =
    if (p.slot k).quietly st || p.fifoOpen then .empty else (p.slot k).concluded st x := by
  have hslot := p.handedOn_slot k st x k
  rw [if_pos rfl] at hslot
  have hheld : ((p.handedOn k st x).slot k).state ≠ .held := by
    rw [hslot]
    split <;> simp [Slot.empty, Slot.concluded]
  have hdeferred : ((p.handedOn k st x).slot k).deferred = false := by
    rw [hslot]
    split <;> rfl
  rw [← hslot]
  rcases p.settle_cases k st x with ⟨-, h⟩ | ⟨-, q, h, hq⟩
  · rw [h, Part.considerSlots_slot, Part.haltReturns_slot, Part.haltedBy_slot, if_neg (by simp [hheld]),
      Part.considered_of_not_deferred hdeferred]
  · rw [h, Part.considerSlots_slot, hq.keeps.slot k, Part.considered_of_not_deferred hdeferred]

/-- Any other slot: returned where its ring halts, told of its outcome where it waits for it, and considered. -/
theorem Part.settle_slot_other {j : Fin 8} (hj : j ≠ k) (st : Status) (x : BitVec 32) :
    (p.Halts k st → (p.slot j).state = .held → (p.slot j).ring = (p.slot k).ring → (p.settle k st x).slot j = .empty)
    ∧ (¬(p.Halts k st ∧ (p.slot j).state = .held ∧ (p.slot j).ring = (p.slot k).ring) →
      (p.settle k st x).slot j = (p.settle k st x).considered (p.told k st (p.slot j))) := by
  have hslot := p.handedOn_slot k st x j
  rw [if_neg hj] at hslot
  obtain ⟨hstate, hring⟩ := p.told_state k st (p.slot j)
  rcases p.settle_cases k st x with ⟨hhalts, h⟩ | ⟨hno, q, h, hq⟩
  · have hreturned : (p.settle k st x).slot j = (p.settle k st x).considered
        (if (p.slot j).state = .held ∧ (p.slot j).ring = (p.slot k).ring then .empty else p.told k st (p.slot j)) := by
      rw [h, Part.considerSlots_slot, Part.haltReturns_slot, Part.haltedBy_slot, hslot, hstate, hring]
      rfl
    refine ⟨fun _ hheld hr => ?_, fun hnot => ?_⟩
    · rw [hreturned, if_pos ⟨hheld, hr⟩, Part.considered_empty]
    · rw [hreturned, if_neg fun hh => hnot ⟨hhalts, hh⟩]
  · refine ⟨fun hyes => absurd hyes hno, fun _ => ?_⟩
    rw [h, Part.considerSlots_slot, hq.keeps.slot j, hslot]
    rfl

/-! ### What is posted (R41) -/

theorem Part.settle_fifo (p : Part) (k : Fin 8) (st : Status) (x : BitVec 32) :
    (p.settle k st x).compl.fifo = (p.completed k st x).compl.fifo := by
  have hhanded : (p.handedOn k st x).compl.fifo = (p.completed k st x).compl.fifo :=
    congrArg CompletionUnit.fifo (p.handedOn_keeps k st x).compl
  rw [← hhanded]
  rcases p.settle_cases k st x with ⟨-, h⟩ | ⟨-, q, h, hq⟩
  · rw [h, Part.considerSlots_compl, Part.haltReturns_fifo]
    rfl
  · rw [h, Part.considerSlots_compl, hq.keeps.compl]

theorem Part.settle_waiters (p : Part) (k : Fin 8) (st : Status) (x : BitVec 32) :
    (p.settle k st x).sched.waiters = (p.completed k st x).sched.waiters := by
  have hhanded : (p.handedOn k st x).sched.waiters = (p.completed k st x).sched.waiters :=
    congrArg Scheduler.waiters (p.handedOn_keeps k st x).sched
  rw [← hhanded]
  rcases p.settle_cases k st x with ⟨-, h⟩ | ⟨-, q, h, hq⟩
  · rw [h]
    exact (congrArg Scheduler.waiters (Part.haltReturns_sched _ _)).trans (Part.returned_waiters _ _)
  · rw [h]
    exact (congrArg Scheduler.waiters hq.keeps.sched :)

theorem Part.handedOn_stats (p : Part) (k : Fin 8) (st : Status) (x : BitVec 32) :
    (p.handedOn k st x).stats = p.stats :=
  (p.handedOn_keeps k st x).stats.trans (p.completed_keeps k st x).stats

/-- Of the counters a settlement counts the returns its halt brings, and nothing else. -/
theorem Part.settle_stats (p : Part) (k : Fin 8) (st : Status) (x : BitVec 32) :
    (p.settle k st x).stats = { p.stats with returns := (p.settle k st x).stats.returns } := by
  have hhanded := p.handedOn_stats k st x
  rcases p.settle_cases k st x with ⟨-, h⟩ | ⟨-, q, h, hq⟩
  · have hhalted : (p.haltedBy k st x).stats = p.stats := hhanded
    rw [h, Part.considerSlots_stats, Part.haltReturns_stats, hhalted]
  · rw [h, Part.considerSlots_stats, hq.keeps.stats, hhanded]

/-! ### The ring and the windows without a halt -/

theorem Part.settle_ring_of_unhalted (h : (p.ring (p.slot k).ring).unhaltedBy st) (x : BitVec 32) (r : Fin 8) :
    (p.settle k st x).ring r = (p.completed k st x).ring r := by
  rw [Part.settle_of_unhalted h, Part.considerSlots_ring, (p.handedOn_keeps k st x).ring r]

theorem Part.settle_window_of_unhalted (h : (p.ring (p.slot k).ring).unhaltedBy st) (x : BitVec 32) (w : Fin 16) :
    (p.settle k st x).window w = { p.window w with
      inFlight := (p.window w).inFlight - if (p.slot k).window = some w then 1 else 0 } := by
  rw [Part.settle_of_unhalted h, Part.considerSlots_window, (p.handedOn_keeps k st x).window w, p.completed_window k st x w]

/-! ### The terms of the claims -/

/-- `q` is the part in which slot `k` settles, and `p` the part before its report: the slot has its bytes and its
retries, DEFERRED flags may have cleared, and nothing else of the queue has changed. -/
structure Part.ComesToSettle (p : Part) (k : Fin 8) (q : Part) : Prop where
  self : { q.slot k with state := .free, progress := 0, retries := 0, deferred := false } =
    { p.slot k with state := .free, progress := 0, retries := 0, deferred := false }
  others : ∀ j, j ≠ k → { q.slot j with deferred := false } = { p.slot j with deferred := false }
  rings : ∀ r, q.ring r = p.ring r
  inFlight : ∀ w, (q.window w).inFlight = (p.window w).inFlight
  fifo : q.compl.fifo = p.compl.fifo
  waiters : q.sched.waiters = p.sched.waiters

/-- `t` shows what a settlement left in `q` (the port, the Administration Unit and the asks may have gone on). -/
structure Part.ShowsSettled (q t : Part) : Prop where
  sched : t.sched = q.sched
  rings : ∀ r, t.ring r = q.ring r
  windows : ∀ w, (t.window w).inFlight = (q.window w).inFlight
  fifo : t.compl.fifo = q.compl.fifo

theorem Part.ComesToSettle.fields (h : p.ComesToSettle k q) : (q.slot k).record = (p.slot k).record
    ∧ (q.slot k).ring = (p.slot k).ring ∧ (q.slot k).index = (p.slot k).index ∧ (q.slot k).window = (p.slot k).window
    ∧ (q.slot k).reservation = (p.slot k).reservation ∧ (q.slot k).preSettled = (p.slot k).preSettled :=
  ⟨(congrArg Slot.record h.self).trans rfl, (congrArg Slot.ring h.self).trans rfl, (congrArg Slot.index h.self).trans rfl,
    (congrArg Slot.window h.self).trans rfl, (congrArg Slot.reservation h.self).trans rfl,
    (congrArg Slot.preSettled h.self).trans rfl⟩

theorem Part.ComesToSettle.fifoOpen (h : p.ComesToSettle k q) : q.fifoOpen = p.fifoOpen := by
  rw [Part.fifoOpen, Part.fifoOpen, h.fifo, h.waiters]

theorem SlotEnds.of_settle {s t : State} {n m : Nat} (hq : s.part.ComesToSettle k q)
    (ht : (q.settle k st x).ShowsSettled t.part)
    (hn : n = if (s.part.slot k).preSettled.isSome || st == .skipped then 0 else (q.slot k).progress)
    (hm : m = (q.slot k).retries) : SlotEnds s t k st n m x := by
  obtain ⟨hrecord, hring, hindex, hwindow, hreservation, hpre⟩ := hq.fields
  have hself : t.part.slot k = _ := (congrArg (fun u : Scheduler => u.slots.get k) ht.sched).trans (q.settle_slot_self k st x)
  have hfifo := ht.fifo.trans ((q.settle_fifo k st x).trans (q.completed_fifo k st x))
  have hwaiters := (congrArg Scheduler.waiters ht.sched).trans ((q.settle_waiters k st x).trans (q.completed_waiters k st x))
  rw [hq.fifoOpen] at hself hfifo hwaiters
  rw [hq.fifo] at hfifo
  rw [hq.waiters] at hwaiters
  have hquiet : (q.slot k).quietly st = true ↔ recQuiet (s.part.slot k).record = true ∧ st = .success := by
    simp [Slot.quietly, hrecord]
  have hloud : (q.slot k).quietly st = false ↔ ¬(recQuiet (s.part.slot k).record = true ∧ st = .success) := by
    rw [← hquiet, Bool.not_eq_true]
  refine ⟨fun h => ?_, fun h hopen => ?_, fun h hopen => ?_, fun hun => ?_, fun w hw hun => ?_, ?_⟩
  · rw [hself, hfifo, hwaiters, hquiet.2 h]
    simp
  · rw [hself, hfifo, hwaiters, hloud.2 h, hopen]
    simp only [Bool.or_true, if_true, Bool.true_eq_false, and_false, if_false, List.append_nil, and_self, true_and]
    subst hn hm
    simp [Slot.completion, Slot.concluded, hrecord, hring, hindex, hreservation, hpre]
  · rw [hself, hfifo, hwaiters, hloud.2 h, hopen]
    simp [Slot.concluded]
  · have hun' : (q.ring (q.slot k).ring).unhaltedBy st := by rwa [hring, hq.rings]
    rw [ht.rings, Part.settle_ring_of_unhalted hun', q.completed_ring k st x, if_pos hring.symm, hq.rings, hindex, hrecord]
  · have hun' : (q.ring (q.slot k).ring).unhaltedBy st := by rwa [hring, hq.rings]
    rw [ht.windows, Part.settle_window_of_unhalted hun', hwindow, if_pos hw]
    exact congrArg (· - 1) (hq.inFlight w)
  · intro j hj hchain hcounted hjring hjindex hwaits hkept
    have hother := hq.others j hj
    have hstate : (q.slot j).state = (s.part.slot j).state := (congrArg Slot.state hother).trans rfl
    have hjr : (q.slot j).ring = (s.part.slot j).ring := (congrArg Slot.ring hother).trans rfl
    have hji : (q.slot j).index = (s.part.slot j).index := (congrArg Slot.index hother).trans rfl
    have hjc : (q.slot j).chain = (s.part.slot j).chain := (congrArg Slot.chain hother).trans rfl
    have hslot : (t.part.slot j) = (q.settle k st x).slot j := congrArg (fun u : Scheduler => u.slots.get j) ht.sched
    have hawaits : q.awaits k (q.slot j) = true := by
      simp only [Part.awaits, Part.successor, Slot.counted, hrecord, hring, hindex, hq.rings, hstate, hjr, hji, hjc, hchain,
        hjring, hjindex, hwaits]
      simpa [Slot.counted] using hcounted
    have hnot : ¬(q.Halts k st ∧ (q.slot j).state = .held ∧ (q.slot j).ring = (q.slot k).ring) := by
      rintro ⟨⟨herror, hactive, hpolicy⟩, hheld, -⟩
      rw [hring, hq.rings] at hactive hpolicy
      rcases hkept with h | h | h | h
      · simp [herror] at h
      · simp [hpolicy] at h
      · exact h hactive
      · exact h (hstate ▸ hheld)
    rw [hslot, (Part.settle_slot_other hj st x).2 hnot, Part.considered_eq]
    simp [Part.told, hawaits]

/-- A chain hold begins where a settlement with SUCCESS leaves the record after it on its way (R45). -/
theorem Part.beginHold_port (p : Part) (r : Fin 8) (n : Nat) (rec : Block) : (p.beginHold r n rec .success).port =
    if recChain rec = true ∧ p.port.tenure = true ∧ p.engine.state = .running
      ∧ ((∃ f, p.fetch.flight = some f ∧ f.ring = r ∧ f.index = succIndex (p.ring r).size n)
        ∨ ∃ a, p.fetch.admission = some a ∧ a.ring = r ∧ a.index = succIndex (p.ring r).size n)
    then { p.port with chainHold := some (r, succIndex (p.ring r).size n) } else p.port := by
  simp only [Part.beginHold]
  by_cases h : recChain rec = true ∧ p.port.tenure = true ∧ p.engine.state = .running
      ∧ ((∃ f, p.fetch.flight = some f ∧ f.ring = r ∧ f.index = succIndex (p.ring r).size n)
        ∨ ∃ a, p.fetch.admission = some a ∧ a.ring = r ∧ a.index = succIndex (p.ring r).size n)
  · rw [if_pos h, if_pos]
    · rfl
    · simpa [Option.any_eq_true] using h
  · rw [if_neg h, if_neg]
    simpa [Option.any_eq_true] using h

theorem ChainGoesOn.of_settle {s t : State} (hq : s.part.ComesToSettle k q) (hfetch : q.fetch = s.part.fetch)
    (hengine : q.engine.state = s.part.engine.state)
    (hport : q.port.tenure = s.part.port.tenure ∧ q.port.chainHold = s.part.port.chainHold)
    (ht : (q.settle k .success x).ShowsSettled t.part)
    (hhold : t.part.port.chainHold = (q.settle k .success x).port.chainHold) : ChainGoesOn s t k := by
  obtain ⟨hrecord, hring, hindex, -⟩ := hq.fields
  have hends := SlotEnds.of_settle hq ht rfl rfl
  have hsuccessor : q.successor k = s.part.successor k := by
    rw [Part.successor, Part.successor, hring, hindex, hq.rings]
  have hkeeps := q.completed_keeps k .success x
  have hsize : ((q.completed k .success x).ring (q.slot k).ring).size = (q.ring (q.slot k).ring).size := by
    rw [q.completed_ring, if_pos rfl]
    rfl
  have hbegins := congrArg Port.chainHold (Part.beginHold_port (q.completed k .success x) (q.slot k).ring (q.slot k).index
    (q.slot k).record)
  rw [hkeeps.port, hkeeps.engine, q.completed_flight, q.completed_admission, hsize] at hbegins
  have hpassed : (q.settle k .success x).port = (q.handedOn k .success x).port := by
    rw [Part.settle_of_unhalted (.inl rfl), Part.considerSlots_port]
  have hcomes : q.successorComes k ↔ s.part.successorComes k := by
    simp only [Part.successorComes, hrecord, hring, hfetch, hengine, hport.1, hsuccessor]
  refine ⟨fun j hj hchain hcounted hjring hjindex hwaits => ?_, fun h => ?_, fun h => ?_⟩
  · exact hends.chain j hj hchain hcounted hjring hjindex hwaits (.inl rfl)
  · have hnow := hbegins.trans (congrArg Port.chainHold (if_pos (hcomes.2 h)))
    rw [hhold, hpassed]
    exact hnow.trans (congrArg some (Prod.ext hring hsuccessor))
  · have hnow := hbegins.trans (congrArg Port.chainHold (if_neg fun hc => h (hcomes.1 hc)))
    rw [hhold, hpassed]
    exact hnow.trans hport.2

theorem Part.ComesToSettle.refl (p : Part) (k : Fin 8) : p.ComesToSettle k p :=
  ⟨rfl, fun _ _ => rfl, fun _ => rfl, fun _ => rfl, rfl, rfl⟩

/-- What follows at the same event touches nothing that shows a settlement. -/
theorem Part.ShowsSettled.react (q : Part) : q.ShowsSettled q.react :=
  ⟨by simp, fun _ => by simp, fun _ => by simp, by simp⟩

/-! ### Settle-only slots (R27 to R30) -/

/-- The first in the list of which something holds. -/
theorem find?_of_first {α : Type} [DecidableEq α] {l : List α} {f : α → Bool} {a : α} (ha : a ∈ l) (hf : f a = true)
    (hfirst : ∀ b ∈ l, f b = true → l.idxOf a ≤ l.idxOf b) : l.find? f = some a := by
  induction l with
  | nil => cases ha
  | cons b l ih =>
    by_cases hb : f b = true
    · have h := hfirst b (by simp) hb
      have heq : b = a := by
        by_contra hne
        rw [List.idxOf_cons_self, List.idxOf_cons_ne _ hne] at h
        omega
      rw [List.find?_cons_of_pos hb, heq]
    · have hne : a ≠ b := fun h => hb (h ▸ hf)
      rw [List.find?_cons_of_neg (by simpa using hb)]
      refine ih (by simpa [hne] using ha) fun c hc hfc => ?_
      have hcb : c ≠ b := fun h => hb (h ▸ hfc)
      have h := hfirst c (by simp [hc]) hfc
      rw [List.idxOf_cons_ne _ hne.symm, List.idxOf_cons_ne _ hcb.symm] at h
      omega

/-- A window is read as fenced as the claim says (R28). -/
theorem Part.slotFenced_iff (p : Part) (s : Slot) : p.slotFenced s = true ↔ ReadsFenced p s := by
  unfold Part.slotFenced ReadsFenced
  cases hw : s.window with
  | none => simp
  | some w => simp [Window.readsFenced]

theorem Part.orderMet_iff (p : Part) (s : Slot) : p.orderMet s = true ↔ OrderMet p s := by
  have hrelaxed (m : OrderMode) : m = .relaxed ↔ m ≠ .ordered := by cases m <;> simp
  simp only [Part.orderMet, Bool.and_eq_true, Bool.or_eq_true, beq_iff_eq, bne_iff_ne, ne_eq, Bool.not_eq_true', hrelaxed]
  constructor
  · rintro ⟨⟨⟨hstate, horder⟩, hrecord⟩, hchain⟩
    refine ⟨hstate, fun h => horder.resolve_left (not_not.2 h), fun h => hrecord.resolve_left fun ⟨hf, hm⟩ => ?_, hchain⟩
    rcases h with h | h
    · simp [hf] at h
    · exact hm h
  · rintro ⟨hstate, horder, hrecord, hchain⟩
    refine ⟨⟨⟨hstate, ?_⟩, ?_⟩, hchain⟩
    · by_cases h : (p.ring s.ring).order = .ordered
      · exact .inr (horder h)
      · exact .inl h
    · by_cases h : recFence s.record = true ∨ recOpcode s.record = some .marker
      · exact .inr (hrecord h)
      · rw [not_or] at h
        exact .inl ⟨by simpa using h.1, h.2⟩

/-- A slot whose order is not met, or that DEFERRED bars, does not settle by itself (R27, R28). -/
theorem Part.settleStatus_of_barred {s : Slot} (h : ¬(OrderMet p s ∧ (s.deferred = false ∨ ReadsFenced p s))) :
    p.settleStatus s = none := by
  rw [← p.orderMet_iff, ← p.slotFenced_iff] at h
  exact if_neg (by simpa using h)

/-- Where neither bars it, the first of the four gives its status (R29). -/
theorem Part.settleStatus_of_open {s : Slot} (horder : OrderMet p s) (hbar : s.deferred = false ∨ ReadsFenced p s) :
    p.settleStatus s = if s.chain = .failed then some .skipped
      else match s.preSettled with
        | some st => some st
        | none =>
          if p.slotFenced s then some .windowFenced
          else if recOpcode s.record = some .marker then some .success
          else none := by
  rw [← p.orderMet_iff] at horder
  rw [← p.slotFenced_iff] at hbar
  exact if_pos (by simpa [horder] using hbar)

theorem Part.settleStatus_eq_some_iff {s : Slot} (horder : OrderMet p s) (hbar : s.deferred = false ∨ ReadsFenced p s)
    (st : Status) : p.settleStatus s = some st ↔ (s.chain = .failed ∧ st = .skipped)
      ∨ (s.chain ≠ .failed ∧ s.preSettled = some st)
      ∨ (s.chain ≠ .failed ∧ s.preSettled = none ∧ ReadsFenced p s ∧ st = .windowFenced)
      ∨ (s.chain ≠ .failed ∧ s.preSettled = none ∧ ¬ReadsFenced p s ∧ recOpcode s.record = some .marker
        ∧ st = .success) := by
  rw [Part.settleStatus_of_open horder hbar, ← p.slotFenced_iff]
  by_cases hchain : s.chain = .failed
  · simp [hchain, eq_comm (b := st)]
  cases hpre : s.preSettled with
  | some x => simp [hchain]
  | none =>
    cases hfenced : p.slotFenced s
    · by_cases hmarker : recOpcode s.record = some .marker <;> simp [hchain, hmarker, eq_comm (b := st)]
    · simp [hchain, eq_comm (b := st)]

theorem Part.settleStatus_eq_none_iff (p : Part) (s : Slot) : p.settleStatus s = none ↔ ¬OrderMet p s
    ∨ (s.deferred = true ∧ ¬ReadsFenced p s)
    ∨ (s.chain ≠ .failed ∧ s.preSettled = none ∧ ¬ReadsFenced p s ∧ recOpcode s.record ≠ some .marker) := by
  by_cases hopen : OrderMet p s ∧ (s.deferred = false ∨ ReadsFenced p s)
  · obtain ⟨horder, hbar⟩ := hopen
    have hno : ¬(s.deferred = true ∧ ¬ReadsFenced p s) := fun ⟨hd, hf⟩ => hbar.elim (by simp [hd]) hf
    rw [Part.settleStatus_of_open horder hbar, or_iff_right (not_not.2 horder), or_iff_right hno, ← p.slotFenced_iff]
    by_cases hchain : s.chain = .failed
    · simp [hchain]
    cases hpre : s.preSettled with
    | some x => simp [hchain]
    | none =>
      cases hfenced : p.slotFenced s
      · by_cases hmarker : recOpcode s.record = some .marker <;> simp [hchain, hmarker]
      · simp [hchain]
  · simp only [Part.settleStatus_of_barred hopen, true_iff]
    by_cases horder : OrderMet p s
    · rw [not_and, not_or, Bool.not_eq_false] at hopen
      exact .inr (.inl (hopen horder))
    · exact .inl horder

theorem Part.busEligible_iff (p : Part) (s : Slot) : p.busEligible s = true ↔ OrderMet p s ∧ s.deferred = false
    ∧ s.chain ≠ .failed ∧ s.preSettled = none ∧ ¬ReadsFenced p s ∧ recOpcode s.record ≠ some .marker := by
  simp only [Part.busEligible, Bool.and_eq_true, p.orderMet_iff, Bool.not_eq_true', Option.isNone_iff_eq_none,
    p.settleStatus_eq_none_iff]
  constructor
  · rintro ⟨⟨horder, hdeferred⟩, h | h | h⟩
    · exact absurd horder h
    · simp [hdeferred] at h
    · exact ⟨horder, hdeferred, h⟩
  · rintro ⟨horder, hdeferred, h⟩
    exact ⟨⟨horder, hdeferred⟩, .inr (.inr h)⟩

/-- Settles O38. -/
theorem settleOnlySlotsSettleOldestFirst : Obligations.SettleOnlySlotsSettleOldestFirst := by
  refine ⟨fun s k st hrunning hage hstatus hfirst => ?_, fun s hno => exec_of_effect ?_, fun p x => ⟨p.orderMet_iff x,
    p.settleStatus_eq_none_iff x, fun st horder hbar => Part.settleStatus_eq_some_iff horder hbar st, p.busEligible_iff x⟩,
    fun p x hmarker => ⟨?_, fun horder hdeferred hchain hpre hfenced => ?_⟩⟩
  · have hnext : s.part.settleNext = some k := find?_of_first hage (by simp [hstatus]) hfirst
    have heffect : effect .settleOnlySettlement s.part = (s.part.settle k st 0#32).react := by
      simp [effect, Part.settleOnly, hrunning, hnext, hstatus]
    have hshows := Part.ShowsSettled.react (s.part.settle k st 0#32)
    have hkeeps := s.part.settle_keeps k st 0#32
    refine ⟨_, exec_of_effect heffect, SlotEnds.of_settle (.refl _ k) hshows (by simp) rfl, ?_, ?_, ?_, ?_, rfl⟩
    · rintro rfl
      exact ChainGoesOn.of_settle (.refl _ k) rfl rfl ⟨rfl, rfl⟩ hshows (by simp)
    · simpa using hkeeps.master
    · simpa using congrArg Stats.bursts (s.part.settle_stats k st 0#32)
    · simpa using hkeeps.out
  · rcases hno with h | h
    · simp [effect, Part.settleOnly, h]
    · have hnone : s.part.settleNext = none := by
        rw [Part.settleNext, List.find?_eq_none]
        intro j hj
        simp [h j hj]
      simp [effect, Part.settleOnly, hnone]
  · rw [Bool.eq_false_iff, ne_eq, p.busEligible_iff]
    exact fun ⟨_, _, _, _, _, h⟩ => h hmarker
  · simp [Part.settleStatus, horder, hdeferred, hchain, hpre, hfenced, hmarker]

end Sys2Proof.Machine
end

section
/-! The reports of a burst (R36 to R38, R55, R67, R83, R87): the commands that end one, as one operation of the model,
and what it gives the port, the window, the bank and the counters. -/

-- One declaration at a time: every further thread counts against the memory the check allows.
set_option Elab.async false

namespace Sys2Proof.Machine

variable {p q : Part} {o : Operation} {k : Fin 8} {e : OperationEnd} {n : Nat}

/-! ### Failing accesses (R56, R169) -/

theorem Part.takeUnissued_of_outstanding (h : p.host.outstanding.isSome = true) (x : Source) (read : Bool) :
    p.takeUnissued x read = p := by
  have hnone : p.nextAccess = none := by
    simp [Part.nextAccess, Part.mayIssue, Option.isNone_eq_false_iff.2 h]
  simp [Part.takeUnissued, hnone]

theorem Part.isNext_eq_true {x : Source} {read : Bool} : p.isNext x read = true ↔
    ∃ a stale, p.nextAccess = some (x, a, stale) ∧ a.isRead = read := by
  unfold Part.isNext
  split
  · next y a stale h =>
    simp only [h, Bool.and_eq_true, beq_iff_eq, Option.some_inj, Prod.mk.injEq]
    constructor
    · rintro ⟨rfl, hread⟩
      exact ⟨a, stale, ⟨rfl, rfl, rfl⟩, hread⟩
    · rintro ⟨a', stale', ⟨rfl, rfl, rfl⟩, hread⟩
      exact ⟨rfl, hread⟩
  · next h => simp [h]

/-- The access the arbiter takes next is taken for one that cannot be issued. -/
theorem Part.takeUnissued_of_next {x : Source} {a : Access} {stale : Bool} (h : p.nextAccess = some (x, a, stale)) :
    p.takeUnissued x a.isRead = p.takeAccess x a stale := by
  simp [Part.takeUnissued, h]

theorem Part.readOutstanding_isSome {x : Source} (h : p.readOutstanding x = true) : p.host.outstanding.isSome = true := by
  unfold Part.readOutstanding at h
  split at h
  · next o ho => simp [ho]
  · cases h

/-- One access at most is outstanding. -/
theorem Part.readOutstanding_of_other {x y : Source} (h : p.readOutstanding x = true) (hy : y ≠ x) :
    p.readOutstanding y = false := by
  unfold Part.readOutstanding at *
  split
  · next o ho =>
    simp only [ho, Bool.and_eq_true, beq_iff_eq] at h
    simp [h.1, hy.symm]
  · rfl

theorem Part.writeOutstanding_isSome {x : Source} (h : p.writeOutstanding x = true) : p.host.outstanding.isSome = true := by
  unfold Part.writeOutstanding at h
  split at h
  · next o ho => simp [ho]
  · cases h

theorem Part.forRead_of_outstanding {x : Source} (h : p.readOutstanding x = true) (done : Bool) : p.forRead x done = p := by
  unfold Part.forRead
  split
  · rfl
  · exact Part.takeUnissued_of_outstanding (Part.readOutstanding_isSome h) x true

theorem Part.forWrite_of_outstanding {x : Source} (h : p.writeOutstanding x = true) (done : Bool) :
    p.forWrite x done = p := by
  unfold Part.forWrite
  split
  · rfl
  · exact Part.takeUnissued_of_outstanding (Part.writeOutstanding_isSome h) x false

/-- A read that fails, outstanding or next to be issued, is the one the report is of. -/
theorem Part.forRead_readOutstanding {x : Source} (h : p.readFailable x = true) :
    (p.forRead x false).readOutstanding x = true := by
  rcases Bool.or_eq_true_iff.1 h with h | h
  · rwa [Part.forRead_of_outstanding h]
  · obtain ⟨a, stale, hnext, hread⟩ := Part.isNext_eq_true.1 h
    have htaken := Part.takeUnissued_of_next hnext
    rw [hread] at htaken
    change (p.takeUnissued x true).readOutstanding x = true
    rw [htaken]
    cases a <;> simp_all [Part.readOutstanding, Part.takeAccess, Access.isRead]

theorem Part.forWrite_writeOutstanding {x : Source} (h : p.writeFailable x = true) :
    (p.forWrite x false).writeOutstanding x = true := by
  rcases Bool.or_eq_true_iff.1 h with h | h
  · rwa [Part.forWrite_of_outstanding h]
  · obtain ⟨a, stale, hnext, hread⟩ := Part.isNext_eq_true.1 h
    have htaken := Part.takeUnissued_of_next hnext
    rw [hread] at htaken
    change (p.takeUnissued x false).writeOutstanding x = true
    rw [htaken]
    cases a <;> simp_all [Part.writeOutstanding, Part.takeAccess, Access.isRead]

/-- Only a burst that was abandoned has a read outstanding that is stale (R56). -/
theorem Part.forRead_staleOutstanding (h : p.isNext .master true = true) (habandoned : p.host.abandoned = []) :
    (p.forRead .master false).staleOutstanding = false := by
  obtain ⟨a, stale, hnext, hread⟩ := Part.isNext_eq_true.1 h
  have hfresh : stale = false := by
    unfold Part.nextAccess at hnext
    rw [habandoned] at hnext
    (repeat' split at hnext) <;> simp_all
  have htaken := Part.takeUnissued_of_next hnext
  rw [hread] at htaken
  change (p.takeUnissued .master true).staleOutstanding = false
  rw [htaken]
  exact hfresh

/-! ### The commands that report (R36 to R38, R55, R64, R65) -/

/-- A report does not look at the beats acknowledged nor at the lock. -/
theorem Part.reportBurst_acked (p : Part) (o : Operation) (k : Fin 8) (e : OperationEnd) (n : Nat) (delivered : Bool)
    (a : Nat) (b : Bool) :
    p.reportBurst { o with acked := a, lockHeld := b } k e n delivered = p.reportBurst o k e n delivered := rfl

theorem Part.endOperation_reports (hslot : o.slot = some k)
    (h : o.opcode ≠ .read ∨ o.acked = 0 ∨ p.engine.state = .failed) (e : OperationEnd) :
    p.endOperation o e = p.reportBurst o k e o.ackedBytes true := by
  rw [Part.endOperation_of_burst hslot, if_neg]
  rintro ⟨hread, hacked, halive⟩
  rcases h with h | h | h
  · exact h hread
  · omega
  · exact halive h

theorem effect_answer {ph : Phase} (h : Driving p o k ph) {a : Answer} {good : Bool} (hno : ¬(a = .hold ∧ good = true))
    (ad : BusWord) : effect (.targetAnswer a ad good) p = (p.answered o ph a ad good).react := by
  obtain ⟨hstate, hop, -, hph⟩ := h
  simp only [effect, Part.takeAnswer, Part.waitingPhase, hstate, hop, hph, Option.map_some]
  exact if_neg hno

theorem effect_expiry {ph : Phase} (h : Driving p o k ph) :
    effect .responseLimitExpiry p = (p.abortOperation o .timeout).react := by
  obtain ⟨hstate, hop, -, hph⟩ := h
  simp only [effect, Part.expireResponse, Part.waitingPhase, hstate, hop, hph, Option.map_some]

/-- The part in which a report is made is the one before it but for the Master, the access and ABORT. -/
structure ReportedFrom (p : Part) (o : Operation) (c : Instr) (e : OperationEnd) (q : Part) : Prop where
  keeps : p.Keeps [.host, .master, .out] q
  out : q.out = p.out ++ if abortsWith o c e then [.phase .abort 0#32 0] else []

/-- Every command that reports is one report, in the part as it stands but for the Master, its access and ABORT. -/
theorem Reports.effect_eq {c : Instr} (h : Reports p o k c e n) :
    ∃ q, ReportedFrom p o c e q ∧ effect c p = (q.reportBurst o k e n true).react := by
  have still (hno : abortsWith o c e = false) : ReportedFrom p o c e p := ⟨p.keeps_self _, by simp [hno]⟩
  have aborted (hyes : abortsWith o c e = true) : ReportedFrom p o c e p.driveAbort :=
    ⟨by simp, by simp [hyes, Part.driveAbort, Part.emit]⟩
  have aborts {e : OperationEnd} (hslot : o.slot = some k) (hr : o.opcode ≠ .read ∨ o.acked = 0 ∨ p.engine.state = .failed) :
      p.abortOperation o e = p.driveAbort.reportBurst o k e (o.acked * o.width) true :=
    Part.endOperation_reports (p := p.driveAbort) hslot hr e
  rcases h with ⟨⟨ad, rfl⟩, rfl, h⟩ | ⟨⟨ad, rfl⟩, rfl, h, hacked, rfl⟩ | ⟨h, hreports, rfl⟩ |
    ⟨rfl, hwrite, hstate, hop, hslot, rfl, rfl⟩ | ⟨h, hstate, hop, hslot, rfl, rfl⟩
  · rcases h with ⟨h, hop, hbeats, rfl⟩ | ⟨h, hop, rfl⟩
    · have hno : o.opcode ≠ .compareSwap ∧ o.opcode ≠ .read := by rcases hop with hop | hop <;> simp [hop]
      refine ⟨p.modOperation fun _ => { o with acked := o.acked + 1 }, ⟨by simp, by simp [abortsWith]⟩, ?_⟩
      rw [effect_ack h, Part.acknowledge_writeBeat hno.1]
      refine congrArg Part.react ((if_pos hbeats.le).trans ?_)
      refine (Part.endOperation_reports (o := { o with acked := o.acked + 1 }) (k := k) h.2.2.1 (.inl hno.2) _).trans ?_
      rw [hbeats]
      rfl
    · refine ⟨p, still rfl, ?_⟩
      rw [effect_ack h]
      refine congrArg Part.react ?_
      exact Part.endOperation_reports (o := { o with lockHeld := false }) (k := k) h.2.2.1
        (.inl (by simp [hop])) _
  · refine ⟨p, still rfl, ?_⟩
    have hretry : o.opcode.addressPhase.mayRetry = true := by cases o.opcode <;> rfl
    rw [effect_answer h (by simp)]
    simp only [Part.answered, Bool.not_true, Bool.false_eq_true, if_false, hretry, if_true]
    rw [Part.endOperation_reports h.2.2.1 (.inr (.inl hacked))]
    simp [Operation.ackedBytes, hacked]
  · rcases h with ⟨⟨ad, rfl⟩, rfl, ph, h⟩ | ⟨⟨ad, rfl⟩, rfl, ph, h, hph⟩ | ⟨⟨a, ad, rfl⟩, rfl, ph, h⟩ | ⟨rfl, rfl, ph, h⟩
    · rw [effect_answer h (by simp)]
      simp only [Part.answered, Bool.not_true, Bool.false_eq_true, if_false]
      cases hlock : o.lockHeld
      · exact ⟨p, still (by simp [abortsWith, hlock]), congrArg Part.react (Part.endOperation_reports h.2.2.1 hreports _)⟩
      · exact ⟨p.driveAbort, aborted (by simp [abortsWith, hlock]), congrArg Part.react (aborts h.2.2.1 hreports)⟩
    · have hretry : ph.mayRetry = false := by rcases hph with rfl | rfl | rfl | rfl | rfl <;> rfl
      refine ⟨p.driveAbort, aborted rfl, ?_⟩
      rw [effect_answer h (by simp)]
      simp only [Part.answered, Bool.not_true, Bool.false_eq_true, if_false, hretry]
      exact congrArg Part.react (aborts h.2.2.1 hreports)
    · refine ⟨p.driveAbort, aborted rfl, ?_⟩
      rw [effect_answer h (by simp)]
      simp only [Part.answered, Bool.not_false, if_true]
      exact congrArg Part.react (aborts h.2.2.1 hreports)
    · exact ⟨p.driveAbort, aborted rfl, (effect_expiry h).trans (congrArg Part.react (aborts h.2.2.1 hreports))⟩
  · refine ⟨p.closeAccess, ⟨by simp, by simp [abortsWith]⟩, ?_⟩
    simp only [effect, Part.delivered, Part.forWrite_of_outstanding hwrite, hwrite, if_true]
    simp only [Part.closeAccess_master, hstate, hop, hslot]
    rfl
  · have hfails : (q : Part) → q.master = p.master → q.dataReadFails = q.reportBurst o k .hostReadError 0 true := by
      intro q hq
      simp only [Part.dataReadFails, hq, hstate, hop, hslot]
    rcases h with ⟨hc, hread, hfresh⟩ | ⟨rfl, hnext, habandoned⟩
    · refine ⟨p.closeAccess, ⟨by simp, by rcases hc with rfl | rfl <;> simp [abortsWith]⟩, ?_⟩
      rcases hc with rfl | rfl
      · simp only [effect, Part.dataRead, Option.isSome_none, Part.forRead_of_outstanding hread, hread, if_true, hfresh,
          Bool.false_eq_true, if_false, hfails p.closeAccess rfl]
      · have hother {x : Source} (hx : x ≠ .master) : p.readOutstanding x = false :=
          Part.readOutstanding_of_other hread hx
        simp only [effect, Part.readTimesOut, hother (x := .ringFetch) (by simp), hother (x := .administration) (by simp),
          Bool.false_eq_true, if_false, hread, if_true, hfresh, hfails p.closeAccess rfl]
    · have hread := Part.forRead_readOutstanding (p := p) (x := .master) (by simp [Part.readFailable, hnext])
      have hfresh := Part.forRead_staleOutstanding hnext habandoned
      have hkeeps := p.forRead_keeps .master false
      refine ⟨(p.forRead .master false).closeAccess, ⟨by simp, ?_⟩, ?_⟩
      · simpa [abortsWith] using hkeeps.out
      · simp only [effect, Part.dataRead, Option.isSome_none, hread, if_true, hfresh, Bool.false_eq_true, if_false]
        rw [hfails (p.forRead .master false).closeAccess hkeeps.master]

end Sys2Proof.Machine
end

section
/-! What the end of a burst or close operation gives the port, the window, the bank and the counters (R64, R65, R67,
R76, R77, R83, R107, R108). -/

-- One declaration at a time: every further thread counts against the memory the check allows.
set_option Elab.async false

namespace Sys2Proof.Machine

variable {p q : Part} {o : Operation} {e : OperationEnd}

/-! ### The window's count and its fence (R76, R77) -/

/-- A timeout fences the window: its count comes to the fence limit, and it is not fenced yet. -/
def Window.Fences (x : Window) : Prop := x.timeouts < 15 ∧ min 15 (x.timeouts + 1) = x.fenceLimit
  ∧ (x.state = .opened ∨ (x.state = .draining ∧ x.drain = .run))

/-- The window with one timeout more, before a fence. -/
def Window.timedOut (x : Window) : Window := { x with timeouts := min 15 (x.timeouts + 1) }

/-- The window as a fence leaves it: FENCED, or DRAINING with the drain outcome FENCED. -/
def Window.fence (x : Window) : Window :=
  if x.state = .opened then { x with state := .fenced } else { x with drain := .fenced }

/-- A timeout counts, and fences the window where its count comes to the limit: the event is pending, and every slot
of the window is looked at. -/
theorem Part.windowTimeout_cases (p : Part) (w : Fin 16) :
    ((p.window w).Fences ∧ ∃ q, p.windowTimeout w = (q.pendFenced w).considerSlots ∧ p.Keeps [.windows] q
      ∧ ∀ v, q.window v = if v = w then (p.window v).timedOut.fence else p.window v)
    ∨ (¬(p.window w).Fences ∧ p.Keeps [.windows] (p.windowTimeout w)
      ∧ ∀ v, (p.windowTimeout w).window v = if v = w then (p.window v).timedOut else p.window v) := by
  set r := p.modWindow w fun x => { x with timeouts := min 15 ((p.window w).timeouts + 1) } with hr
  have hcounted (v : Fin 16) : r.window v = if v = w then (p.window v).timedOut else p.window v := by
    rw [hr, Part.modWindow_window]
    split
    · next h => rw [h]; rfl
    · rfl
  have hstays : p.Keeps [.windows] r := by simp [hr]
  by_cases hlimit : (p.window w).timeouts < 15 ∧ min 15 ((p.window w).timeouts + 1) = (p.window w).fenceLimit
  · have htimeout : p.windowTimeout w = match (p.window w).state, (p.window w).drain with
        | .opened, _ => ((r.modWindow w fun x => { x with state := .fenced }).pendFenced w).considerSlots
        | .draining, .run => ((r.modWindow w fun x => { x with drain := .fenced }).pendFenced w).considerSlots
        | _, _ => r := by
      unfold Part.windowTimeout
      exact (if_pos hlimit).trans rfl
    have hopened (hs : (p.window w).state = .opened) (v : Fin 16) :
        (r.modWindow w fun x => { x with state := .fenced }).window v =
          if v = w then (p.window v).timedOut.fence else p.window v := by
      rw [Part.modWindow_window, hcounted]
      by_cases hv : v = w
      · subst hv
        simp [Window.fence, Window.timedOut, hs]
      · simp [hv]
    have hdraining (hs : (p.window w).state = .draining) (v : Fin 16) :
        (r.modWindow w fun x => { x with drain := .fenced }).window v =
          if v = w then (p.window v).timedOut.fence else p.window v := by
      rw [Part.modWindow_window, hcounted]
      by_cases hv : v = w
      · subst hv
        simp [Window.fence, Window.timedOut, hs]
      · simp [hv]
    cases hs : (p.window w).state with
    | opened =>
      rw [hs] at htimeout
      exact .inl ⟨⟨hlimit.1, hlimit.2, .inl hs⟩, _, htimeout, by simp [hr], hopened hs⟩
    | draining =>
      cases hd : (p.window w).drain with
      | run =>
        rw [hs, hd] at htimeout
        exact .inl ⟨⟨hlimit.1, hlimit.2, .inr ⟨hs, hd⟩⟩, _, htimeout, by simp [hr], hdraining hs⟩
      | fenced =>
        rw [hs, hd] at htimeout
        exact .inr ⟨fun h => by simp [Window.Fences, hs, hd] at h, htimeout ▸ hstays, htimeout ▸ hcounted⟩
    | unused | fenced =>
      rw [hs] at htimeout
      exact .inr ⟨fun h => by simp [Window.Fences, hs] at h, htimeout ▸ hstays, htimeout ▸ hcounted⟩
  · have htimeout : p.windowTimeout w = r := by
      unfold Part.windowTimeout
      exact if_neg hlimit
    exact .inr ⟨fun ⟨h, h', _⟩ => hlimit ⟨h, h'⟩, htimeout ▸ hstays, htimeout ▸ hcounted⟩

/-- A fence changes the window's state or its drain outcome alone. -/
theorem Window.fence_eq (x : Window) : x.fence = { x with state := x.fence.state, drain := x.fence.drain } := by
  unfold Window.fence
  split <;> rfl

/-- Of a window a timeout changes its count, and its state and drain outcome where it fences it. -/
theorem Part.windowTimeout_window (p : Part) (w v : Fin 16) : (p.windowTimeout w).window v = { p.window v with
    timeouts := if v = w then min 15 ((p.window v).timeouts + 1) else (p.window v).timeouts
    state := ((p.windowTimeout w).window v).state, drain := ((p.windowTimeout w).window v).drain } := by
  rcases p.windowTimeout_cases w with ⟨-, q, h, -, hq⟩ | ⟨-, -, hq⟩
  · have hv : (p.windowTimeout w).window v = q.window v := by
      rw [h, Part.considerSlots_window, (q.pendFenced_keeps w).window v]
    rw [hv, hq]
    by_cases hvw : v = w
    · subst hvw
      simp only [if_true]
      exact (p.window v).timedOut.fence_eq
    · simp [hvw]
  · rw [hq]
    by_cases hvw : v = w
    · simp [hvw, Window.timedOut]
    · simp [hvw]

theorem Part.pendFenced_stats (p : Part) (w : Fin 16) : (p.pendFenced w).stats = { p.stats with
    merged := if p.notices.fenced.isSome then satSucc p.stats.merged else p.stats.merged } := by
  unfold Part.pendFenced Part.countMerge
  split <;> rfl

/-- A timeout counts nothing but an event merged with one that waits. -/
theorem Part.windowTimeout_stats (p : Part) (w : Fin 16) :
    (p.windowTimeout w).stats = { p.stats with merged := (p.windowTimeout w).stats.merged } := by
  rcases p.windowTimeout_cases w with ⟨-, q, h, hkeeps, -⟩ | ⟨-, hkeeps, -⟩
  · rw [h, Part.considerSlots_stats, q.pendFenced_stats, hkeeps.stats]
  · rw [hkeeps.stats]

/-- Beside DEFERRED flags a timeout leaves the queue as it is. -/
theorem Part.windowTimeout_sched (p : Part) (w : Fin 16) :
    (p.windowTimeout w).sched = { p.sched with slots := (p.windowTimeout w).sched.slots }
      ∧ ∀ k, { (p.windowTimeout w).slot k with deferred := false } = { p.slot k with deferred := false } := by
  rcases p.windowTimeout_cases w with ⟨-, q, h, hkeeps, -⟩ | ⟨-, hkeeps, -⟩
  · have hsched : (q.pendFenced w).sched = p.sched := (q.pendFenced_keeps w).sched.trans hkeeps.sched
    rw [h]
    refine ⟨?_, fun k => ?_⟩
    · exact congrArg (fun u : Scheduler => { u with slots := ((q.pendFenced w).considerSlots).sched.slots }) hsched
    · rw [Part.considerSlots_slot, Part.considered_eq, (q.pendFenced_keeps w).slot k, hkeeps.slot k]
  · rw [hkeeps.sched]
    exact ⟨rfl, fun k => by rw [hkeeps.slot k]⟩

/-! ### The verdict of an end (R67, R83) -/

theorem Part.onOperationWindow_of_none (h : o.window = none) (f : Part → Fin 16 → Part) :
    p.onOperationWindow o f = p := by
  simp [Part.onOperationWindow, h]

theorem Part.onOperationWindow_of_some {w : Fin 16} (h : o.window = some w) (f : Part → Fin 16 → Part) :
    p.onOperationWindow o f = f p w := by
  simp [Part.onOperationWindow, h]

/-- The end was one of those that leave the bank UNKNOWN (R83). -/
def OperationEnd.fails (e : OperationEnd) : Bool := e == .timeout || e == .fault || e == .protocolFault

/-- The count of consecutive timeouts of a window after the end of an operation to it (R67). -/
def OperationEnd.timeouts (e : OperationEnd) (n : Nat) : Nat :=
  match e with
  | .timeout => min 15 (n + 1)
  | .clean | .retry | .fault | .protocolFault => 0
  | .linkLost | .grantLost | .hostReadError => n

theorem modify_const {α : Type} (l : List α) (n : Nat) (a : α) : l.modify n (fun _ => a) = l.set n a :=
  @List.modify_eq_set α ⟨a⟩ (fun _ => a) n l

theorem Part.bankFails_window (p : Part) (o : Operation) (v : Fin 16) : (p.bankFails o).window v = { p.window v with
    banks := if o.window = some v then (p.window v).banks.set o.bank .unknown else (p.window v).banks } := by
  unfold Part.bankFails
  cases hw : o.window with
  | none => simp [Part.onOperationWindow_of_none hw]
  | some w =>
    rw [Part.onOperationWindow_of_some hw, Part.modBank_window]
    by_cases hv : v = w
    · simp [hv, modify_const]
    · simp [hv, Ne.symm hv]

theorem Part.windowAnswered_window (p : Part) (o : Operation) (v : Fin 16) :
    (p.onOperationWindow o Part.windowAnswered).window v = { p.window v with
      timeouts := if o.window = some v then 0 else (p.window v).timeouts } := by
  cases hw : o.window with
  | none => simp [Part.onOperationWindow_of_none hw]
  | some w =>
    rw [Part.onOperationWindow_of_some hw, Part.windowAnswered, Part.modWindow_window]
    by_cases hv : v = w
    · simp [hv]
    · simp [hv, Ne.symm hv]

theorem Part.windowAnswered_keeps' (p : Part) (o : Operation) :
    p.Keeps [.windows] (p.onOperationWindow o Part.windowAnswered) := by
  unfold Part.onOperationWindow
  split <;> simp

theorem Part.windowTimeout_window' (p : Part) (o : Operation) (v : Fin 16) :
    (p.onOperationWindow o Part.windowTimeout).window v = { p.window v with
      timeouts := if o.window = some v then min 15 ((p.window v).timeouts + 1) else (p.window v).timeouts
      state := ((p.onOperationWindow o Part.windowTimeout).window v).state
      drain := ((p.onOperationWindow o Part.windowTimeout).window v).drain } := by
  cases hw : o.window with
  | none => simp [Part.onOperationWindow_of_none hw]
  | some w =>
    rw [Part.onOperationWindow_of_some hw]
    refine (p.windowTimeout_window w v).trans ?_
    simp only [Option.some_inj, eq_comm (a := v)]

/-- The verdict touches of the windows the operation's own: its count, its bank, and its state where it is fenced. -/
theorem Part.verdict_window (p : Part) (o : Operation) (e : OperationEnd) (v : Fin 16) :
    (p.verdict o e).window v = { p.window v with
      timeouts := if o.window = some v then e.timeouts (p.window v).timeouts else (p.window v).timeouts
      banks := if o.window = some v ∧ e.fails = true then (p.window v).banks.set o.bank .unknown
        else (p.window v).banks
      state := ((p.verdict o e).window v).state, drain := ((p.verdict o e).window v).drain } := by
  have hfailed := p.bankFails_window o v
  have hanswered := p.windowAnswered_window o v
  have hboth := (p.bankFails o).windowAnswered_window o v
  rw [hfailed] at hboth
  cases e with
  | clean =>
    have h : (p.verdict o .clean).window v = _ := p.lowerError.windowAnswered_window o v
    rw [h]
    simp [OperationEnd.timeouts, OperationEnd.fails, Part.lowerError]
  | retry =>
    have h : (p.verdict o .retry).window v = _ := hanswered
    rw [h]
    simp [OperationEnd.timeouts, OperationEnd.fails]
  | fault =>
    have h : (p.verdict o .fault).window v = _ := hboth
    rw [h]
    simp [OperationEnd.timeouts, OperationEnd.fails]
  | timeout =>
    have h := (p.bankFails o).windowTimeout_window' o v
    rw [hfailed] at h
    have h' : (p.verdict o .timeout).window v = ((p.bankFails o).onOperationWindow o Part.windowTimeout).window v := rfl
    rw [h']
    refine h.trans ?_
    simp [OperationEnd.timeouts, OperationEnd.fails]
  | protocolFault =>
    have h : (p.verdict o .protocolFault).window v = _ := ((Part.raiseError_keeps _).window v).trans hboth
    rw [h]
    simp [OperationEnd.timeouts, OperationEnd.fails]
  | linkLost | grantLost | hostReadError =>
    simp [Part.verdict, OperationEnd.timeouts, OperationEnd.fails]

/-! The counters, the queue and the port after the verdict. -/

theorem Part.detach_stats (p : Part) (c : DetachCause) :
    (p.detach c).stats = { p.stats with merged := (p.detach c).stats.merged } := by
  simp only [Part.detach, Part.finishDetach, Part.pendDetached, Part.countMerge]
  (repeat' split) <;> rfl

theorem Part.raiseError_stats (p : Part) : p.raiseError.stats = { p.stats with merged := p.raiseError.stats.merged } := by
  by_cases h : p.port.errorCount = 15
  · rw [Part.raiseError_limit h, Part.leaveAtLimit]
    split
    iterate 2 exact Part.detach_stats _ _
    all_goals rfl
  · rw [Part.raiseError_below h]
    rfl

/-- The counters of the verdict (R67): timeouts, faults and bus errors, with an event merged at most. -/
theorem Part.verdict_stats (p : Part) (o : Operation) (e : OperationEnd) : (p.verdict o e).stats = { p.stats with
    timeouts := if e = .timeout then satSucc p.stats.timeouts else p.stats.timeouts
    targetFaults := if e = .fault then satSucc p.stats.targetFaults else p.stats.targetFaults
    busErrors := if e = .protocolFault then satSucc p.stats.busErrors else p.stats.busErrors
    merged := (p.verdict o e).stats.merged } := by
  have hanswered := (p.windowAnswered_keeps' o).stats
  have hboth := ((p.bankFails o).windowAnswered_keeps' o).stats.trans (p.bankFails_keeps o).stats
  cases e with
  | clean =>
    have h : (p.verdict o .clean).stats = p.stats := (p.lowerError.windowAnswered_keeps' o).stats
    rw [h]
    simp
  | retry =>
    have h : (p.verdict o .retry).stats = p.stats := hanswered
    rw [h]
    simp
  | fault =>
    have h : (p.verdict o .fault).stats = { p.stats with targetFaults := satSucc p.stats.targetFaults } :=
      congrArg (fun t : Stats => { t with targetFaults := satSucc t.targetFaults }) hboth
    rw [h]
    simp
  | timeout =>
    have htimeout : ((p.bankFails o).onOperationWindow o Part.windowTimeout).stats = { p.stats with
        merged := ((p.bankFails o).onOperationWindow o Part.windowTimeout).stats.merged } := by
      cases hw : o.window with
      | none => rw [Part.onOperationWindow_of_none hw, (p.bankFails_keeps o).stats]
      | some w =>
        rw [Part.onOperationWindow_of_some hw]
        refine (Part.windowTimeout_stats _ w).trans ?_
        rw [(p.bankFails_keeps o).stats]
    have h : (p.verdict o .timeout).stats = _ :=
      congrArg (fun t : Stats => { t with timeouts := satSucc t.timeouts }) htimeout
    rw [h]
    simp
  | protocolFault =>
    have h : (p.verdict o .protocolFault).stats = _ := Part.raiseError_stats _
    refine h.trans ?_
    simp [hboth]
    rfl
  | linkLost | grantLost | hostReadError => simp [Part.verdict]

/-- Beside DEFERRED flags the verdict leaves the queue as it is. -/
theorem Part.verdict_sched (p : Part) (o : Operation) (e : OperationEnd) :
    (p.verdict o e).sched = { p.sched with slots := (p.verdict o e).sched.slots }
      ∧ ∀ k, { (p.verdict o e).slot k with deferred := false } = { p.slot k with deferred := false } := by
  have hstill {q : Part} (h : q.sched = p.sched) : q.sched = { p.sched with slots := q.sched.slots }
      ∧ ∀ k, { q.slot k with deferred := false } = { p.slot k with deferred := false } := by
    refine ⟨by rw [h], fun k => ?_⟩
    rw [Part.slot, h]
    rfl
  have hboth := ((p.bankFails o).windowAnswered_keeps' o).sched.trans (p.bankFails_keeps o).sched
  cases e with
  | clean => exact hstill (p.lowerError.windowAnswered_keeps' o).sched
  | retry => exact hstill (p.windowAnswered_keeps' o).sched
  | fault => exact hstill hboth
  | timeout =>
    have hfailed := (p.bankFails_keeps o).sched
    have htimeout : ((p.bankFails o).onOperationWindow o Part.windowTimeout).sched = { (p.bankFails o).sched with
          slots := ((p.bankFails o).onOperationWindow o Part.windowTimeout).sched.slots }
        ∧ ∀ k, { ((p.bankFails o).onOperationWindow o Part.windowTimeout).slot k with deferred := false } =
          { (p.bankFails o).slot k with deferred := false } := by
      cases hw : o.window with
      | none => exact ⟨by rw [Part.onOperationWindow_of_none hw], fun k => by rw [Part.onOperationWindow_of_none hw]⟩
      | some w =>
        rw [Part.onOperationWindow_of_some hw]
        exact Part.windowTimeout_sched _ w
    rw [hfailed] at htimeout
    refine ⟨htimeout.1, fun k => (htimeout.2 k).trans ?_⟩
    rw [(p.bankFails_keeps o).slot k]
  | protocolFault => exact hstill ((Part.raiseError_keeps _).sched.trans hboth)
  | linkLost | grantLost | hostReadError => exact hstill rfl

theorem Part.verdict_port_of_quiet (p : Part) (o : Operation) (hclean : e ≠ .clean) (hfault : e ≠ .protocolFault) :
    (p.verdict o e).port = p.port := by
  cases e with
  | clean => exact absurd rfl hclean
  | protocolFault => exact absurd rfl hfault
  | retry => exact (p.windowAnswered_keeps' o).port
  | fault => exact ((p.bankFails o).windowAnswered_keeps' o).port.trans (p.bankFails_keeps o).port
  | timeout =>
    refine Eq.trans ?_ (p.bankFails_keeps o).port
    cases hw : o.window with
    | none => simp [Part.verdict, Part.onOperationWindow_of_none hw]
    | some w =>
      simp only [Part.verdict, Part.onOperationWindow_of_some hw]
      exact (Part.windowTimeout_keeps _ w).port
  | linkLost | grantLost | hostReadError => rfl

theorem Part.verdict_port_clean (p : Part) (o : Operation) :
    (p.verdict o .clean).port = { p.port with errorCount := p.port.errorCount - 1 } :=
  (p.lowerError.windowAnswered_keeps' o).port

/-- A protocol fault raises the error count in a part with the port as it was. -/
theorem Part.verdict_protocolFault (p : Part) (o : Operation) : ∃ q, p.verdict o .protocolFault = q.raiseError
    ∧ p.Keeps [.windows, .stats] q :=
  ⟨_, rfl, by
    have hboth := (p.bankFails o).windowAnswered_keeps' o
    rw [Part.keeps_onStats _ (by simp)]
    exact ((p.bankFails_keeps o).mono (by simp)).trans (hboth.mono (by simp))⟩

/-! ### The error count and its limit (R107, R108) -/

theorem Part.leaveAtLimit_errorCount (p : Part) : p.leaveAtLimit.port.errorCount = p.port.errorCount := by
  unfold Part.leaveAtLimit
  split
  iterate 2 exact (p.detach_effect .errorLimit).2.1
  all_goals rfl

theorem Part.raiseError_errorCount (p : Part) : p.raiseError.port.errorCount = min 16 (p.port.errorCount + 1) := by
  by_cases h : p.port.errorCount = 15
  · rw [Part.raiseError_limit h, Part.leaveAtLimit_errorCount]
    rfl
  · rw [Part.raiseError_below h]
    rfl

theorem Part.raiseError_mark (h : p.port.errorCount ≠ 15) : p.raiseError.port = p.port.raise := by
  rw [Part.raiseError_below h]
  rfl

end Sys2Proof.Machine
end

section
/-! The report of a burst, field by field (R36 to R38, R67, R83, R86, R87, R108). -/

-- One declaration at a time: every further thread counts against the memory the check allows.
set_option Elab.async false

namespace Sys2Proof.Machine

variable {p q : Part} {o : Operation} {k : Fin 8} {e : OperationEnd} {n : Nat}

/-! ### What a report ends with (R36 to R38) -/

theorem Part.reported_ring (p : Part) (o : Operation) (e : OperationEnd) (r : Fin 8) :
    (p.reported o e).ring r = p.ring r :=
  ((p.reported_keeps o e).ring r).trans ((Part.verdict_keeps p.masterIdle o e).ring r)

/-- The slot at the report: as it was, but that DEFERRED may have cleared. -/
theorem Part.reported_slot (p : Part) (o : Operation) (e : OperationEnd) (j : Fin 8) :
    { (p.reported o e).slot j with deferred := false } = { p.slot j with deferred := false } := by
  rw [(p.reported_keeps o e).slot j]
  exact (Part.verdict_sched p.masterIdle o e).2 j

theorem Part.reported_sched (p : Part) (o : Operation) (e : OperationEnd) :
    (p.reported o e).sched = { p.sched with slots := (p.reported o e).sched.slots } := by
  rw [(p.reported_keeps o e).sched]
  exact (Part.verdict_sched p.masterIdle o e).1

theorem Part.reported_engine (p : Part) (o : Operation) (e : OperationEnd) : (p.reported o e).engine = p.engine :=
  (p.reported_keeps o e).engine.trans (Part.verdict_keeps p.masterIdle o e).engine

theorem Part.reported_fetch (p : Part) (o : Operation) (e : OperationEnd) : (p.reported o e).fetch = p.fetch :=
  (p.reported_keeps o e).fetch.trans (Part.verdict_keeps p.masterIdle o e).fetch

theorem Part.reported_window (p : Part) (o : Operation) (e : OperationEnd) (v : Fin 16) :
    (p.reported o e).window v = { p.window v with
      timeouts := if o.window = some v then e.timeouts (p.window v).timeouts else (p.window v).timeouts
      banks := if o.window = some v ∧ e.fails = true then (p.window v).banks.set o.bank .unknown
        else (p.window v).banks
      state := ((p.reported o e).window v).state, drain := ((p.reported o e).window v).drain } := by
  rw [(p.reported_keeps o e).window v]
  exact Part.verdict_window p.masterIdle o e v

/-- What the report's fields of the slot are, whatever DEFERRED is. -/
theorem Part.took_fields (p : Part) (o : Operation) (k : Fin 8) (e : OperationEnd) (n : Nat) :
    (((p.reported o e).slot k).tookReport e n).record = (p.slot k).record
      ∧ (((p.reported o e).slot k).tookReport e n).ring = (p.slot k).ring
      ∧ (((p.reported o e).slot k).tookReport e n).window = (p.slot k).window
      ∧ (((p.reported o e).slot k).tookReport e n).progress = (p.slot k).progress + n
      ∧ (((p.reported o e).slot k).tookReport e n).retries = (p.slot k).retries + if e = .retry then 1 else 0 := by
  have h := p.reported_slot o e k
  refine ⟨(congrArg Slot.record h).trans rfl, (congrArg Slot.ring h).trans rfl, (congrArg Slot.window h).trans rfl, ?_, ?_⟩
  · exact congrArg (· + n) ((congrArg Slot.progress h).trans rfl)
  · exact congrArg (· + if e = .retry then 1 else 0) ((congrArg Slot.retries h).trans rfl)

/-- What a report settles its slot with, told of the part before it. -/
def Part.endsWith (p : Part) (o : Operation) (k : Fin 8) (e : OperationEnd) (n : Nat) : Option (Status × BitVec 32) :=
  match e with
  | .clean =>
    match o.opcode with
    | .compareSwap => some (if o.oldValue.getD 0#32 = recCompare (p.slot k).record then .success else .mismatch,
        o.oldValue.getD 0#32)
    | .noticeSend => some (.success, 0#32)
    | .read | .write | .marker =>
      if (p.slot k).progress + n = recLength (p.slot k).record then some (.success, 0#32) else none
  | .retry => if (p.ring (p.slot k).ring).retryLimit ≤ (p.slot k).retries then some (.targetBusy, 0#32) else none
  | .fault | .timeout | .protocolFault | .linkLost | .grantLost | .hostReadError => some (e.failure, o.oldValue.getD 0#32)

theorem Part.reportEnd_eq (p : Part) (o : Operation) (k : Fin 8) (e : OperationEnd) (n : Nat) :
    p.reportEnd o k e n true = p.endsWith o k e n := by
  obtain ⟨hrecord, hring, -, hprogress, hretries⟩ := p.took_fields o k e n
  unfold Part.reportEnd Part.reportSettles Part.endsWith
  simp only [hrecord, hring, hprogress, hretries, Bool.not_true, Bool.false_eq_true, if_false, p.reported_ring]
  cases e with
  | clean => cases o.opcode <;> rfl
  | retry => simp
  | _ => rfl

theorem Part.endsWith_isSome (p : Part) (o : Operation) (k : Fin 8) (e : OperationEnd) (n : Nat) :
    (p.endsWith o k e n).isSome = true ∧ p.engine.state ≠ .failed ↔ ReportSettles p o k e n := by
  rw [ReportSettles, and_comm]
  refine and_congr_right fun _ => ?_
  unfold Part.endsWith
  cases e with
  | clean => cases o.opcode <;> simp
  | retry => simp
  | _ => simp

/-! ### The bank of the burst (R86, R87) -/

/-- A bank given back: marked due-to-close with a close request where it is OPEN (R87). -/
def Bank.givenBack (b : Bank) : Bank := if b.state = .opened then { b with dueToClose := true, closeRequest := true } else b

/-- The page of a burst's slot is given back: the burst's window closes its pages, and the slot settles or goes on in
another bank or page. -/
def Part.Marks (p : Part) (o : Operation) (s : Slot) (settles : Bool) (w : Fin 16) : Prop :=
  (p.window w).kind = .paged ∧ (p.window w).policy = .close
    ∧ (settles = true ∨ (s.progress ≠ recLength s.record ∧ ((p.nextBurst s).bank ≠ o.bank ∨ (p.nextBurst s).page ≠ o.page)))

/-- The next burst depends on the record, the progress and what SET_WINDOW gave the window. -/
theorem Part.nextBurst_congr {s x : Slot} (hrecord : x.record = s.record) (hprogress : x.progress = s.progress)
    (hwindow : x.window = s.window) (hw : ∀ w, q.window w = { p.window w with
      timeouts := (q.window w).timeouts, banks := (q.window w).banks, state := (q.window w).state
      drain := (q.window w).drain, inFlight := (q.window w).inFlight }) : q.nextBurst x = p.nextBurst s := by
  unfold Part.nextBurst
  rw [hrecord, hprogress, hwindow]
  cases s.window with
  | none => rfl
  | some w =>
    simp only
    rw [hw w]
    cases recOpcode s.record with
    | none => rfl
    | some op => cases op <;> rfl

theorem Part.markForClose_of_marks {s : Slot} {b : Bool} {w : Fin 16} (hw : o.window = some w) (h : p.Marks o s b w) :
    p.markForClose o s b = p.modBank w o.bank Bank.givenBack := by
  unfold Part.markForClose
  simp only [hw]
  exact if_pos h

theorem Part.markForClose_of_not_marks {s : Slot} {b : Bool} {w : Fin 16} (hw : o.window = some w)
    (h : ¬p.Marks o s b w) : p.markForClose o s b = p := by
  unfold Part.markForClose
  simp only [hw]
  exact if_neg h

theorem Part.markForClose_of_none {s : Slot} {b : Bool} (hw : o.window = none) : p.markForClose o s b = p := by
  unfold Part.markForClose
  simp only [hw]

/-- The report looks at the page as R87 says, told of the part before it. -/
theorem Part.marks_reported (p : Part) (o : Operation) (k : Fin 8) (e : OperationEnd) (n : Nat) (w : Fin 16) :
    e ≠ .hostReadError ∧ (p.reported o e).Marks o (((p.reported o e).slot k).tookReport e n)
        ((p.reportEnd o k e n true).isSome && (p.reported o e).engine.state != .failed) w
      ↔ GivesBackPage p o k e n w := by
  obtain ⟨hrecord, hring, hwindow, hprogress, -⟩ := p.took_fields o k e n
  have hburst : (p.reported o e).nextBurst (((p.reported o e).slot k).tookReport e n) =
      p.nextBurst { p.slot k with progress := (p.slot k).progress + n } := by
    refine Part.nextBurst_congr hrecord hprogress hwindow fun v => ?_
    conv_lhs => rw [p.reported_window o e v]
    conv_rhs => rw [p.reported_window o e v]
  have hends := p.endsWith_isSome o k e n
  have hsettles : ((p.reportEnd o k e n true).isSome && (p.reported o e).engine.state != .failed) = true
      ↔ ReportSettles p o k e n := by
    rw [← hends, p.reportEnd_eq, p.reported_engine]
    simp
  unfold Part.Marks GivesBackPage
  rw [hsettles, hburst, hrecord, hprogress, p.reported_window o e w]

theorem set_modify_givenBack (l : List Bank) (n : Nat) : (l.set n Bank.unknown).modify n Bank.givenBack = l.set n .unknown := by
  refine List.ext_getElem? fun i => ?_
  rw [List.getElem?_modify, List.getElem?_set]
  by_cases hi : n = i
  · subst hi
    simp only [if_true]
    split <;> rfl
  · simp [hi]

/-- The operation's window after the report: the bank of a burst that failed is UNKNOWN, another is given back where
R87 says so. -/
theorem Part.pageLeft_banks (p : Part) (o : Operation) (k : Fin 8) (e : OperationEnd) (n : Nat) {w : Fin 16}
    (hw : o.window = some w) :
    (e.fails = true → ((p.pageLeft o k e n true).window w).banks = (p.window w).banks.set o.bank .unknown)
    ∧ (e.fails = false →
      (GivesBackPage p o k e n w → ((p.pageLeft o k e n true).window w).banks =
        (p.window w).banks.modify o.bank Bank.givenBack)
      ∧ (¬GivesBackPage p o k e n w → ((p.pageLeft o k e n true).window w).banks = (p.window w).banks)) := by
  have hbanks : ((p.reported o e).window w).banks =
      if e.fails = true then (p.window w).banks.set o.bank .unknown else (p.window w).banks := by
    rw [p.reported_window o e w]
    simp [hw]
  have hmarks := p.marks_reported o k e n w
  by_cases hgives : GivesBackPage p o k e n w
  · obtain ⟨hread, hm⟩ := hmarks.2 hgives
    have hleft : ((p.pageLeft o k e n true).window w).banks =
        ((p.reported o e).window w).banks.modify o.bank Bank.givenBack := by
      rw [Part.pageLeft, if_neg hread, Part.markForClose_of_marks hw hm, Part.modBank_window, if_pos rfl]
    rw [hleft, hbanks]
    refine ⟨fun hf => ?_, fun hf => ⟨fun _ => ?_, fun h => absurd hgives h⟩⟩
    · rw [if_pos hf, set_modify_givenBack]
    · rw [if_neg (by simp [hf])]
  · have hleft : (p.pageLeft o k e n true).window w = (p.reported o e).window w := by
      unfold Part.pageLeft
      split
      · rfl
      · next hread => rw [Part.markForClose_of_not_marks hw fun hm => hgives (hmarks.1 ⟨hread, hm⟩)]
    rw [hleft, hbanks]
    refine ⟨fun hf => by rw [if_pos hf], fun hf => ⟨fun h => absurd h hgives, fun _ => ?_⟩⟩
    rw [if_neg (by simp [hf])]

/-- Of a window the report's look at the page touches the banks alone, and those of the burst's window only. -/
theorem Part.pageLeft_window (p : Part) (o : Operation) (k : Fin 8) (e : OperationEnd) (n : Nat) (b : Bool) (v : Fin 16) :
    (p.pageLeft o k e n b).window v = { (p.reported o e).window v with
      banks := ((p.pageLeft o k e n b).window v).banks }
    ∧ (o.window ≠ some v → (p.pageLeft o k e n b).window v = (p.reported o e).window v) := by
  unfold Part.pageLeft
  split
  · exact ⟨rfl, fun _ => rfl⟩
  · rcases (p.reported o e).markForClose_eq o (((p.reported o e).slot k).tookReport e n)
      ((p.reportEnd o k e n b).isSome && (p.reported o e).engine.state != .failed) with h | ⟨w, hw, h⟩
    · rw [h]
      exact ⟨rfl, fun _ => rfl⟩
    · rw [h, Part.modBank_window]
      refine ⟨by split <;> rfl, fun hv => if_neg ?_⟩
      rintro rfl
      exact hv hw

/-- After the look at the page a report touches the queue, the rings and the counts alone. -/
theorem Part.reportBurst_queueOnly (p : Part) (o : Operation) (k : Fin 8) (e : OperationEnd) (n : Nat) (b : Bool) :
    (p.pageLeft o k e n b).QueueOnly (p.reportBurst o k e n b) := by
  rw [Part.reportBurst_eq]
  split
  · exact (Part.QueueOnly.refl _).modSlot k _
  · split
    · exact ((Part.QueueOnly.refl _).modSlot k _).settle k _ _
    · exact ((Part.QueueOnly.refl _).modSlot k _).considerSlots

end Sys2Proof.Machine
end

section
/-! A part that leaves the backplane: what DETACHED tells, how a DETACH that waits ends, and the error limit
(R106, R108, R139, R161). -/

-- One declaration at a time: every further thread counts against the memory the check allows.
set_option Elab.async false

namespace Sys2Proof.Machine

variable {p q : Part} {k : Fin 8} {c : DetachCause}

/-! ### What a settlement leaves of the Administration Unit and of the chain hold -/

theorem Part.discardAdmission_adminHeld (p : Part) (r : Fin 8) :
    (p.discardAdmission r).compl.adminHeld = p.compl.adminHeld := by
  rcases p.discardAdmission_cases r with ⟨a, -, -, hd⟩ | ⟨-, hd⟩
  · rw [hd, (Part.endHoldFor_keeps _ _ _).compl, Part.released_adminHeld]
    rfl
  · rw [hd]

theorem Part.haltReturns_adminHeld (p : Part) (r : Fin 8) : (p.haltReturns r).compl.adminHeld = p.compl.adminHeld :=
  (Part.discardAdmission_adminHeld (p.wentBack r) r).trans (p.returned_adminHeld _)

theorem Part.completed_adminHeld (p : Part) (k : Fin 8) (st : Status) (x : BitVec 32) :
    (p.completed k st x).compl.adminHeld = p.compl.adminHeld := by
  have hpasses : (p.passes k st x).compl = p.compl :=
    (p.passes_keeps k st x).compl.trans (p.concluded_keeps k st x).compl
  rw [Part.completed_eq]
  split
  · exact (Part.released_adminHeld _ _).trans (congrArg CompletionUnit.adminHeld hpasses)
  split
  · exact (congrArg CompletionUnit.adminHeld hpasses :)
  · exact congrArg CompletionUnit.adminHeld hpasses

theorem Part.settle_adminHeld (p : Part) (k : Fin 8) (st : Status) (x : BitVec 32) :
    (p.settle k st x).compl.adminHeld = p.compl.adminHeld := by
  have hhanded : (p.handedOn k st x).compl.adminHeld = p.compl.adminHeld :=
    (congrArg CompletionUnit.adminHeld (p.handedOn_keeps k st x).compl).trans (p.completed_adminHeld k st x)
  rcases p.settle_cases k st x with ⟨-, h⟩ | ⟨-, q, h, hq⟩
  · rw [h, Part.considerSlots_compl, Part.haltReturns_adminHeld]
    exact hhanded
  · rw [h, Part.considerSlots_compl, hq.keeps.compl, hhanded]

theorem Part.NoFlush.settle_admin (h : p.NoFlush) (k : Fin 8) (st : Status) (x : BitVec 32) :
    (p.settle k st x).admin = p.admin := by
  have hhanded : (p.handedOn k st x).admin = p.admin :=
    (p.handedOn_keeps k st x).admin.trans (h.completed_admin k st x)
  have hflush : (p.haltedBy k st x).NoFlush := h.of_admin hhanded
  rcases p.settle_cases k st x with ⟨-, hs⟩ | ⟨-, q, hs, hq⟩
  · rw [hs, Part.considerSlots_admin, hflush.haltReturns_admin]
    exact hhanded
  · rw [hs, Part.considerSlots_admin, hq.keeps.admin, hhanded]

/-- A halt can end a chain hold and begins none. -/
theorem Part.haltReturns_chainHold (p : Part) (r : Fin 8) (h : p.port.chainHold = none) :
    (p.haltReturns r).port.chainHold = none := by
  have hback : (p.wentBack r).port.chainHold = none := by
    have hkeeps : p.Keeps [.admin, .fetch, .sched, .windows, .compl, .stats] (p.wentBack r) := by simp [Part.wentBack]
    rw [hkeeps.port]
    exact h
  have hdiscard : ((p.wentBack r).discardAdmission r).port.chainHold = none := by
    rcases (p.wentBack r).discardAdmission_cases r with ⟨a, -, -, hd⟩ | ⟨-, hd⟩
    · rw [hd, Part.endHoldFor]
      split
      · rfl
      · rw [(Part.released_keeps _ _).port]
        exact hback
    · rw [hd]
      exact hback
  exact hdiscard

/-- A settlement without SUCCESS begins no chain hold (R45). -/
theorem Part.settle_chainHold (h : p.port.chainHold = none) {st : Status} (hst : st ≠ .success) (k : Fin 8) (x : BitVec 32) :
    (p.settle k st x).port.chainHold = none := by
  have hhanded : (p.handedOn k st x).port.chainHold = none := by
    rw [Part.handedOn, Part.beginHold, if_neg (by simp [hst]), (p.completed_keeps k st x).port]
    exact h
  rcases p.settle_cases k st x with ⟨-, hs⟩ | ⟨-, q, hs, hq⟩
  · rw [hs, Part.considerSlots_port]
    exact Part.haltReturns_chainHold _ _ hhanded
  · rw [hs, Part.considerSlots_port, hq.keeps.port, hhanded]

/-- After its look at the page a report settles its slot, or touches the queue alone. -/
theorem Part.reportBurst_cases (p : Part) (o : Operation) (k : Fin 8) (e : OperationEnd) (n : Nat) (b : Bool) :
    (p.pageLeft o k e n b).Keeps [.sched] (p.reportBurst o k e n b)
    ∨ ∃ q st x, (p.pageLeft o k e n b).Keeps [.sched] q ∧ p.reportEnd o k e n b = some (st, x)
      ∧ p.reportBurst o k e n b = q.settle k st x := by
  rw [Part.reportBurst_eq]
  split
  · exact .inl (by simp)
  · cases hends : p.reportEnd o k e n b with
    | none => exact .inl (by simp)
    | some end_ => exact .inr ⟨_, end_.1, end_.2, by simp, rfl, rfl⟩

/-! ### DETACHED is told, and a DETACH that waits ends -/

theorem Part.dropReceiving_write (p : Part) : p.dropReceiving.notices.write = p.notices.write := rfl

theorem Part.detach_told (halive : p.engine.state.alive = true) (c : DetachCause) :
    (p.detach c).notices.detached = some c ∧ (p.detach c).notices.write = p.notices.write := by
  have hpend : (p.detach c).notices = (p.portDetached.pendDetached c).notices :=
    (Part.finishDetach_keeps _ c).notices
  have halive' : p.portDetached.engine.state.alive = true := halive
  rw [hpend]
  simp only [Part.pendDetached, if_pos halive', Part.countMerge]
  split <;> exact ⟨rfl, rfl⟩

theorem Part.detach_ends {s : State} (hp : p.admin = s.part.admin) (hengine : p.engine = s.part.engine)
    (halive : p.engine.state.alive = true) (c : DetachCause) : DetachEnds s { s with part := p.detach c } c := by
  intro hwaiting
  have hpend : p.portDetached.Keeps [.notices, .stats] (p.portDetached.pendDetached c) := by simp
  have hadmin : (p.portDetached.pendDetached c).admin = s.part.admin := hpend.admin.trans hp
  have hends : p.detach c = (p.portDetached.pendDetached c).endCommand .success (BitVec.ofNat 32 c.code) := by
    refine if_pos ⟨?_, ?_⟩
    · rw [hpend.engine]
      exact halive
    · rw [hadmin, hwaiting]
  have harea : (p.portDetached.pendDetached c).engine.areaSize = s.part.engine.areaSize :=
    congrArg Engine.areaSize (hpend.engine.trans hengine)
  refine ⟨congrArg (·.admin.state) hends, congrArg (·.admin.command) hends, (congrArg (·.admin.consumer) hends).trans ?_,
    (congrArg (·.compl.adminHeld) hends).trans ?_⟩
  · change succIndex (p.portDetached.pendDetached c).engine.areaSize (p.portDetached.pendDetached c).admin.consumer = _
    rw [harea, hadmin]
  · change some { tag := (p.portDetached.pendDetached c).admin.tag, index := (p.portDetached.pendDetached c).admin.consumer, status := Status.success, result := BitVec.ofNat 32 c.code : AdminCompletion } = _
    rw [hadmin]

/-- The Notice Unit can ask for the next entry at once: RUNNING, a ring with room, no entry being written (R139). -/
def Part.MayPost (p : Part) : Prop := p.engine.state = .running ∧ p.notices.ring.present = true
  ∧ 1 ≤ p.notices.ring.freeEntries ∧ p.notices.write = none

theorem Part.askNotice_of_busy (h : ¬p.MayPost) : p.askNotice = p := if_neg h

theorem Part.askNotice_of_attached (h : p.MayPost) (hattached : p.notices.attached = true) : p.askNotice =
    (p.askNoticeEntry (p.localEntry 1 0) { buffer := none, urgent := false }).onNotices fun n =>
      { n with attached := false } := (if_pos h).trans (if_pos hattached)

theorem Part.askNotice_of_detached (h : p.MayPost) (hattached : p.notices.attached = false)
    (hdetached : p.notices.detached = some c) : p.askNotice =
    (p.askNoticeEntry (p.localEntry 2 c.code) { buffer := none, urgent := false }).onNotices fun n =>
      { n with detached := none } := by
  refine (if_pos h).trans ((if_neg (by simp [hattached])).trans ?_)
  simp only [hdetached]

theorem Part.askNotice_of_fenced {l : BitVec 16} (h : p.MayPost) (hattached : p.notices.attached = false)
    (hdetached : p.notices.detached = none) (hfenced : p.notices.fenced = some l) : p.askNotice =
    (p.askNoticeEntry (p.localEntry 3 l.toNat) { buffer := none, urgent := false }).onNotices fun n =>
      { n with fenced := none } := by
  refine (if_pos h).trans ((if_neg (by simp [hattached])).trans ?_)
  simp only [hdetached, hfenced]

/-- What follows at the same event does in the Notice Unit what the ask for its next entry does, with the port as
it then stands. -/
theorem Part.react_askNotice (p : Part) : ∃ q : Part, q.notices = p.notices ∧ q.engine = p.engine ∧ q.port = p.react.port
    ∧ p.react.notices = q.askNotice.notices ∧ p.react.request .notices = q.askNotice.request .notices := by
  refine ⟨p.movePort.driveLevel.captureFlush.askPosting.askAdminPosting, by simp, by simp, ?_, ?_, ?_⟩
  · simp [Part.react_port]
  · rw [Part.react, Part.askCommand_notices]
  · rw [Part.react]
    generalize p.movePort.driveLevel.captureFlush.askPosting.askAdminPosting.askNotice = q
    unfold Part.askCommand
    split
    · simp [Part.ask_request]
    · rfl

/-- A DETACHED event that waits still waits, or its entry or one before it has been asked for (R139). -/
theorem Part.react_detached (h : p.notices.detached = some c) : p.react.notices.detached = some c
    ∨ (p.notices.write = none ∧ p.react.notices.write = some { buffer := none, urgent := false }
      ∧ p.react.notices.detached = none) := by
  obtain ⟨q, hnotices, -, -, hreact, -⟩ := p.react_askNotice
  rw [← hnotices] at h ⊢
  rw [hreact]
  by_cases hpost : q.MayPost
  · cases hattached : q.notices.attached
    · rw [Part.askNotice_of_detached hpost hattached h]
      exact .inr ⟨hpost.2.2.2, rfl, rfl⟩
    · rw [Part.askNotice_of_attached hpost hattached]
      exact .inl h
  · rw [Part.askNotice_of_busy hpost]
    exact .inl h

theorem DetachTold.of_react {s t : State} (hq : q.notices.detached = some c) (hwrite : q.notices.write = s.part.notices.write)
    (ht : t.part = q.react) : DetachTold s t c := by
  rw [DetachTold, ht, ← hwrite]
  exact Part.react_detached hq

theorem Part.react_of_completing (h : q.admin.state = .completing) : q.react.admin = q.admin := by
  refine Part.react_admin_of_not_due ?_ ?_
  · rintro hdue
    simp [Part.captureDue, h] at hdue
  · rintro hdue
    simp [Part.commandDue, Part.adminFree, h] at hdue

/-- What ends with the detachment stays ended at the same event. -/
theorem DetachEnds.react {s t : State} (h : DetachEnds s { s with part := q } c) (ht : t.part = q.react) :
    DetachEnds s t c := by
  intro hwaiting
  obtain ⟨hstate, hcommand, hconsumer, hheld⟩ := h hwaiting
  rw [ht, Part.react_of_completing hstate, Part.react_compl]
  exact ⟨hstate, hcommand, hconsumer, hheld⟩

/-! ### The port after the error limit (R108) -/

theorem Part.react_port_releasing (h : p.port.state = .releasing ∨ (p.port.state = .yielding ∧ p.master.state = .idle)) :
    p.react.port.state = .releasing := by
  rw [Part.react_port]
  rcases h with h | ⟨h, hidle⟩ <;> simp [Part.movePort, Part.driveLevel, *]

theorem Part.react_port_away (h : p.port.state = .detached ∨ p.port.state = .joining) :
    p.react.port.state = p.port.state := by
  rw [Part.react_port]
  rcases h with h | h <;> simp [Part.movePort, Part.driveLevel, h]

/-- A port that is away drives REQ low still. -/
theorem Part.react_port_low (h : p.port.state = .detached) (hreq : p.port.req = false) :
    p.react.port = { p.port with lvl := 3 } := by
  rw [Part.react_port]
  simp [Part.movePort, Part.driveLevel, h, hreq]

/-- `u` is a part in which a protocol fault has brought the error count to 16, before what follows at the same event:
the Master is IDLE and the port on its way out. -/
structure LimitReached (s : State) (u : Part) : Prop where
  master : u.master.state = .idle
  owning : s.part.port.state = .owner ∨ s.part.port.state = .yielding ∨ s.part.port.state = .releasing →
    (u.port.state = .releasing ∨ u.port.state = .yielding) ∧ u.port.mark = .errorLimit ∧ u.port.chainHold = none
  waiting : s.part.port.state = .idle ∨ s.part.port.state = .requesting →
    u.port.state = .detached ∧ u.port.req = false ∧ u.port.mark = .none
  told : s.part.port.state = .idle ∨ s.part.port.state = .requesting → s.part.engine.state.alive = true →
    u.notices.detached = some .errorLimit ∧ u.notices.write = s.part.notices.write
      ∧ DetachEnds s { s with part := u } .errorLimit
  away : s.part.port.state = .detached ∨ s.part.port.state = .joining →
    u.port.state = s.part.port.state ∧ u.port.mark = s.part.port.mark

theorem LimitReached.leaves {s t : State} (h : LimitReached s q) (ht : t.part = q.react) : LeavesAtLimit s t where
  owning hs := by
    obtain ⟨hstate, hmark, hhold⟩ := h.owning hs
    rw [ht]
    exact ⟨Part.react_port_releasing (hstate.imp_right fun h' => ⟨h', h.master⟩), by simpa using hmark, by simpa using hhold⟩
  waiting hs := by
    obtain ⟨hstate, hreq, hmark⟩ := h.waiting hs
    rw [ht, Part.react_port_low hstate hreq]
    exact ⟨hstate, hreq, rfl, hmark⟩
  told hs halive := by
    obtain ⟨hdetached, hwrite, hends⟩ := h.told hs halive
    exact ⟨.of_react hdetached hwrite ht, hends.react ht⟩
  away hs := by
    obtain ⟨hstate, hmark⟩ := h.away hs
    rw [ht, Part.react_port_away (by rwa [hstate]), Part.react_port_mark]
    exact ⟨hstate, hmark⟩

/-- The error count comes to 16. -/
theorem LimitReached.of_raiseError {s : State} (hlimit : q.port.errorCount = 15) (hidle : q.master.state = .idle)
    (hport : q.port = s.part.port) (hadmin : q.admin = s.part.admin) (hengine : q.engine = s.part.engine)
    (hwrite : q.notices.write = s.part.notices.write) : LimitReached s q.raiseError := by
  have hmaster := q.raiseError_keeps.master
  have hstate : (q.onPort Port.raise).port.state = s.part.port.state := (congrArg Port.state hport :)
  rw [Part.raiseError_limit hlimit] at hmaster ⊢
  refine ⟨by rw [hmaster]; exact hidle, fun hs => ?_, fun hs => ?_, fun hs halive => ?_, fun hs => ?_⟩
  · unfold Part.leaveAtLimit
    rw [hstate]
    rcases hs with hs | hs | hs <;> rw [hs]
    · exact ⟨.inl rfl, rfl, rfl⟩
    · exact ⟨.inr (hstate.trans hs), rfl, rfl⟩
    · exact ⟨.inl (hstate.trans hs), rfl, rfl⟩
  · have hleave : (q.onPort Port.raise).leaveAtLimit = (q.onPort Port.raise).detach .errorLimit := by
      unfold Part.leaveAtLimit
      rw [hstate]
      rcases hs with hs | hs <;> rw [hs]
    rw [hleave, Part.detach_port]
    exact ⟨rfl, rfl, rfl⟩
  · have hleave : (q.onPort Port.raise).leaveAtLimit = (q.onPort Port.raise).detach .errorLimit := by
      unfold Part.leaveAtLimit
      rw [hstate]
      rcases hs with hs | hs <;> rw [hs]
    rw [← hengine] at halive
    obtain ⟨hdetached, hkept⟩ := Part.detach_told (p := q.onPort Port.raise) halive .errorLimit
    rw [hleave]
    exact ⟨hdetached, hkept.trans hwrite, Part.detach_ends (p := q.onPort Port.raise) hadmin hengine halive _⟩
  · unfold Part.leaveAtLimit
    rw [hstate]
    rcases hs with hs | hs <;> rw [hs]
    · exact ⟨hstate.trans hs, (congrArg Port.mark hport :)⟩
    · exact ⟨hstate.trans hs, (congrArg Port.mark hport :)⟩

end Sys2Proof.Machine
end

section
/-! What a report does to the port, the windows and the counters (R36, R67, R83, R86, R87, R107, R108): O33. -/

-- One declaration at a time: every further thread counts against the memory the check allows.
set_option Elab.async false

namespace Sys2Proof.Machine

variable {p q : Part} {o : Operation} {k : Fin 8} {e : OperationEnd} {n : Nat}

/-- The port error count after the end of an operation (R107). -/
def OperationEnd.errorCount (e : OperationEnd) (n : Nat) : Nat :=
  match e with
  | .clean => n - 1
  | .protocolFault => min 16 (n + 1)
  | _ => n

theorem Part.verdict_errorCount (p : Part) (o : Operation) (e : OperationEnd) :
    (p.verdict o e).port.errorCount = e.errorCount p.port.errorCount := by
  cases e with
  | clean => rw [p.verdict_port_clean o]; rfl
  | protocolFault =>
    obtain ⟨q, h, hq⟩ := p.verdict_protocolFault o
    rw [h, q.raiseError_errorCount, hq.port]
    rfl
  | _ => rw [p.verdict_port_of_quiet o (by simp) (by simp)]; rfl

/-- Save at the error limit the verdict leaves the port as it is but for its error count. -/
theorem Part.verdict_port (p : Part) (o : Operation) (h : e ≠ .protocolFault ∨ p.port.errorCount ≠ 15) :
    (p.verdict o e).port = { p.port with errorCount := e.errorCount p.port.errorCount } := by
  cases e with
  | clean => exact p.verdict_port_clean o
  | protocolFault =>
    obtain ⟨q, hv, hq⟩ := p.verdict_protocolFault o
    have hcount : q.port.errorCount ≠ 15 := by
      rw [hq.port]
      exact h.resolve_left (by simp)
    rw [hv, Part.raiseError_mark hcount, hq.port]
    rfl
  | _ => exact p.verdict_port_of_quiet o (by simp) (by simp)

/-- A protocol fault at an error count of 15 brings it to its limit. -/
theorem LimitReached.of_verdict {s : State} (hq : s.part.Keeps [.host, .master, .windows, .out] q)
    (hcount : s.part.port.errorCount = 15) (hidle : q.master.state = .idle) :
    LimitReached s (q.verdict o .protocolFault) := by
  obtain ⟨r, hv, hr⟩ := q.verdict_protocolFault o
  rw [hv]
  refine .of_raiseError (by rw [hr.port, hq.port, hcount]) (by rw [hr.master, hidle]) (hr.port.trans hq.port)
    (hr.admin.trans hq.admin) (hr.engine.trans hq.engine) ?_
  rw [hr.notices, hq.notices]

/-- The limit stays reached where the port keeps all but a chain hold, and the Administration Unit, where it has ended a
command, stays as it is. -/
theorem LimitReached.mono {s : State} {r : Part} (h : LimitReached s q) (hmaster : r.master.state = .idle)
    (hport : q.HoldOnly r) (hhold : q.port.chainHold = none → r.port.chainHold = none) (hnotices : r.notices = q.notices)
    (hadmin : q.admin.state = .completing → r.admin = q.admin) (hheld : r.compl.adminHeld = q.compl.adminHeld) :
    LimitReached s r where
  master := hmaster
  owning hs := by
    obtain ⟨hstate, hmark, hnone⟩ := h.owning hs
    exact ⟨by rw [hport]; exact hstate, by rw [hport]; exact hmark, hhold hnone⟩
  waiting hs := by
    rw [hport]
    exact h.waiting hs
  told hs halive := by
    obtain ⟨hdetached, hwrite, hends⟩ := h.told hs halive
    refine ⟨by rw [hnotices]; exact hdetached, by rw [hnotices]; exact hwrite, fun hw => ?_⟩
    obtain ⟨hstate, hcommand, hconsumer, hcompletion⟩ := hends hw
    have ha : r.admin = q.admin := hadmin hstate
    exact ⟨(congrArg AdminUnit.state ha).trans hstate, (congrArg AdminUnit.command ha).trans hcommand,
      (congrArg AdminUnit.consumer ha).trans hconsumer, hheld.trans hcompletion⟩
  away hs := by
    rw [hport]
    exact h.away hs

theorem Part.pageLeft_verdict (p : Part) (o : Operation) (k : Fin 8) (e : OperationEnd) (n : Nat) (b : Bool) :
    (p.masterIdle.verdict o e).Keeps [.windows, .stats] (p.pageLeft o k e n b) :=
  ((p.reported_keeps o e).mono (by simp)).trans ((p.pageLeft_keeps o k e n b).mono (by simp))

/-- The rest of a report keeps an error limit reached. -/
theorem LimitReached.reportBurst {s : State} (h : LimitReached s (p.masterIdle.verdict o e)) (k : Fin 8) (n : Nat)
    (hfails : e ≠ .clean ∧ e ≠ .retry) : LimitReached s (p.reportBurst o k e n true) := by
  have hleft := p.pageLeft_verdict o k e n true
  have hmaster : (p.reportBurst o k e n true).master.state = .idle := by rw [Part.reportBurst_master]; rfl
  have hhold := p.holdOnly_reportBurst o k e n true
  rcases p.reportBurst_cases o k e n true with hq | ⟨q, st, x, hq, hends, hr⟩
  · have hkeeps := (hleft.mono (by simp)).trans (hq.mono (by simp)) (l := [.windows, .stats, .sched])
    exact h.mono hmaster hhold (fun hnone => by rw [hkeeps.port]; exact hnone) hkeeps.notices (fun _ => hkeeps.admin)
      (congrArg CompletionUnit.adminHeld hkeeps.compl)
  · have hkeeps := (hleft.mono (by simp)).trans (hq.mono (by simp)) (l := [.windows, .stats, .sched])
    have hst : st ≠ .success := by
      rw [Part.reportEnd_eq] at hends
      rintro rfl
      cases e <;> simp_all [Part.endsWith, OperationEnd.failure]
    refine h.mono hmaster hhold (fun hnone => ?_) ?_ (fun hcompleting => ?_) ?_
    · rw [hr]
      exact Part.settle_chainHold (by rw [hkeeps.port]; exact hnone) hst k x
    · rw [hr, (q.settle_keeps k st x).notices, hkeeps.notices]
    · have hflush : q.NoFlush := fun f => by rw [hkeeps.admin, hcompleting]; simp
      rw [hr, hflush.settle_admin, hkeeps.admin]
    · rw [hr, Part.settle_adminHeld, hkeeps.compl]

/-! ### The counters -/

theorem Part.reportBurst_stats (p : Part) (o : Operation) (k : Fin 8) (e : OperationEnd) (n : Nat) (b : Bool) :
    (p.reportBurst o k e n b).stats = { (p.reported o e).stats with
      returns := (p.reportBurst o k e n b).stats.returns } := by
  have hleft := (p.pageLeft_keeps o k e n b).stats
  rcases p.reportBurst_cases o k e n b with hq | ⟨q, st, x, hq, -, hr⟩
  · rw [hq.stats, hleft]
  · rw [hr, Part.settle_stats, hq.stats, hleft]

theorem Part.reported_stats (p : Part) (o : Operation) (e : OperationEnd) : (p.reported o e).stats = { p.stats with
    bursts := satSucc p.stats.bursts
    retries := if e = .retry then satSucc p.stats.retries else p.stats.retries
    timeouts := if e = .timeout then satSucc p.stats.timeouts else p.stats.timeouts
    targetFaults := if e = .fault then satSucc p.stats.targetFaults else p.stats.targetFaults
    busErrors := if e = .protocolFault then satSucc p.stats.busErrors else p.stats.busErrors
    merged := (p.reported o e).stats.merged } := by
  have hstats : (p.reported o e).stats = { (p.masterIdle.verdict o e).stats with
      bursts := satSucc (p.masterIdle.verdict o e).stats.bursts
      retries := if e = .retry then satSucc (p.masterIdle.verdict o e).stats.retries
        else (p.masterIdle.verdict o e).stats.retries } := rfl
  rw [hstats, p.masterIdle.verdict_stats o e]
  rfl

/-! ### The windows -/

/-- Of its window a report leaves what the verdict and the look at the page say, but for the in-flight count. -/
theorem Part.reportBurst_window (p : Part) (o : Operation) (k : Fin 8) (e : OperationEnd) (n : Nat) (b : Bool) (w : Fin 16) :
    ∃ m, (p.reportBurst o k e n b).window w = { (p.pageLeft o k e n b).window w with inFlight := m } :=
  (p.reportBurst_queueOnly o k e n b).windows w

theorem Part.reportBurst_timeouts (p : Part) (o : Operation) (k : Fin 8) (e : OperationEnd) (n : Nat) (b : Bool) (w : Fin 16) :
    ((p.reportBurst o k e n b).window w).timeouts =
      if o.window = some w then e.timeouts (p.window w).timeouts else (p.window w).timeouts := by
  obtain ⟨m, h⟩ := p.reportBurst_window o k e n b w
  rw [h, (p.pageLeft_window o k e n b w).1, p.reported_window o e w]

theorem Part.reportBurst_banks_other (p : Part) (o : Operation) (k : Fin 8) (e : OperationEnd) (n : Nat) (b : Bool)
    {w : Fin 16} (hw : o.window ≠ some w) : ((p.reportBurst o k e n b).window w).banks = (p.window w).banks := by
  obtain ⟨m, h⟩ := p.reportBurst_window o k e n b w
  rw [h, (p.pageLeft_window o k e n b w).2 hw, p.reported_window o e w]
  simp [hw]

/-- The part in which a report is made, written out. -/
theorem Part.Keeps.eq_hostMasterOut (h : p.Keeps [.host, .master, .out] q) :
    q = { p with host := q.host, master := q.master, out := q.out } := by
  have hengine := h.engine
  have hadmin := h.admin
  have hfetch := h.fetch
  have hsched := h.sched
  have hwindows := h.windows
  have hport := h.port
  have hnotices := h.notices
  have hcompl := h.compl
  have hstats := h.stats
  cases q
  simp_all

theorem ReportedFrom.givesBackPage {c : Instr} (h : ReportedFrom p o c e q) (k : Fin 8) (n : Nat) (w : Fin 16) :
    GivesBackPage q o k e n w ↔ GivesBackPage p o k e n w := by
  rw [h.keeps.eq_hostMasterOut]
  rfl

/-- Settles O33. -/
theorem reportsCarryTheVerdict : Obligations.ReportsCarryTheVerdict := by
  intro s c o k e n hreports hcount
  obtain ⟨q, hq, heffect⟩ := hreports.effect_eq
  set u := q.reportBurst o k e n true with hu
  have hkeeps : q.Keeps _ u := q.reportBurst_keeps o k e n true
  have hstats := q.reportBurst_stats o k e n true
  rw [q.reported_stats, hq.keeps.stats] at hstats
  have hport := q.holdOnly_reportBurst o k e n true
  have hmasterIdle : s.part.Keeps [.host, .master, .windows, .out] q.masterIdle := by
    rw [Part.masterIdle, Part.keeps_onMaster _ (by simp)]
    exact hq.keeps.mono (by simp)
  have hbanks (w : Fin 16) : (u.window w).banks = ((q.pageLeft o k e n true).window w).banks := by
    obtain ⟨m, h⟩ := q.reportBurst_window o k e n true w
    rw [hu, h]
  refine ⟨_, exec_of_effect heffect, ?_, ?_, ?_, ?_, ?_, ?_, ?_, fun w hw => ⟨?_, ?_, ?_⟩, ?_, ?_, ?_, ?_, ?_, rfl⟩
  · rw [Part.react_master]
    exact q.reportBurst_master ..
  · exact (congrArg Stats.bursts (Part.react_stats u)).trans (congrArg Stats.bursts hstats)
  · exact (congrArg Stats.retries (Part.react_stats u)).trans (congrArg Stats.retries hstats)
  · exact (congrArg Stats.timeouts (Part.react_stats u)).trans (congrArg Stats.timeouts hstats)
  · exact (congrArg Stats.targetFaults (Part.react_stats u)).trans (congrArg Stats.targetFaults hstats)
  · exact (congrArg Stats.busErrors (Part.react_stats u)).trans (congrArg Stats.busErrors hstats)
  · rw [Part.react_port_errorCount, hport, Part.verdict_errorCount, hmasterIdle.port]
    cases e <;> rfl
  · rw [Part.react_window, hu, q.reportBurst_timeouts, if_pos hw, hq.keeps.window w]
    cases e <;> rfl
  · intro hfails
    have hend : e.fails = true := by simpa [OperationEnd.fails, or_assoc] using hfails
    rw [Part.react_window, hbanks, ((q.pageLeft_banks o k e n hw).1 hend), hq.keeps.window w]
  · intro htimeout hfault hprotocol
    have hend : e.fails = false := by simp [OperationEnd.fails, htimeout, hfault, hprotocol]
    have hleft := (q.pageLeft_banks o k e n hw).2 hend
    rw [hq.givesBackPage, hq.keeps.window w] at hleft
    rw [Part.react_window, hbanks]
    exact hleft
  · rintro rfl hlimit
    have hreached : LimitReached s (q.masterIdle.verdict o .protocolFault) :=
      .of_verdict hmasterIdle hlimit rfl
    exact (hreached.reportBurst k n (by simp)).leaves rfl
  · intro hbelow
    rw [← hmasterIdle.port] at hbelow
    rw [Part.react_port_mark, hport, Part.verdict_port _ o hbelow, hmasterIdle.port]
  · intro w hw
    rw [Part.react_window, hu, q.reportBurst_timeouts, if_neg hw, q.reportBurst_banks_other o k e n true hw,
      hq.keeps.window w]
    exact ⟨rfl, rfl⟩
  · rw [Part.react_out, hkeeps.out, hq.out]
  · rw [Part.react_engine, hkeeps.engine, hq.keeps.engine]

end Sys2Proof.Machine
end

section
/-! What a report does to its slot (R23, R26, R28, R36 to R38, R45): O34. -/

-- One declaration at a time: every further thread counts against the memory the check allows.
set_option Elab.async false

namespace Sys2Proof.Machine

variable {p q : Part} {o : Operation} {k : Fin 8} {e : OperationEnd} {n : Nat} {b : Bool}

/-! ### The slot with its report, before it settles or goes on -/

/-- The part in which the slot has taken its report. -/
def Part.takesReport (p : Part) (o : Operation) (k : Fin 8) (e : OperationEnd) (n : Nat) (b : Bool) : Part :=
  (p.pageLeft o k e n b).modSlot k fun _ => ((p.reported o e).slot k).tookReport e n

theorem Part.pageLeft_engine (p : Part) (o : Operation) (k : Fin 8) (e : OperationEnd) (n : Nat) (b : Bool) :
    (p.pageLeft o k e n b).engine = p.engine :=
  (p.pageLeft_keeps o k e n b).engine.trans (p.reported_engine o e)

theorem Part.reportBurst_of_settles {st : Status} {x : BitVec 32} (h : p.engine.state ≠ .failed)
    (hends : p.reportEnd o k e n b = some (st, x)) :
    p.reportBurst o k e n b = (p.takesReport o k e n b).settle k st x := by
  rw [Part.reportBurst_eq, p.pageLeft_engine, if_neg h, hends]
  rfl

theorem Part.reportBurst_of_goesOn (h : p.engine.state ≠ .failed) (hends : p.reportEnd o k e n b = none) :
    p.reportBurst o k e n b = ((p.pageLeft o k e n b).modSlot k fun _ =>
      { ((p.reported o e).slot k).tookReport e n with state := .started, deferred := e == .retry }).considerSlots := by
  rw [Part.reportBurst_eq, p.pageLeft_engine, if_neg h, hends]

theorem Part.reportBurst_of_failed (h : p.engine.state = .failed) :
    p.reportBurst o k e n b = (p.pageLeft o k e n b).modSlot k fun _ =>
      { ((p.reported o e).slot k).tookReport e n with state := .started } := by
  rw [Part.reportBurst_eq, p.pageLeft_engine, if_pos h]

/-! The posting FIFO at the verdict. -/

theorem Part.detach_fifo (p : Part) (c : DetachCause) : (p.detach c).compl.fifo = p.compl.fifo := by
  have hkeeps : p.Keeps [.port, .notices, .stats] (p.portDetached.pendDetached c) := by simp
  have hfifo : (p.portDetached.pendDetached c).compl.fifo = p.compl.fifo := by rw [hkeeps.compl]
  rw [Part.detach, Part.finishDetach]
  split <;> exact hfifo

theorem Part.raiseError_fifo (p : Part) : p.raiseError.compl.fifo = p.compl.fifo := by
  by_cases h : p.port.errorCount = 15
  · rw [Part.raiseError_limit h, Part.leaveAtLimit]
    split
    iterate 2 exact Part.detach_fifo _ _
    all_goals rfl
  · rw [Part.raiseError_below h]
    rfl

/-- Only a fence considers the slots, and only the error limit ends a command. -/
theorem Part.verdict_keeps_of (p : Part) (o : Operation) {l : List Region} (hl : [.windows, .stats, .port] ⊆ l)
    (htimeout : e = .timeout → [.sched, .notices] ⊆ l) (hfault : e = .protocolFault → [.admin, .notices, .compl] ⊆ l) :
    p.Keeps l (p.verdict o e) := by
  obtain ⟨hwindows, hstats, hport⟩ : .windows ∈ l ∧ .stats ∈ l ∧ .port ∈ l := by simpa using hl
  cases e with
  | clean | retry | fault =>
    simp only [Part.verdict, Part.onOperationWindow]
    split <;> simp [hwindows, hstats, hport]
  | timeout =>
    have h := htimeout rfl
    simp only [List.cons_subset, List.nil_subset, and_true] at h
    simp only [Part.verdict, Part.onOperationWindow]
    split <;> simp [hwindows, hstats, h]
  | protocolFault =>
    have h := hfault rfl
    simp only [List.cons_subset, List.nil_subset, and_true] at h
    simp only [Part.verdict, Part.onOperationWindow]
    split <;> simp [hwindows, hstats, hport, h]
  | linkLost | grantLost | hostReadError => exact p.keeps_self l

theorem Part.verdict_fifo (p : Part) (o : Operation) (e : OperationEnd) :
    (p.verdict o e).compl.fifo = p.compl.fifo := by
  by_cases he : e = .protocolFault
  · subst he
    obtain ⟨q, h, hq⟩ := p.verdict_protocolFault o
    rw [h, q.raiseError_fifo, hq.compl]
  · have hkeeps : p.Keeps [.windows, .stats, .port, .sched, .notices] (p.verdict o e) :=
      p.verdict_keeps_of o (by simp) (by simp) (fun h => absurd h he)
    rw [hkeeps.compl]

theorem Part.reported_fifo (p : Part) (o : Operation) (e : OperationEnd) :
    (p.reported o e).compl.fifo = p.compl.fifo := by
  rw [(p.reported_keeps o e).compl]
  exact p.masterIdle.verdict_fifo o e

theorem Part.ComesToSettle.takesReport (p : Part) (o : Operation) (k : Fin 8) (e : OperationEnd) (n : Nat) (b : Bool) :
    p.ComesToSettle k (p.takesReport o k e n b) := by
  have hleft := p.pageLeft_keeps o k e n b
  have hslot (j : Fin 8) : (p.takesReport o k e n b).slot j =
      if j = k then ((p.reported o e).slot k).tookReport e n else (p.reported o e).slot j := by
    rw [Part.takesReport, Part.modSlot_slot, hleft.slot j]
  have hsame := p.reported_slot o e
  refine ⟨?_, fun j hj => ?_, fun r => ?_, fun w => ?_, ?_, ?_⟩
  · rw [hslot, if_pos rfl]
    exact congrArg (fun z : Slot => { z with state := .free, progress := 0, retries := 0, deferred := false }) (hsame k)
  · rw [hslot, if_neg hj]
    exact hsame j
  · rw [Part.takesReport, Part.modSlot_ring, hleft.ring r, p.reported_ring]
  · rw [Part.takesReport, Part.modSlot_window, (p.pageLeft_window o k e n b w).1, p.reported_window o e w]
  · rw [Part.takesReport, Part.modSlot_compl, hleft.compl, p.reported_fifo]
  · rw [Part.takesReport]
    refine (congrArg Scheduler.waiters hleft.sched).trans ?_
    rw [p.reported_sched o e]

theorem Part.ComesToSettle.of_keeps {r : Part} (hp : p.Keeps [.host, .master, .out] q) (h : q.ComesToSettle k r) :
    p.ComesToSettle k r := by
  obtain ⟨hself, hothers, hrings, hinFlight, hfifo, hwaiters⟩ := h
  refine ⟨by rw [← hp.slot k, hself], fun j hj => by rw [← hp.slot j, hothers j hj], fun r => by rw [hrings, hp.ring r],
    fun w => by rw [hinFlight, hp.window w], by rw [hfifo, hp.compl], by rw [hwaiters, hp.sched]⟩

theorem Part.takesReport_slot (p : Part) (o : Operation) (k : Fin 8) (e : OperationEnd) (n : Nat) (b : Bool) :
    ((p.takesReport o k e n b).slot k).progress = (p.slot k).progress + n
      ∧ ((p.takesReport o k e n b).slot k).retries = (p.slot k).retries + if e = .retry then 1 else 0 := by
  obtain ⟨-, -, -, hprogress, hretries⟩ := p.took_fields o k e n
  rw [Part.takesReport, Part.modSlot_slot, if_pos rfl]
  exact ⟨hprogress, hretries⟩

/-- A FAILED engine finds no slot fenced (R28). -/
theorem Part.considered_of_failed {s : Slot} (h : p.engine.state = .failed) : p.considered s = s := by
  rw [Part.considered, if_neg]
  simp [Part.foundFenced, h]

theorem Part.considerSlots_of_failed (h : p.engine.state = .failed) (j : Fin 8) : p.considerSlots.slot j = p.slot j := by
  rw [Part.considerSlots_slot, Part.considered_of_failed h]

/-- In FAILED the verdict leaves the slots as they are. -/
theorem Part.verdict_slot_of_failed (p : Part) (o : Operation) (e : OperationEnd) (h : p.engine.state = .failed) (j : Fin 8) :
    (p.verdict o e).slot j = p.slot j := by
  by_cases he : e = .timeout
  · subst he
    have hfailed : p.Keeps [.windows] (p.bankFails o) := p.bankFails_keeps o
    refine Eq.trans ?_ (hfailed.slot j)
    cases hw : o.window with
    | none => simp [Part.verdict, Part.onOperationWindow_of_none hw]
    | some w =>
      simp only [Part.verdict, Part.onOperationWindow_of_some hw, Part.onStats_slot]
      rcases (p.bankFails o).windowTimeout_cases w with ⟨-, q, ht, hq, -⟩ | ⟨-, hq, -⟩
      · have hpend : (q.pendFenced w).engine = p.engine :=
          (q.pendFenced_keeps w).engine.trans (hq.engine.trans hfailed.engine)
        rw [ht, Part.considerSlots_of_failed (by rw [hpend, h]), (q.pendFenced_keeps w).slot j, hq.slot j]
      · exact hq.slot j
  · have hkeeps : p.Keeps [.windows, .stats, .port, .admin, .notices, .compl] (p.verdict o e) :=
      p.verdict_keeps_of o (by simp) (fun h => absurd h he) (by simp)
    exact hkeeps.slot j

/-! ### The report's slot (R23, R36 to R38) -/

/-- The slot that goes on after a report, whatever DEFERRED was. -/
theorem Part.goesOn_slot (p : Part) (o : Operation) (k : Fin 8) (e : OperationEnd) (n : Nat) (b : Bool) :
    { ((p.reported o e).slot k).tookReport e n with state := .started, deferred := b } =
      { p.slot k with
        state := .started, progress := (p.slot k).progress + n
        retries := (p.slot k).retries + (if e = .retry then 1 else 0), deferred := b } :=
  congrArg (fun z : Slot => { z with
    state := .started, progress := z.progress + n
    retries := z.retries + (if e = OperationEnd.retry then 1 else 0), deferred := b }) (p.reported_slot o e k)

/-- A slot is considered as the part stands after the event. -/
theorem Part.considered_react (p : Part) (s : Slot) : p.considerSlots.react.considered s = p.considered s :=
  Part.considered_congr (by simp) (by simp) (by simp)

/-- A report in FAILED: the slot takes it and no more (R23). -/
theorem ReportedFrom.slot_of_failed {s : State} {c : Instr} (hq : ReportedFrom s.part o c e q)
    (hfailed : s.part.engine.state = .failed) : (q.reportBurst o k e n true).react.slot k = { s.part.slot k with
      state := .started, progress := (s.part.slot k).progress + n
      retries := (s.part.slot k).retries + if e = .retry then 1 else 0 } := by
  have hfailed' : q.engine.state = .failed := by rw [hq.keeps.engine, hfailed]
  have hslot : (q.reported o e).slot k = s.part.slot k := by
    refine ((q.reported_keeps o e).slot k).trans ?_
    rw [Part.verdict_slot_of_failed q.masterIdle o e hfailed' k]
    exact hq.keeps.slot k
  rw [Part.react_slot, Part.reportBurst_of_failed hfailed', Part.modSlot_slot, if_pos rfl, hslot]
  rfl

/-- A report that does not settle its slot leaves it STARTED, DEFERRED after a RETRY until it is found fenced
(R28, R36, R37). -/
theorem ReportedFrom.slot_of_goesOn {s : State} {c : Instr} (hq : ReportedFrom s.part o c e q)
    (halive : s.part.engine.state ≠ .failed) (hends : q.endsWith o k e n = none) :
    (q.reportBurst o k e n true).react.slot k = (q.reportBurst o k e n true).react.considered { s.part.slot k with
      state := .started, progress := (s.part.slot k).progress + n
      retries := (s.part.slot k).retries + (if e = .retry then 1 else 0), deferred := e == OperationEnd.retry } := by
  have halive' : q.engine.state ≠ .failed := by rwa [hq.keeps.engine]
  rw [Part.reportBurst_of_goesOn halive' (by rw [Part.reportEnd_eq, hends]), Part.considered_react, Part.react_slot,
    Part.considerSlots_slot, Part.modSlot_slot, if_pos rfl, q.goesOn_slot, hq.keeps.slot k]

/-- A report settles its slot with what it carries (R36 to R38, R40). -/
theorem ReportedFrom.slotEnds {s t : State} {c : Instr} {st : Status} {x : BitVec 32} {m r : Nat}
    (hq : ReportedFrom s.part o c e q) (halive : s.part.engine.state ≠ .failed)
    (hpre : (s.part.slot k).preSettled = none) (hends : q.endsWith o k e n = some (st, x))
    (ht : t.part = (q.reportBurst o k e n true).react) (hst : st ≠ .skipped)
    (hm : m = (s.part.slot k).progress + n) (hr : r = (s.part.slot k).retries + if e = .retry then 1 else 0) :
    SlotEnds s t k st m r x := by
  have halive' : q.engine.state ≠ .failed := by rwa [hq.keeps.engine]
  have hsettles := Part.reportBurst_of_settles halive' (q.reportEnd_eq o k e n ▸ hends)
  have hcomes : s.part.ComesToSettle k (q.takesReport o k e n true) := .of_keeps hq.keeps (.takesReport ..)
  obtain ⟨hprogress, hretries⟩ := q.takesReport_slot o k e n true
  rw [hq.keeps.slot k] at hprogress hretries
  refine .of_settle hcomes ?_ ?_ ?_
  · rw [ht, hsettles]
    exact .react _
  · rw [hm, hprogress, hpre]
    simp [hst]
  · rw [hr, hretries]

/-- A clean report that settles its slot with SUCCESS hands the chain on (R26, R45). -/
theorem ReportedFrom.chainGoesOn {s t : State} {c : Instr} {x : BitVec 32} (hq : ReportedFrom s.part o c .clean q)
    (halive : s.part.engine.state ≠ .failed) (hends : q.endsWith o k .clean n = some (.success, x))
    (ht : t.part = (q.reportBurst o k .clean n true).react) : ChainGoesOn s t k := by
  have halive' : q.engine.state ≠ .failed := by rwa [hq.keeps.engine]
  have hsettles := Part.reportBurst_of_settles halive' (q.reportEnd_eq o k .clean n ▸ hends)
  have hcomes : s.part.ComesToSettle k (q.takesReport o k .clean n true) := .of_keeps hq.keeps (.takesReport ..)
  have htakes : (q.pageLeft o k .clean n true).Keeps [.sched] (q.takesReport o k .clean n true) := by
    simp [Part.takesReport]
  have hport : (q.takesReport o k .clean n true).port = (q.masterIdle.verdict o .clean).port :=
    htakes.port.trans (q.pageLeft_verdict o k .clean n true).port
  rw [Part.verdict_port_clean] at hport
  refine .of_settle (q := q.takesReport o k .clean n true) (x := x) hcomes ?_ ?_ ⟨?_, ?_⟩ ?_ ?_
  · rw [htakes.fetch, (q.pageLeft_keeps o k .clean n true).fetch, q.reported_fetch, hq.keeps.fetch]
  · rw [htakes.engine, q.pageLeft_engine, hq.keeps.engine]
  · rw [hport]
    exact (congrArg Port.tenure hq.keeps.port :)
  · rw [hport]
    exact (congrArg Port.chainHold hq.keeps.port :)
  · rw [ht, hsettles]
    exact .react _
  · rw [ht, hsettles, Part.react_port_chainHold]

/-- Settles O34. -/
theorem reportsSettleOrContinueTheSlot : Obligations.ReportsSettleOrContinueTheSlot := by
  intro s c o k e n hreports hpre
  obtain ⟨q, hq, heffect⟩ := hreports.effect_eq
  have hslot : q.slot k = s.part.slot k := hq.keeps.slot k
  have hring (r : Fin 8) : q.ring r = s.part.ring r := hq.keeps.ring r
  have hends {st : Status} {x : BitVec 32} {m r : Nat} (halive : s.part.engine.state ≠ .failed)
      (h : q.endsWith o k e n = some (st, x)) (hst : st ≠ .skipped) (hm : m = (s.part.slot k).progress + n)
      (hr : r = (s.part.slot k).retries + if e = .retry then 1 else 0) :
      SlotEnds s { s with part := (q.reportBurst o k e n true).react } k st m r x :=
    hq.slotEnds halive hpre h rfl hst hm hr
  refine ⟨_, exec_of_effect heffect, hq.slot_of_failed, fun halive he hop => ⟨fun hdone => ?_, fun hmore => ?_⟩,
    fun halive he hop => ?_, fun halive he hop => ?_, fun halive he => ⟨fun hlimit => ?_, fun hbelow => ?_⟩,
    fun halive he => ?_, fun he hsettles hmatch => ?_⟩
  · subst he
    refine hends halive ?_ (by simp) rfl (by simp)
    rcases hop with hop | hop <;> simp [Part.endsWith, hop, hslot, hdone]
  · subst he
    refine (hq.slot_of_goesOn halive ?_).trans ?_
    · rcases hop with hop | hop <;> simp [Part.endsWith, hop, hslot, hmore]
    · exact Part.considered_of_not_deferred rfl
  · subst he
    exact hends halive (by simp [Part.endsWith, hop]) (by simp) rfl (by simp)
  · subst he
    exact hends halive (by simp [Part.endsWith, hop, hslot]) (by split <;> simp) rfl (by simp)
  · subst he
    exact hends halive (by simp [Part.endsWith, hslot, hring, hlimit]) (by simp) rfl (by simp)
  · subst he
    exact hq.slot_of_goesOn halive (by simp [Part.endsWith, hslot, hring, hbelow])
  · have hfails : e ≠ .clean ∧ e ≠ .retry ∧ e.failure ≠ .skipped := by
      rcases he with rfl | rfl | rfl | rfl | rfl | rfl <;> simp [OperationEnd.failure]
    refine hends halive ?_ hfails.2.2 rfl (by simp [hfails.2.1])
    rcases he with rfl | rfl | rfl | rfl | rfl | rfl <;> rfl
  · subst he
    obtain ⟨halive, h⟩ := hsettles
    have hsuccess : ∃ x, q.endsWith o k .clean n = some (.success, x) := by
      cases hop : o.opcode with
      | compareSwap => exact ⟨o.oldValue.getD 0#32, by simp [Part.endsWith, hop, hslot, hmatch hop]⟩
      | noticeSend => exact ⟨0#32, by simp [Part.endsWith, hop]⟩
      | read | write | marker => exact ⟨0#32, by simpa [Part.endsWith, hop, hslot] using h⟩
    obtain ⟨x, hx⟩ := hsuccess
    exact hq.chainGoesOn halive hx rfl

end Sys2Proof.Machine
end

section
/-! A READ that fails after acknowledged beats (R54, R55, R63 to R65): O35. -/

-- One declaration at a time: every further thread counts against the memory the check allows.
set_option Elab.async false

namespace Sys2Proof.Machine

variable {p q : Part} {o : Operation} {k : Fin 8} {e : OperationEnd} {n : Nat}

/-- The part in which the acknowledged beats of a READ go to host memory, the end of the burst kept with them (R55). -/
def Part.beginsDelivery (p : Part) (o : Operation) (k : Fin 8) (e : OperationEnd) : Part :=
  (p.onMaster fun m =>
    { m with state := .delivering, operation := some { o with phase := none, ending := e } }).ask .master
      (.write (recBuffer (p.slot k).record + BitVec.ofNat 64 o.start) (p.master.staging.take (o.acked * o.width)))

theorem Part.endOperation_delivers (hslot : o.slot = some k) (hread : o.opcode = .read) (hacked : 0 < o.acked)
    (halive : p.engine.state ≠ .failed) (e : OperationEnd) : p.endOperation o e = p.beginsDelivery o k e :=
  (Part.endOperation_of_burst hslot e).trans (if_pos ⟨hread, hacked, halive⟩)

/-- A delivery of acknowledged beats begins, and nothing else follows. -/
theorem exec_delivers {s : State} {c : Instr} {r : Part} (hs : Settled s.part) (hr : s.part.Keeps [.out] r)
    (h : effect c s.part = (r.beginsDelivery o k e).react) :
    exec c s = .next { s with part := r.beginsDelivery o k e } := by
  have hkeeps : r.Keeps [.host, .master] (r.beginsDelivery o k e) := by simp [Part.beginsDelivery]
  have haccess (x : Source) (hx : s.part.hasAccess x = true) : (r.beginsDelivery o k e).hasAccess x = true := by
    refine Part.hasAccess_ask (p := r.onMaster _) ?_
    have hsame : r.hasAccess x = s.part.hasAccess x := by
      simp only [Part.hasAccess, Part.request, Part.outstandingFor, hr.host]
    exact hsame.trans hx
  have hsettled : Settled (r.beginsDelivery o k e) :=
    hs.of_busy ((hr.mono (by simp)).trans (hkeeps.mono (by simp)))
      ((hkeeps.mono (by simp)).settleView.trans (hr.mono (by simp)).settleView) (by simp [Part.beginsDelivery]) haccess
  exact exec_of_effect (h.trans hsettled.react)

/-- A delivery that fails is a report without its bytes written (R55). -/
theorem effect_failedDelivery (hfailable : p.writeFailable .master = true) (hstate : p.master.state = .delivering)
    (hop : p.master.operation = some o) (hslot : o.slot = some k) : ∃ q, p.Keeps [.host, .master, .out] q
      ∧ effect (.readDataWriteDone false) p = (q.reportBurst o k o.ending (o.acked * o.width) false).react := by
  have hkeeps := p.forWrite_keeps .master false
  refine ⟨(p.forWrite .master false).closeAccess, by simp, ?_⟩
  simp only [effect, Part.delivered, Part.forWrite_writeOutstanding hfailable, if_true, Part.closeAccess_master,
    hkeeps.master, hstate, hop, hslot]
  rfl

/-- Settles O35. -/
theorem failedReadsDeliverWhatWasAcknowledged : Obligations.FailedReadsDeliverWhatWasAcknowledged := by
  constructor
  · intro s c o k ph e hs halive h hread hacked hlock hc
    have hr : ∃ r, s.part.Keeps [.out] r ∧ r.out = s.part.out ++ (if e = .fault then [] else [.phase .abort 0#32 0])
        ∧ effect c s.part = (r.beginsDelivery o k e).react := by
      have still : s.part.Keeps [.out] s.part := s.part.keeps_self _
      have delivers (e : OperationEnd) : s.part.endOperation o e = s.part.beginsDelivery o k e :=
        Part.endOperation_delivers h.2.2.1 hread hacked halive e
      have aborts (e : OperationEnd) : s.part.abortOperation o e = s.part.driveAbort.beginsDelivery o k e :=
        Part.endOperation_delivers (p := s.part.driveAbort) h.2.2.1 hread hacked halive e
      rcases hc with ⟨⟨ad, rfl⟩, rfl⟩ | ⟨⟨ad, rfl⟩, rfl, rfl⟩ | ⟨⟨a, ad, rfl⟩, rfl⟩ | ⟨rfl, rfl⟩
      · refine ⟨s.part, still, by simp, ?_⟩
        rw [effect_answer h (by simp)]
        simp [Part.answered, hlock, delivers]
      · refine ⟨s.part.driveAbort, by simp, rfl, ?_⟩
        rw [effect_answer h (by simp)]
        simp [Part.answered, Phase.mayRetry, aborts]
      · refine ⟨s.part.driveAbort, by simp, rfl, ?_⟩
        rw [effect_answer h (by simp)]
        simp [Part.answered, aborts]
      · refine ⟨s.part.driveAbort, by simp, rfl, ?_⟩
        rw [effect_expiry h, aborts]
    obtain ⟨r, hr, hout, heffect⟩ := hr
    have hkeeps : r.Keeps [.host, .master] (r.beginsDelivery o k e) := by simp [Part.beginsDelivery]
    refine ⟨_, exec_delivers hs hr heffect, ?_, ?_, ?_, onlyChanges_iff.2 ⟨rfl, ?_⟩⟩
    · simp [Part.beginsDelivery, hr.master]
    · refine (Part.ask_request ..).trans ((if_pos rfl).trans ?_)
      rw [hr.slot k, hr.master]
    · exact hkeeps.out.trans hout
    · exact (hr.mono (by simp)).trans (hkeeps.mono (by simp))
  · intro s o k hfailable halive hstate hop hslot hpre
    obtain ⟨q, hq, heffect⟩ := effect_failedDelivery hfailable hstate hop hslot
    have halive' : q.engine.state ≠ .failed := by rwa [hq.engine]
    have hcomes : s.part.ComesToSettle k (q.takesReport o k o.ending (o.acked * o.width) false) :=
      .of_keeps hq (.takesReport ..)
    obtain ⟨hprogress, hretries⟩ := q.takesReport_slot o k o.ending (o.acked * o.width) false
    rw [hq.slot k] at hprogress hretries
    rw [Part.reportBurst_of_settles halive' (st := .hostWriteError) (x := o.oldValue.getD 0#32) rfl] at heffect
    refine ⟨_, exec_of_effect heffect, ?_, .of_settle hcomes (.react _) ?_ hretries.symm⟩
    · rw [Part.react_master, (Part.settle_keeps _ k _ _).master]
      exact q.pageLeft_master ..
    · rw [hprogress, hpre]
      rfl

end Sys2Proof.Machine
end

section
/-! A timeout and its fence (R28, R64, R76, R77, R139, R140): O37; a close operation ends (R68, R83): O41. -/

-- One declaration at a time: every further thread counts against the memory the check allows.
set_option Elab.async false

namespace Sys2Proof.Machine

variable {p q : Part} {o : Operation} {k : Fin 8} {e : OperationEnd} {n : Nat} {w : Fin 16}

/-! ### The fence (R76, R77) -/

theorem Window.fence_state (x : Window) : x.fence.state = if x.state = .opened then .fenced else x.state := by
  unfold Window.fence
  split <;> rfl

theorem Window.fence_drain (x : Window) : x.fence.drain = if x.state = .opened then x.drain else .fenced := by
  unfold Window.fence
  split <;> rfl

/-- The fenced windows told together, window `w` with those that waited (R139). -/
def NoticeUnit.fencedWith (n : NoticeUnit) (w : Fin 16) : BitVec 16 := n.fenced.getD 0#16 ||| (1#16 <<< w.val)

/-- `q` is `p` after a timeout that fences window `w`. -/
structure Part.FencedBy (p : Part) (w : Fin 16) (q : Part) : Prop where
  slots : ∀ j, q.slot j = q.considered (p.slot j)
  sched : q.sched = { p.sched with slots := q.sched.slots }
  window : (q.window w).state = (p.window w).fence.state ∧ (q.window w).drain = (p.window w).fence.drain
  notices : q.notices = { p.notices with fenced := some (p.notices.fencedWith w) }
  merged : q.stats.merged = if p.notices.fenced.isSome then satSucc p.stats.merged else p.stats.merged

theorem Part.pendFenced_notices (p : Part) (w : Fin 16) :
    (p.pendFenced w).notices = { p.notices with fenced := some (p.notices.fencedWith w) } := by
  unfold Part.pendFenced Part.countMerge
  split <;> rfl

theorem Part.windowTimeout_fences (p : Part) (w : Fin 16) :
    ((p.window w).Fences ∧ p.FencedBy w (p.windowTimeout w))
    ∨ (¬(p.window w).Fences ∧ p.Keeps [.windows] (p.windowTimeout w)
      ∧ ((p.windowTimeout w).window w).state = (p.window w).state
      ∧ ((p.windowTimeout w).window w).drain = (p.window w).drain) := by
  rcases p.windowTimeout_cases w with ⟨hfences, q, h, hq, hwindow⟩ | ⟨hno, hq, hwindow⟩
  · refine .inl ⟨hfences, ?_⟩
    have hpend := q.pendFenced_keeps w
    have hnotices : (q.pendFenced w).notices = { p.notices with fenced := some (p.notices.fencedWith w) } := by
      rw [q.pendFenced_notices, hq.notices]
    have hview : ((q.pendFenced w).considerSlots.window w).state = (p.window w).fence.state
        ∧ ((q.pendFenced w).considerSlots.window w).drain = (p.window w).fence.drain := by
      rw [Part.considerSlots_window, hpend.window w, hwindow, if_pos rfl]
      unfold Window.fence Window.timedOut
      split <;> exact ⟨rfl, rfl⟩
    rw [h]
    refine ⟨fun j => ?_, ?_, hview, ?_, ?_⟩
    · rw [Part.considerSlots_slot, hpend.slot j, hq.slot j]
      exact Part.considered_congr (by simp) (by simp) (by simp)
    · exact congrArg (fun u : Scheduler => { u with slots := (q.pendFenced w).considerSlots.sched.slots })
        (hpend.sched.trans hq.sched)
    · rw [Part.considerSlots_notices, hnotices]
    · rw [Part.considerSlots_stats, q.pendFenced_stats, hq.notices, hq.stats]
  · exact .inr ⟨hno, hq, by rw [hwindow, if_pos rfl]; rfl, by rw [hwindow, if_pos rfl]; rfl⟩

/-- The verdict of a timeout fences the operation's window, or leaves its state. -/
theorem Part.verdict_fences (p : Part) (hw : o.window = some w) :
    ((p.window w).Fences ∧ p.FencedBy w (p.verdict o .timeout))
    ∨ (¬(p.window w).Fences ∧ p.Keeps [.windows, .stats] (p.verdict o .timeout)
      ∧ ((p.verdict o .timeout).window w).state = (p.window w).state
      ∧ ((p.verdict o .timeout).window w).drain = (p.window w).drain
      ∧ (p.verdict o .timeout).stats.merged = p.stats.merged) := by
  have hfails : p.Keeps [.windows] (p.bankFails o) := p.bankFails_keeps o
  have hwindow := p.bankFails_window o w
  set b := p.bankFails o with hb
  have hcounts : (b.windowTimeout w).Keeps [.stats] (p.verdict o .timeout) := by
    simp only [Part.verdict, Part.onOperationWindow_of_some hw]
    simp [hb]
  have hmerged : (p.verdict o .timeout).stats.merged = (b.windowTimeout w).stats.merged := by
    simp only [Part.verdict, Part.onOperationWindow_of_some hw]
    rfl
  have hsame : (b.window w).Fences ↔ (p.window w).Fences := by
    rw [hwindow]
    rfl
  rcases b.windowTimeout_fences w with ⟨hyes, hslots, hsched, hstate, hnotices, hmerge⟩ | ⟨hno, hkeeps, hstate, hdrain⟩
  · refine .inl ⟨hsame.1 hyes, fun j => ?_, ?_, ?_, ?_, ?_⟩
    · rw [hcounts.slot j, hslots, hfails.slot j]
      exact Part.considered_congr (by rw [hcounts.engine]) (by rw [hcounts.ring _]) (fun v => by rw [hcounts.window v])
    · rw [hcounts.sched]
      refine hsched.trans ?_
      rw [hfails.sched]
    · rw [hcounts.window w]
      rw [hstate.1, hstate.2, Window.fence_state, Window.fence_drain, hwindow, Window.fence_state, Window.fence_drain]
      exact ⟨rfl, rfl⟩
    · rw [hcounts.notices, hnotices, hfails.notices]
    · rw [hmerged, hmerge, hfails.notices, hfails.stats]
  · refine .inr ⟨fun hyes => hno (hsame.2 hyes), ?_, ?_, ?_, ?_⟩
    · exact (hfails.mono (by simp)).trans ((hkeeps.mono (by simp)).trans (hcounts.mono (by simp)))
    · rw [hcounts.window w, hstate, hwindow]
    · rw [hcounts.window w, hdrain, hwindow]
    · rw [hmerged, hkeeps.stats, hfails.stats]

/-- Another end leaves the state of every window. -/
theorem Part.verdict_unfenced (p : Part) (o : Operation) (he : e ≠ .timeout) (v : Fin 16) :
    ((p.verdict o e).window v).state = (p.window v).state ∧ ((p.verdict o e).window v).drain = (p.window v).drain := by
  have hfails := p.bankFails_window o v
  have hboth := (p.bankFails o).windowAnswered_window o v
  rw [hfails] at hboth
  cases e with
  | timeout => exact absurd rfl he
  | clean =>
    have h : (p.verdict o .clean).window v = _ := p.lowerError.windowAnswered_window o v
    rw [h]
    exact ⟨rfl, rfl⟩
  | retry =>
    have h : (p.verdict o .retry).window v = _ := p.windowAnswered_window o v
    rw [h]
    exact ⟨rfl, rfl⟩
  | fault =>
    have h : (p.verdict o .fault).window v = _ := hboth
    rw [h]
    exact ⟨rfl, rfl⟩
  | protocolFault =>
    have h : (p.verdict o .protocolFault).window v = _ := ((Part.raiseError_keeps _).window v).trans hboth
    rw [h]
    exact ⟨rfl, rfl⟩
  | linkLost | grantLost | hostReadError => exact ⟨rfl, rfl⟩

theorem Part.verdict_other_window (p : Part) (o : Operation) (e : OperationEnd) {v : Fin 16} (hv : o.window ≠ some v) :
    (p.verdict o e).window v = p.window v := by
  by_cases he : e = .timeout
  · subst he
    have hfails := p.bankFails_window o v
    rw [if_neg hv] at hfails
    refine Eq.trans ?_ hfails
    cases hw : o.window with
    | none => simp [Part.verdict, Part.onOperationWindow_of_none hw]
    | some w =>
      simp only [Part.verdict, Part.onOperationWindow_of_some hw, Part.onStats_window]
      have hne : v ≠ w := fun h => hv (h ▸ hw)
      rcases (p.bankFails o).windowTimeout_cases w with ⟨-, q, h, -, hq⟩ | ⟨-, -, hq⟩
      · rw [h, Part.considerSlots_window, (q.pendFenced_keeps w).window v, hq, if_neg hne]
      · rw [hq, if_neg hne]
  · rw [p.verdict_window o e v, (p.verdict_unfenced o he v).1, (p.verdict_unfenced o he v).2]
    simp [hv]

/-! ### A close operation ends (R68, R83) -/

/-- The part in which a close operation meets its verdict: the Master IDLE, the bank CLOSED at a clean end. -/
def Part.closeEnds (p : Part) (w : Fin 16) (b : Nat) (e : OperationEnd) : Part :=
  if e = .clean then p.masterIdle.modBank w b fun _ => .closed else p.masterIdle

theorem Part.endClose_eq (p : Part) (hw : o.window = some w) (e : OperationEnd) :
    p.endClose o e = (p.closeEnds w o.bank e).verdict o e := by
  unfold Part.endClose Part.closeEnds
  simp only [Part.onOperationWindow_of_some hw]

theorem Part.closeEnds_keeps (p : Part) (w : Fin 16) (b : Nat) (e : OperationEnd) :
    p.Keeps [.master, .windows] (p.closeEnds w b e) := by
  unfold Part.closeEnds
  split <;> simp

theorem Part.closeEnds_window (p : Part) (w : Fin 16) (b : Nat) (e : OperationEnd) (v : Fin 16) :
    (p.closeEnds w b e).window v = { p.window v with
      banks := if e = .clean ∧ v = w then (p.window v).banks.set b .closed else (p.window v).banks } := by
  unfold Part.closeEnds
  by_cases he : e = .clean
  · rw [if_pos he, Part.modBank_window]
    by_cases hv : v = w
    · simp [he, hv, modify_const]
    · simp [hv]
  · simp [he]

/-- The answers and the limit at which a close operation ends. -/
def ClosesWith (c : Instr) (e : OperationEnd) : Prop :=
  ((∃ ad, c = .targetAnswer .ack ad true) ∧ e = .clean)
    ∨ ((∃ ad, c = .targetAnswer .fault ad true) ∧ e = .fault)
    ∨ ((∃ ad, c = .targetAnswer .retry ad true) ∧ e = .protocolFault)
    ∨ ((∃ a ad, c = .targetAnswer a ad false) ∧ e = .protocolFault)
    ∨ (c = .responseLimitExpiry ∧ e = .timeout)

theorem effect_close {c : Instr} (hstate : p.master.state = .closing) (hop : p.master.operation = some o)
    (hslot : o.slot = none) (hph : o.phase = some .closePage) (hlock : o.lockHeld = false) (hc : ClosesWith c e) :
    ∃ r, p.Keeps [.out] r ∧ r.out = p.out ++ (if e = .timeout ∨ e = .protocolFault then [.phase .abort 0#32 0] else [])
      ∧ effect c p = (r.endClose o e).react := by
  have hwaits : p.waitingPhase = some (o, .closePage) := by simp [Part.waitingPhase, hstate, hop, hph]
  have hends (r : Part) (e : OperationEnd) : r.endOperation o e = r.endClose o e := by
    unfold Part.endOperation
    simp only [hslot]
  have still : p.Keeps [.out] p := p.keeps_self _
  rcases hc with ⟨⟨ad, rfl⟩, rfl⟩ | ⟨⟨ad, rfl⟩, rfl⟩ | ⟨⟨ad, rfl⟩, rfl⟩ | ⟨⟨a, ad, rfl⟩, rfl⟩ | ⟨rfl, rfl⟩
  · refine ⟨p, still, by simp, ?_⟩
    simp [effect, Part.takeAnswer, hwaits, Part.answered, Part.acknowledge, hslot, hends]
  · refine ⟨p, still, by simp, ?_⟩
    simp [effect, Part.takeAnswer, hwaits, Part.answered, hlock, hends]
  · refine ⟨p.driveAbort, by simp, rfl, ?_⟩
    simp [effect, Part.takeAnswer, hwaits, Part.answered, Phase.mayRetry, Part.abortOperation, hends]
  · refine ⟨p.driveAbort, by simp, rfl, ?_⟩
    simp [effect, Part.takeAnswer, hwaits, Part.answered, Part.abortOperation, hends]
  · refine ⟨p.driveAbort, by simp, rfl, ?_⟩
    simp [effect, Part.expireResponse, hwaits, Part.abortOperation, hends]

/-- A fence is seen in the window's state or in its drain outcome. -/
theorem Window.Fences.seen {x : Window} (h : x.Fences) (hstate : x.fence.state = x.state) (hdrain : x.fence.drain = x.drain) :
    False := by
  obtain ⟨-, -, ho | ⟨hd, hrun⟩⟩ := h
  · rw [Window.fence_state, ho] at hstate
    simp at hstate
  · rw [Window.fence_drain, hd, hrun] at hdrain
    simp at hdrain

/-- Settles O41. -/
theorem closeOperationsEnd : Obligations.CloseOperationsEnd := by
  intro s o w c e _ hstate hop hslot hph hw hlock _ hc
  obtain ⟨r, hr, hout, heffect⟩ := effect_close hstate hop hslot hph hlock hc
  have hfailing : e = .clean ∨ (e ≠ .clean ∧ e ≠ .retry ∧ e.fails = true) := by
    rcases hc with ⟨-, rfl⟩ | ⟨-, rfl⟩ | ⟨-, rfl⟩ | ⟨-, rfl⟩ | ⟨-, rfl⟩ <;> simp [OperationEnd.fails]
  set b := r.closeEnds w o.bank e with hb
  have hkeeps : s.part.Keeps [.master, .windows, .out] b := (hr.mono (by simp)).trans ((r.closeEnds_keeps w o.bank e).mono (by simp))
  have hwindow (v : Fin 16) : b.window v = { s.part.window v with
      banks := if e = .clean ∧ v = w then (s.part.window v).banks.set o.bank .closed else (s.part.window v).banks } := by
    rw [hb, r.closeEnds_window, hr.window v]
  have hverdict := b.verdict_keeps o e
  rw [Part.endClose_eq r hw, ← hb] at heffect
  have hmaster : b.master = Master.reset := by
    rw [hb, Part.closeEnds]
    split <;> rfl
  have hfenced : ((b.verdict o e).sched = s.part.sched ∧ ((b.verdict o e).window w).state = (s.part.window w).state
        ∧ ((b.verdict o e).window w).drain = (s.part.window w).drain)
      ∨ ((s.part.window w).Fences ∧ s.part.FencedBy w (b.verdict o e)) := by
    by_cases he : e = .timeout
    · subst he
      have hsame : (b.window w) = s.part.window w := by simp [hwindow]
      rcases b.verdict_fences hw with ⟨hyes, hslots, hsched, hview, hnotices, hmerged⟩ | ⟨-, hq, hst, hdr, -⟩
      · rw [hsame] at hyes hview
        refine .inr ⟨hyes, fun j => by rw [hslots, hkeeps.slot j], ?_, hview, ?_, ?_⟩
        · rw [hsched, hkeeps.sched]
        · rw [hnotices, hkeeps.notices]
        · rw [hmerged, hkeeps.notices, hkeeps.stats]
      · rw [hsame] at hst hdr
        exact .inl ⟨hq.sched.trans hkeeps.sched, hst, hdr⟩
    · have hq : b.Keeps [.windows, .stats, .port, .admin, .notices, .compl] (b.verdict o e) :=
        b.verdict_keeps_of o (by simp) (fun h => absurd h he) (by simp)
      obtain ⟨hst, hdr⟩ := b.verdict_unfenced o he w
      rw [hwindow] at hst hdr
      exact .inl ⟨hq.sched.trans hkeeps.sched, hst, hdr⟩
  refine ⟨_, exec_of_effect heffect, ?_, fun hst hdr => ?_, fun hchanged => ?_, ?_, ?_, fun v hv => ?_, ?_, ?_, ?_, ?_, ?_, ?_⟩
  · rw [Part.react_master, hverdict.master, hmaster]
  · rw [Part.react_window] at hst hdr
    rw [Part.react_sched]
    rcases hfenced with ⟨hsched, -⟩ | ⟨hyes, hf⟩
    · exact hsched
    · exact (hyes.seen (hf.window.1.symm.trans hst) (hf.window.2.symm.trans hdr)).elim
  · rw [Part.react_window] at hchanged
    rcases hfenced with ⟨-, hst, hdr⟩ | ⟨-, hf⟩
    · rcases hchanged with h | h
      · exact absurd hst h
      · exact absurd hdr h
    · rw [Part.react_sched]
      refine ⟨fun j => ?_, hf.sched⟩
      rw [Part.react_slot, hf.slots]
      exact Part.considered_congr (by simp) (by simp) (by simp)
  · rw [Part.react_window, b.verdict_window o e w, hwindow]
    rcases hfailing with rfl | ⟨hclean, -, hfails⟩
    · simp [OperationEnd.fails]
    · simp [hw, hfails, hclean]
  · rw [Part.react_window, b.verdict_window o e w, hwindow]
    rcases hc with ⟨-, rfl⟩ | ⟨-, rfl⟩ | ⟨-, rfl⟩ | ⟨-, rfl⟩ | ⟨-, rfl⟩ <;> simp [hw, OperationEnd.timeouts]
  · have hne : o.window ≠ some v := fun h => hv (Option.some_inj.1 (h.symm.trans hw))
    rw [Part.react_window, b.verdict_other_window o e hne, hwindow]
    simp [hv]
  · rw [Part.react_port_errorCount, Part.verdict_errorCount, hkeeps.port]
    cases e <;> rfl
  · rintro rfl hlimit
    have hreached : LimitReached s (b.verdict o .protocolFault) :=
      .of_verdict (hkeeps.mono (by simp)) hlimit (by rw [hmaster]; rfl)
    exact hreached.leaves rfl
  · intro hbelow
    rw [← hkeeps.port] at hbelow
    rw [Part.react_port_mark, Part.verdict_port b o hbelow, hkeeps.port]
  · rw [Part.react_stats, b.verdict_stats, hkeeps.stats]
  · rw [Part.react_out, hverdict.out]
    have hquiet : b.out = r.out := (r.closeEnds_keeps w o.bank e).out
    rw [hquiet, hout]
  · rw [Part.react_compl, b.verdict_fifo, hkeeps.compl]

end Sys2Proof.Machine
end

section
/-! A timeout counts against its window, fences it and is told (R28, R64, R76, R77, R139, R140): O37. -/

-- One declaration at a time: every further thread counts against the memory the check allows.
set_option Elab.async false

namespace Sys2Proof.Machine

variable {p q : Part} {o : Operation} {k : Fin 8} {e : OperationEnd} {n : Nat} {w : Fin 16} {l : BitVec 16}

/-! ### The slots have been considered (R28) -/

/-- Every slot has been considered: none whose window is found fenced is DEFERRED. -/
def Part.AllConsidered (p : Part) : Prop := ∀ j, p.slot j = p.considered (p.slot j)

theorem Part.considerSlots_allConsidered (p : Part) : p.considerSlots.AllConsidered := fun j => by
  have hsame : p.considerSlots.considered (p.considerSlots.slot j) = p.considered (p.considerSlots.slot j) :=
    Part.considered_congr (by simp) (by simp) (by simp)
  rw [hsame, Part.considerSlots_slot, Part.considered_considered]

theorem Part.AllConsidered.deferred (h : p.AllConsidered) {j : Fin 8} (halive : p.engine.state ≠ .failed)
    (hwindow : (p.slot j).window = some w) (hfenced : (p.window w).readsFenced = true)
    (horder : p.orderMet (p.slot j) = true) : (p.slot j).deferred = false := by
  have hfound : p.foundFenced (p.slot j) = true := by simp [Part.foundFenced, Part.slotFenced, *]
  have hj : p.slot j = { p.slot j with deferred := false } := (h j).trans (if_pos hfound)
  rw [hj]

theorem Part.FencedBy.allConsidered (h : p.FencedBy w q) : q.AllConsidered := fun j => by
  rw [h.slots j, Part.considered_considered]

theorem Part.reportBurst_considered (halive : p.engine.state ≠ .failed) (b : Bool) :
    (p.reportBurst o k e n b).AllConsidered := by
  cases hends : p.reportEnd o k e n b with
  | none =>
    rw [Part.reportBurst_of_goesOn halive hends]
    exact Part.considerSlots_allConsidered _
  | some end_ =>
    rw [Part.reportBurst_of_settles (st := end_.1) (x := end_.2) halive hends, Part.settle_eq_haltOnError]
    exact Part.considerSlots_allConsidered _

/-! ### The operation ends with the timeout's verdict -/

/-- `u` shows of the windows and of the events what the verdict left in `v`, with every slot considered if `v` has. -/
structure Part.ShowsVerdict (v u : Part) : Prop where
  engine : u.engine = v.engine
  notices : u.notices = v.notices
  windows : ∀ w, (u.window w).state = (v.window w).state ∧ (u.window w).drain = (v.window w).drain
    ∧ (u.window w).timeouts = (v.window w).timeouts
  merged : u.stats.merged = v.stats.merged
  considered : v.engine.state ≠ .failed → v.AllConsidered → u.AllConsidered

theorem Part.reportBurst_showsVerdict (p : Part) (o : Operation) (k : Fin 8) (e : OperationEnd) (n : Nat) (b : Bool) :
    (p.masterIdle.verdict o e).ShowsVerdict (p.reportBurst o k e n b) := by
  have hengine : (p.reportBurst o k e n b).engine = p.engine := (p.reportBurst_keeps o k e n b).engine
  have hverdict : (p.masterIdle.verdict o e).engine = p.engine := (p.masterIdle.verdict_keeps o e).engine
  refine ⟨by rw [hengine, hverdict], ?_, fun w => ?_, ?_, fun halive _ => Part.reportBurst_considered (by rwa [← hverdict]) b⟩
  · have hleft := (p.pageLeft_verdict o k e n b).notices
    rcases p.reportBurst_cases o k e n b with hq | ⟨q, st, x, hq, -, hr⟩
    · exact hq.notices.trans hleft
    · rw [hr, (q.settle_keeps k st x).notices, hq.notices, hleft]
  · obtain ⟨m, h⟩ := p.reportBurst_window o k e n b w
    rw [h, (p.pageLeft_window o k e n b w).1, (p.reported_keeps o e).window w]
    exact ⟨rfl, rfl, rfl⟩
  · rw [p.reportBurst_stats]
    rfl

/-- A timed-out operation that reports or closes shows the verdict of its timeout. -/
theorem Part.abortOperation_showsVerdict (p : Part) (hw : o.window = some w)
    (h : o.slot = none ∨ o.opcode ≠ .read ∨ o.acked = 0 ∨ p.engine.state = .failed) :
    (p.driveAbort.masterIdle.verdict o .timeout).ShowsVerdict (p.abortOperation o .timeout) := by
  cases hslot : o.slot with
  | none =>
    have hends : p.abortOperation o .timeout = p.driveAbort.masterIdle.verdict o .timeout := by
      unfold Part.abortOperation Part.endOperation
      simp only [hslot]
      rw [Part.endClose_eq _ hw]
      rfl
    rw [hends]
    exact ⟨rfl, rfl, fun _ => ⟨rfl, rfl, rfl⟩, rfl, fun _ h => h⟩
  | some k =>
    have hreports := h.resolve_left (by simp [hslot])
    have hends : p.abortOperation o .timeout = p.driveAbort.reportBurst o k .timeout o.ackedBytes true :=
      Part.endOperation_reports (p := p.driveAbort) hslot hreports _
    rw [hends]
    exact Part.reportBurst_showsVerdict ..

/-! ### The event is told (R139, R140) -/

theorem Part.react_fenced_waits (hl : p.notices.fenced = some l) (h : p.notices.write.isSome = true
    ∨ p.engine.state ≠ .running ∨ p.notices.ring.present = false ∨ p.notices.ring.freeEntries = 0
    ∨ p.notices.attached = true ∨ p.notices.detached.isSome = true) : p.react.notices.fenced = some l := by
  obtain ⟨q, hnotices, hengine, -, hreact, -⟩ := p.react_askNotice
  rw [← hnotices] at h hl
  rw [← hengine] at h
  rw [hreact]
  by_cases hpost : q.MayPost
  · cases hattached : q.notices.attached
    · have hdetached : q.notices.detached.isSome = true := by
        obtain ⟨hrunning, hpresent, hfree, hwrite⟩ := hpost
        have hroom : q.notices.ring.freeEntries ≠ 0 := by omega
        simpa [hrunning, hpresent, hroom, hwrite, hattached] using h
      obtain ⟨c, hc⟩ := Option.isSome_iff_exists.1 hdetached
      rw [Part.askNotice_of_detached hpost hattached hc]
      exact hl
    · rw [Part.askNotice_of_attached hpost hattached]
      exact hl
  · rw [Part.askNotice_of_busy hpost]
    exact hl

theorem Part.react_fenced_told (hl : p.notices.fenced = some l) (hpost : p.MayPost) (hattached : p.notices.attached = false)
    (hdetached : p.notices.detached = none) : p.react.notices.fenced = none
      ∧ p.react.notices.write = some { buffer := none, urgent := false }
      ∧ p.react.request .notices = some (.write (p.notices.ring.base + BitVec.ofNat 64 (32 * p.notices.ring.producer))
          (noticeEntry p.notices.sourceNode (BitVec.ofNat 16 p.react.port.state.code) 3 true false none 0#32 0#32 l.toNat
            p.notices.ring.phase)) := by
  obtain ⟨q, hnotices, hengine, hport, hreact, hrequest⟩ := p.react_askNotice
  have hmay : q.MayPost := by rwa [Part.MayPost, hnotices, hengine]
  have hask := Part.askNotice_of_fenced hmay (by rwa [hnotices]) (by rwa [hnotices]) (hnotices ▸ hl)
  rw [hreact, hrequest, hask]
  refine ⟨rfl, rfl, ?_⟩
  rw [Part.onNotices_request, Part.askNoticeEntry, Part.onNotices_request, Part.ask_request, if_pos rfl, Part.localEntry,
    hnotices, hport]

theorem Part.react_fenced_none (h : p.notices.fenced = none) : p.react.notices.fenced = none := by
  obtain ⟨q, hnotices, -, -, hreact, -⟩ := p.react_askNotice
  rw [← hnotices] at h
  rw [hreact]
  simp only [Part.askNotice]
  (repeat' split) <;> simp [Part.askNoticeEntry, Part.modEntry, h]

/-- Settles O37. -/
theorem timeoutsFenceTheWindow : Obligations.TimeoutsFenceTheWindow := by
  intro s o ph w l hwaits hw hends hcount hl
  have heffect : effect .responseLimitExpiry s.part = (s.part.abortOperation o .timeout).react := by
    simp only [effect, Part.expireResponse, hwaits]
  have hshows := s.part.abortOperation_showsVerdict hw hends
  set b := s.part.driveAbort.masterIdle with hb
  set u := s.part.abortOperation o .timeout with hu
  have hkeeps : s.part.Keeps [.master, .out] b := by simp [hb]
  have hfences := b.verdict_fences hw
  have htimeouts := b.verdict_window o .timeout
  rw [hkeeps.window w] at hfences
  have hstays (h : ¬(s.part.window w).Fences) : (u.react.window w).state = (s.part.window w).state
      ∧ (u.react.window w).drain = (s.part.window w).drain ∧ u.react.stats.merged = s.part.stats.merged
      ∧ u.notices = s.part.notices := by
    obtain ⟨-, hq, hstate, hdrain, hmerged⟩ := hfences.resolve_left fun h' => h h'.1
    rw [Part.react_window, Part.react_stats, (hshows.windows w).1, (hshows.windows w).2.1, hshows.merged, hmerged, hkeeps.stats,
      hshows.notices, hq.notices, hkeeps.notices]
    exact ⟨hstate, hdrain, rfl, rfl⟩
  have hfenced (h : (s.part.window w).Fences) : b.FencedBy w (b.verdict o .timeout) :=
    (hfences.resolve_right fun h' => h'.1 h).2
  have htold (h : (s.part.window w).Fences) : u.notices = { s.part.notices with fenced := some l } := by
    rw [hshows.notices, (hfenced h).notices, hkeeps.notices, hl]
    rfl
  have hengine : u.engine = s.part.engine :=
    hshows.engine.trans ((b.verdict_keeps o .timeout).engine.trans hkeeps.engine)
  have hyes (hlt : (s.part.window w).timeouts < 15)
      (hlimit : (s.part.window w).timeouts + 1 = (s.part.window w).fenceLimit)
      (h : (s.part.window w).state = .opened ∨ ((s.part.window w).state = .draining ∧ (s.part.window w).drain = .run)) :
      (s.part.window w).Fences := ⟨hlt, by omega, h⟩
  refine ⟨_, exec_of_effect heffect, ?_, fun hlt hlimit => ⟨fun hopen => ?_, fun hdraining => ?_,
    fun hstate => ⟨fun hwait => ?_, fun hwrite hrunning hpresent hfree hattached hdetached => ?_, ?_,
      fun halive j hwindow horder => ?_⟩, fun halready => ?_⟩, fun hno => ?_, fun v hv => ?_⟩
  · rw [Part.react_window, (hshows.windows w).2.2, htimeouts, hkeeps.window w]
    simp [hw, OperationEnd.timeouts]
  · rw [Part.react_window, (hshows.windows w).1, (hfenced (hyes hlt hlimit (.inl hopen))).window.1, hkeeps.window w, Window.fence_state, if_pos hopen]
  · rcases hfences with ⟨hyes, hf⟩ | ⟨hno, -⟩
    · rw [Part.react_window, (hshows.windows w).1, (hshows.windows w).2.1, hf.window.1, hf.window.2, hkeeps.window w,
        Window.fence_state, Window.fence_drain, if_neg (by simp [hdraining]), if_neg (by simp [hdraining])]
      exact ⟨hdraining, rfl⟩
    · obtain ⟨hstate, hdrain, -, -⟩ := hstays hno
      rw [hstate, hdrain]
      refine ⟨hdraining, ?_⟩
      cases hd : (s.part.window w).drain with
      | fenced => rfl
      | run => exact absurd (hyes hlt hlimit (.inr ⟨hdraining, hd⟩)) hno
  · have hnow := htold (hyes hlt hlimit hstate)
    refine Part.react_fenced_waits (by rw [hnow]) ?_
    rw [hnow, hengine]
    exact hwait
  · have hnow := htold (hyes hlt hlimit hstate)
    have hpost : u.MayPost := by
      rw [Part.MayPost, hnow, hengine]
      exact ⟨hrunning, hpresent, hfree, hwrite⟩
    have hasked := Part.react_fenced_told (l := l) (by rw [hnow]) hpost (by rw [hnow]; exact hattached)
      (by rw [hnow]; exact hdetached)
    rw [hnow] at hasked
    exact hasked
  · rw [Part.react_stats, hshows.merged, (hfenced (hyes hlt hlimit hstate)).merged, hkeeps.notices, hkeeps.stats]
  · have hf := hfenced (hyes hlt hlimit hstate)
    have halive' : u.engine.state ≠ .failed := by rwa [hengine]
    have hall := hshows.considered (by rwa [← hshows.engine]) hf.allConsidered
    have hreads : (u.window w).readsFenced = true := by
      rw [Window.readsFenced, (hshows.windows w).1, (hshows.windows w).2.1, hf.window.1, hf.window.2, hkeeps.window w,
        Window.fence_state, Window.fence_drain]
      rcases hstate with h | ⟨h, -⟩ <;> simp [h]
    have horder' : u.orderMet (u.slot j) = true := by simpa [Part.orderMet] using horder
    rw [Part.react_slot] at hwindow ⊢
    exact hall.deferred halive' hwindow hreads horder'
  · have hno : ¬(s.part.window w).Fences := by
      rintro ⟨-, -, h⟩
      rcases halready with ha | ⟨ha, hd⟩
      · simp [ha] at h
      · simp [ha, hd] at h
    obtain ⟨hstate, hdrain, hmerged, hnotices⟩ := hstays hno
    exact ⟨hstate, hdrain, hmerged, fun hnone => Part.react_fenced_none (by rw [hnotices, hnone])⟩
  · obtain ⟨hstate, hdrain, -, -⟩ := hstays fun ⟨hlt, hlimit, _⟩ => by omega
    exact ⟨hstate, hdrain⟩
  · have hne : o.window ≠ some v := fun h => hv (Option.some_inj.1 (h.symm.trans hw))
    rw [Part.react_window, (hshows.windows v).1, (hshows.windows v).2.1, b.verdict_other_window o .timeout hne, hkeeps.window v]
    exact ⟨rfl, rfl⟩

end Sys2Proof.Machine
end

section
/-! The data of a WRITE reaches its burst, or is stale (R46, R56, R57): O36. -/

-- One declaration at a time: every further thread counts against the memory the check allows.
set_option Elab.async false

namespace Sys2Proof.Machine

variable {p q : Part} {o : Operation} {k : Fin 8}

/-! ### An access of the Master closes -/

theorem Part.outstandingFor_of_readOutstanding {x y : Source} (h : p.readOutstanding x = true) (hy : y ≠ x) :
    p.outstandingFor y = false := by
  unfold Part.readOutstanding at h
  unfold Part.outstandingFor
  split at h
  · next a ha =>
    simp only [Bool.and_eq_true, beq_iff_eq] at h
    simp [h.1, Ne.symm hy]
  · cases h

theorem Part.NothingDue.closeAccess (h : p.NothingDue) (hread : p.readOutstanding .master = true) :
    p.closeAccess.NothingDue := by
  obtain ⟨hcapture, hposting, hadmin, hnotice, hcommand⟩ := h
  refine ⟨fun hd => hcapture (hd.of_keeps (by simp) rfl), fun hd => hposting (hd.of_access rfl rfl fun hx => ?_),
    fun hd => hadmin (hd.of_access rfl rfl fun hx => ?_), hnotice, hcommand⟩
  · exact Part.closeAccess_hasAccess (Part.outstandingFor_of_readOutstanding hread (by simp)) hx
  · exact Part.closeAccess_hasAccess (Part.outstandingFor_of_readOutstanding hread (by simp)) hx

/-! ### The phase that a burst opens with -/

/-- The AD of an opening phase does not depend on the data staged (R46, R82). -/
theorem Part.phaseAd_openingPhase (hw : q.windows = p.windows) (hrec : q.recordOf o = p.recordOf o) :
    q.phaseAd o (p.openingPhase o) = p.phaseAd o (p.openingPhase o) := by
  have hbeat : p.openingPhase o ≠ .writeBeat := by
    unfold Part.openingPhase Window.firstPhase Opcode.addressPhase
    (repeat' split) <;> simp
  generalize p.openingPhase o = ph at hbeat
  unfold Part.phaseAd Part.window
  rw [hw, hrec]
  cases ph with
  | writeBeat => exact absurd rfl hbeat
  | _ => rfl

/-- Settles O36. -/
theorem writeDataReachesItsBurst : Obligations.WriteDataReachesItsBurst := by
  constructor
  · intro s r hs hread hstale
    refine exec_of_effect ?_
    have hdue := hs.nothingDue.closeAccess hread
    have hstays : s.part.closeAccess.react = s.part.closeAccess :=
      hdue.settled hs (Part.Keeps.sameBus (by simp)) |>.react
    simp only [effect, Part.dataRead, Part.forRead_of_outstanding hread, hread, if_true, hstale, hstays]
    rfl
  · intro s data o k _ hread hfresh hstate hop hslot
    set q := s.part.closeAccess.onMaster fun m => { m with staging := data.toList.take o.bytes } with hq
    have heffect : effect (.writeDataReadDone (some data)) s.part = (q.startDriving o).react := by
      simp only [effect, Part.dataRead, Option.isSome_some, Part.forRead_of_outstanding hread, hread, if_true, hfresh,
        Bool.false_eq_true, if_false, Part.dataArrives, Part.closeAccess_master, hstate, hop]
      rfl
    have hkeeps : s.part.Keeps [.host, .master] q := by simp [hq]
    have hstarts := q.startDriving_keeps o
    have hmaster := q.startDriving_master o
    have hopening : q.openingPhase o = s.part.openingPhase o := rfl
    have hlimit : q.burstLimit o = s.part.burstLimit o := rfl
    refine ⟨_, exec_of_effect heffect, ?_, ?_, ?_, ?_, ?_, ?_, fun j => ?_, ?_, ?_, ?_⟩
    · rw [Part.react_master, hmaster]
    · rw [Part.react_master, hmaster]
      rfl
    · rw [Part.react_master, hmaster, hlimit, hopening]
    · rw [Part.react_host_outstanding, hstarts.host]
      rfl
    · rw [Part.react_out, q.startDriving_out, hopening, Part.phaseAd_openingPhase (p := s.part) (q := q) rfl rfl]
      rfl
    · rw [Part.react_stats, q.startDriving_stats]
      exact Part.countPage_stats_congr (p := s.part) (q := q) rfl rfl o o.limit
    · rw [Part.react_slot, q.startDriving_slot]
      rfl
    · rw [Part.react_windows, hstarts.windows]
      rfl
    · rw [Part.react_fetch, hstarts.fetch]
      rfl
    · rw [Part.react_compl, hstarts.compl]
      rfl

end Sys2Proof.Machine
end

section
/-! Ownership that ends abruptly: what becomes of the banks, the slots, the tenure and the Master's operation
(R56, R66, R91, R105, R109). -/

-- One declaration at a time: every further thread counts against the memory the check allows.
set_option Elab.async false

namespace Sys2Proof.Machine

variable {p q : Part} {o : Operation} {k : Fin 8} {e : OperationEnd} {n : Nat}

/-! ### How a slot comes to settle, in stages -/

theorem Part.ComesToSettle.of_kept (h : p.Keeps [.host, .admin, .master, .port, .notices, .stats, .out] q) :
    p.ComesToSettle k q :=
  ⟨by rw [h.slot k], fun j _ => by rw [h.slot j], h.ring, fun w => by rw [h.window w], by rw [h.compl], by rw [h.sched]⟩

theorem Part.ComesToSettle.trans {r : Part} (h : p.ComesToSettle k q) (h' : q.ComesToSettle k r) : p.ComesToSettle k r :=
  ⟨h'.self.trans h.self, fun j hj => (h'.others j hj).trans (h.others j hj), fun r => (h'.rings r).trans (h.rings r),
    fun w => (h'.inFlight w).trans (h.inFlight w), h'.fifo.trans h.fifo, h'.waiters.trans h.waiters⟩

theorem Part.ShowsSettled.refl (p : Part) : p.ShowsSettled p := ⟨rfl, fun _ => rfl, fun _ => rfl, rfl⟩

/-- What shows a settlement goes on to show it. -/
theorem SlotEnds.shown {s t u : State} {st : Status} {m r : Nat} {x : BitVec 32} (h : SlotEnds s u k st m r x)
    (ht : u.part.ShowsSettled t.part) : SlotEnds s t k st m r x := by
  obtain ⟨hsched, hrings, hwindows, hfifo⟩ := ht
  have hslot (j : Fin 8) : t.part.slot j = u.part.slot j := congrArg (fun v : Scheduler => v.slots.get j) hsched
  refine ⟨fun hq => ?_, fun hq ho => ?_, fun hq ho => ?_, fun hun => ?_, fun w hw hun => ?_, fun j hj hc hcount hr hi hw hk => ?_⟩
  · rw [hslot, hfifo, hsched]
    exact h.quiet hq
  · rw [hslot, hfifo, hsched]
    exact h.posted hq ho
  · rw [hslot, hfifo, hsched]
    exact h.waits hq ho
  · rw [hrings]
    exact h.ring hun
  · rw [hwindows]
    exact h.window w hw hun
  · rw [hslot]
    exact h.chain j hj hc hcount hr hi hw hk

/-! ### The tenure ends and the banks are lost (R91, R104) -/

/-- The part whose tenure has ended abruptly, before its operation is looked at. -/
def Part.lost (p : Part) : Part := p.endTenureFlags.loseBanks

theorem Part.lost_keeps (p : Part) : p.Keeps [.sched, .windows, .port] p.lost := by simp [Part.lost]

theorem Part.lost_slot (p : Part) (j : Fin 8) : p.lost.slot j = { p.slot j with deferred := false } := by
  rw [Part.lost, Part.loseBanks_slot, Part.endTenureFlags, Part.clearDeferred_slot, Part.onPort_slot]

theorem Part.lost_window (p : Part) (w : Fin 16) :
    p.lost.window w = { p.window w with banks := (p.window w).banks.map fun _ => Bank.unknown } := by
  have hget : p.lost.window w = (tabMap p.windows fun x => { x with banks := x.banks.map fun _ => Bank.unknown }).get w := rfl
  rw [hget, tabMap_get]
  rfl

theorem Part.lost_port (p : Part) : p.lost.port = { p.port with tenure := false, chainHold := none } := rfl

theorem Part.lost_master (p : Part) : p.lost.master = p.master := rfl

theorem Part.lost_waiters (p : Part) : p.lost.sched.waiters = p.sched.waiters := rfl

theorem Part.ComesToSettle.lost (p : Part) (k : Fin 8) : p.ComesToSettle k p.lost :=
  ⟨by rw [p.lost_slot k], fun j _ => by rw [p.lost_slot j], fun _ => rfl, fun w => by rw [p.lost_window w], rfl, rfl⟩

/-! ### The operation of the Master is cut (R66) -/

/-- The end of an operation that a loss of the backplane cuts. -/
def OperationEnd.IsCut (e : OperationEnd) : Prop := e = .grantLost ∨ e = .linkLost

/-- Ownership has ended abruptly: the part before the port goes on. -/
def Part.cut (p : Part) (e : OperationEnd) : Part := p.lost.abandonFetch.cutOperation e

theorem Part.cutOperation_cases (p : Part) (he : e.IsCut) : p.cutOperation e = p ∨ p.cutOperation e = p.masterIdle
    ∨ (∃ o k, p.cutOperation e = p.beginsDelivery o k e)
    ∨ ∃ o k, p.cutOperation e = p.reportBurst o k e (o.acked * o.width) true := by
  unfold Part.cutOperation
  split
  · next o _ =>
    split
    · cases hslot : o.slot with
      | none =>
        refine .inr (.inl ?_)
        unfold Part.endOperation
        simp only [hslot]
        rcases he with rfl | rfl <;> rfl
      | some k =>
        rw [Part.endOperation_of_burst hslot]
        split
        · exact .inr (.inr (.inl ⟨o, k, rfl⟩))
        · exact .inr (.inr (.inr ⟨o, k, rfl⟩))
    · exact .inl rfl
  · exact .inl rfl

theorem OperationEnd.IsCut.quiet (he : e.IsCut) : e ≠ .clean ∧ e ≠ .retry ∧ e.fails = false ∧ e.failure ≠ .success
    ∧ e.failure ≠ .skipped := by
  rcases he with rfl | rfl <;> simp [OperationEnd.fails, OperationEnd.failure]

theorem OperationEnd.IsCut.endsWith (he : e.IsCut) (p : Part) (o : Operation) (k : Fin 8) (n : Nat) :
    p.endsWith o k e n = some (e.failure, o.oldValue.getD 0#32) := by
  rcases he with rfl | rfl <;> rfl

/-- A cut report meets no verdict: it counts itself, and its bank, unknown already, stays. -/
theorem OperationEnd.IsCut.reported (he : e.IsCut) (p : Part) (o : Operation) :
    p.reported o e = p.masterIdle.onStats fun t => { t with bursts := satSucc t.bursts } := by
  rcases he with rfl | rfl <;> rfl

theorem modify_givenBack_unknown {l : List Bank} (h : ∀ x ∈ l, x = .unknown) (i : Nat) : l.modify i Bank.givenBack = l := by
  refine List.ext_getElem? fun j => ?_
  rw [List.getElem?_modify]
  cases hj : l[j]? with
  | none => rfl
  | some x =>
    rw [h x (List.mem_of_getElem? hj)]
    split <;> rfl

theorem Part.reportBurst_cut_banks (he : e.IsCut) (hbanks : ∀ w, ∀ x ∈ (p.window w).banks, x = .unknown) (w : Fin 16) :
    ((p.reportBurst o k e n true).window w).banks = (p.window w).banks := by
  by_cases hw : o.window = some w
  · obtain ⟨m, h⟩ := p.reportBurst_window o k e n true w
    obtain ⟨hmarked, hkept⟩ := (p.pageLeft_banks o k e n hw).2 he.quiet.2.2.1
    rw [h]
    by_cases hg : GivesBackPage p o k e n w
    · exact (hmarked hg).trans (modify_givenBack_unknown (hbanks w) _)
    · exact hkept hg
  · exact p.reportBurst_banks_other o k e n true hw

theorem Part.told_deferred (p : Part) (k : Fin 8) (st : Status) (s : Slot) : (p.told k st s).deferred = s.deferred := by
  unfold Part.told
  split <;> rfl

theorem Part.considered_not_deferred {s : Slot} (h : s.deferred = false) : (p.considered s).deferred = false := by
  rw [Part.considered_of_not_deferred h, h]

/-- A settlement makes no slot DEFERRED. -/
theorem Part.settle_deferred (h : ∀ j, j ≠ k → (p.slot j).deferred = false) (st : Status) (x : BitVec 32) (j : Fin 8) :
    ((p.settle k st x).slot j).deferred = false := by
  by_cases hj : j = k
  · subst hj
    rw [Part.settle_slot_self]
    split <;> rfl
  · obtain ⟨hreturned, hother⟩ := Part.settle_slot_other hj st x (p := p)
    by_cases hhalt : p.Halts k st ∧ (p.slot j).state = .held ∧ (p.slot j).ring = (p.slot k).ring
    · rw [hreturned hhalt.1 hhalt.2.1 hhalt.2.2]
      rfl
    · rw [hother hhalt]
      exact Part.considered_not_deferred ((p.told_deferred k st _).trans (h j hj))

theorem Part.reportBurst_cut_deferred (he : e.IsCut) (hslots : ∀ j, (p.slot j).deferred = false) (j : Fin 8) :
    ((p.reportBurst o k e n true).slot j).deferred = false := by
  have hreported (j : Fin 8) : (p.reported o e).slot j = p.slot j := by rw [he.reported]; rfl
  have hleft (j : Fin 8) : (p.pageLeft o k e n true).slot j = p.slot j :=
    ((p.pageLeft_keeps o k e n true).slot j).trans (hreported j)
  rw [Part.reportBurst_eq, Part.reportEnd_eq, he.endsWith]
  split
  · rw [Part.modSlot_slot]
    split
    · exact (congrArg Slot.deferred (hreported k)).trans (hslots k)
    · rw [hleft]
      exact hslots j
  · refine Part.settle_deferred (fun i hi => ?_) _ _ j
    rw [Part.modSlot_slot, if_neg hi, hleft]
    exact hslots i

/-! ### What is left of the part (R91) -/

/-- `u` is `p` after its operation has been cut: no bank is gained, no slot DEFERRED, and outside the queue, the host
channel and the Master nothing is touched. -/
structure Part.CutShort (p u : Part) : Prop where
  banks : (∀ w, ∀ x ∈ (p.window w).banks, x = .unknown) → ∀ w, (u.window w).banks = (p.window w).banks
  deferred : (∀ j, (p.slot j).deferred = false) → ∀ j, (u.slot j).deferred = false
  port : p.port.chainHold = none → u.port = p.port
  out : u.out = p.out
  notices : u.notices = p.notices
  engine : u.engine = p.engine
  admin : p.NoFlush → u.admin = p.admin
  adminHeld : u.compl.adminHeld = p.compl.adminHeld

theorem Part.CutShort.of_keeps (h : p.Keeps [.host, .master] q) : p.CutShort q :=
  ⟨fun _ w => by rw [h.window w], fun hd j => by rw [h.slot j]; exact hd j, fun _ => h.port, h.out, h.notices, h.engine,
    fun _ => h.admin, by rw [h.compl]⟩

theorem Part.CutShort.reportBurst (he : e.IsCut) : p.CutShort (p.reportBurst o k e n true) := by
  have hkeeps := p.reportBurst_keeps o k e n true
  have hshows := p.reportBurst_showsVerdict o k e n true
  have hverdict : p.masterIdle.verdict o e = p.masterIdle := Part.verdict_cut _ _ he
  have hhold := p.holdOnly_reportBurst o k e n true
  have hcases := p.reportBurst_cases o k e n true
  have hleft := p.pageLeft_verdict o k e n true
  rw [hverdict] at hshows hhold hleft
  have hleft' : p.Keeps [.master, .windows, .stats] (p.pageLeft o k e n true) :=
    Part.Keeps.trans (q := p.masterIdle) (by simp) (hleft.mono (by simp))
  refine ⟨Part.reportBurst_cut_banks he, Part.reportBurst_cut_deferred he, fun hnone => ?_, hkeeps.out, hshows.notices,
    hkeeps.engine, fun hflush => ?_, ?_⟩
  · have hport : (p.reportBurst o k e n true).port.chainHold = none := by
      rcases hcases with hq | ⟨q, st, x, hq, hends, hr⟩
      · rw [hq.port, hleft'.port, hnone]
      · rw [Part.reportEnd_eq, he.endsWith] at hends
        obtain ⟨rfl, rfl⟩ := Prod.ext_iff.1 (Option.some_inj.1 hends)
        rw [hr]
        exact Part.settle_chainHold (by rw [hq.port, hleft'.port, hnone]) he.quiet.2.2.2.1 k _
    rw [hhold, hport, ← hnone]
    rfl
  · rcases hcases with hq | ⟨q, st, x, hq, -, hr⟩
    · rw [hq.admin, hleft'.admin]
    · have hq' : q.admin = p.admin := hq.admin.trans hleft'.admin
      rw [hr, (hflush.of_admin hq').settle_admin, hq']
  · rcases hcases with hq | ⟨q, st, x, hq, -, hr⟩
    · rw [hq.compl, hleft'.compl]
    · rw [hr, Part.settle_adminHeld, hq.compl, hleft'.compl]

theorem Part.CutShort.cutOperation (he : e.IsCut) : p.CutShort (p.cutOperation e) := by
  rcases p.cutOperation_cases he with h | h | ⟨o, k, h⟩ | ⟨o, k, h⟩ <;> rw [h]
  · exact .of_keeps (p.keeps_self _)
  · exact .of_keeps (by simp)
  · exact .of_keeps (by simp [Part.beginsDelivery])
  · exact .reportBurst he

theorem Part.abandonFetch_of_not_fetching (h : p.master.state ≠ .fetching) : p.abandonFetch = p := if_neg h

end Sys2Proof.Machine
end

section
/-! The claims' terms for ownership that ends abruptly (R56, R66, R91). -/

-- One declaration at a time: every further thread counts against the memory the check allows.
set_option Elab.async false

namespace Sys2Proof.Machine

variable {p q : Part} {o : Operation} {k : Fin 8} {e : OperationEnd} {n : Nat}

theorem Part.abandonFetch_deferred (p : Part) (h : ∀ j, (p.slot j).deferred = false) (j : Fin 8) :
    (p.abandonFetch.slot j).deferred = false := by
  unfold Part.abandonFetch
  split
  · split
    · split
      · simp only [Part.masterIdle_slot, Part.onHost_slot, Part.modSlot_slot]
        split
        · next hj =>
          subst hj
          exact h _
        · exact h j
      · exact h j
    · exact h j
  · exact h j

theorem Part.cutOperation_of_still (h : p.master.state ≠ .driving ∧ p.master.state ≠ .closing) (e : OperationEnd) :
    p.cutOperation e = p := by
  unfold Part.cutOperation
  split
  · rw [if_neg]
    rintro (hd | hc)
    · exact h.1 hd
    · exact h.2 hc
  · rfl

theorem Part.cutOperation_of_burst (hstate : p.master.state = .driving) (hop : p.master.operation = some o) (e : OperationEnd) :
    p.cutOperation e = p.endOperation o e := by
  unfold Part.cutOperation
  simp only [hop, hstate, true_or, if_true]

/-- A burst that is not a READ with acknowledged beats settles its slot as the cut says (R66). -/
theorem Part.cut_settles (he : e.IsCut) (hstate : p.master.state = .driving) (hop : p.master.operation = some o)
    (hslot : o.slot = some k) (hno : o.opcode ≠ .read ∨ o.acked = 0) (halive : p.engine.state ≠ .failed) :
    p.cut e = (p.lost.takesReport o k e (o.acked * o.width) true).settle k e.failure (o.oldValue.getD 0#32) := by
  have hstays : p.lost.abandonFetch = p.lost := Part.abandonFetch_of_not_fetching (by simp [p.lost_master, hstate])
  have hends : p.lost.reportEnd o k e (o.acked * o.width) true = some (e.failure, o.oldValue.getD 0#32) := by
    rw [Part.reportEnd_eq, he.endsWith]
  rw [Part.cut, hstays, Part.cutOperation_of_burst (p := p.lost) hstate hop,
    Part.endOperation_reports hslot (hno.imp_right .inl)]
  exact Part.reportBurst_of_settles (p := p.lost) halive hends

theorem Part.cut_cutShort (p : Part) (he : e.IsCut) : p.lost.abandonFetch.CutShort (p.cut e) := .cutOperation he

theorem OwnershipCut.of_cut {s : State} (hp : s.part.Keeps [.port, .notices] p) (he : e.IsCut) :
    OwnershipCut s { s with part := p.cut e } e := by
  have habandon := p.lost.abandonFetch_keeps
  have hcut := p.cut_cutShort he
  have hmaster : p.lost.master = s.part.master := hp.master
  have hwindow (w : Fin 16) : p.lost.abandonFetch.window w =
      { s.part.window w with banks := (s.part.window w).banks.map fun _ => Bank.unknown } := by
    rw [habandon.window w, p.lost_window, hp.window w]
  have hstays (h : s.part.master.state ≠ .fetching) : p.lost.abandonFetch = p.lost :=
    Part.abandonFetch_of_not_fetching (by rwa [hmaster])
  have hstill (h : s.part.master.state = .idle ∨ s.part.master.state = .delivering) : p.cut e = p.lost := by
    rw [Part.cut, hstays (by rcases h with h | h <;> simp [h]), Part.cutOperation_of_still]
    rw [hmaster]
    rcases h with h | h <;> simp [h]
  refine ⟨fun w => ?_, fun k => ?_, ?_, fun o k hstate hop hslot => ?_, fun o k hstate hop hslot hno halive hpre => ?_,
    fun o k hstate hop hslot hread hacked halive => ?_, fun o hstate hop hslot => ?_, fun h => ?_, ?_⟩
  · refine (hcut.banks (fun v x hx => ?_) w).trans (by rw [hwindow])
    rw [hwindow] at hx
    obtain ⟨-, -, rfl⟩ := List.mem_map.1 hx
    rfl
  · exact hcut.deferred (p.lost.abandonFetch_deferred fun j => by rw [p.lost_slot]) k
  · rw [show ({ s with part := p.cut e } : State).part.port = p.lost.port from
      (hcut.port (by rw [habandon.port]; rfl)).trans habandon.port]
    exact ⟨rfl, rfl⟩
  · rw [← hmaster] at hstate hop
    have hfetch := Part.abandonFetch_eq hstate hop hslot
    have hidle : p.lost.abandonFetch.master = Master.reset := by rw [hfetch]; rfl
    have hnow : p.cut e = p.lost.abandonFetch := Part.cutOperation_of_still (by rw [hidle]; simp [Master.reset]) e
    have hhost : p.lost.abandonFetch.host = s.part.host.abandonRead := by
      rw [hfetch, ← hp.host]
      rfl
    refine ⟨?_, ?_, ?_, ?_, fun x hx hsource => ?_⟩
    · exact (congrArg Part.master hnow).trans hidle
    · exact (congrArg (fun u : Part => u.host.waiting.get Source.master.place) hnow).trans
        ((congrArg (fun h : HostPort => h.waiting.get Source.master.place) hhost).trans
          ((HostPort.abandonRead_waiting .master).trans (if_pos rfl)))
    · exact (congrArg (fun u : Part => u.host.abandoned) hnow).trans (congrArg HostPort.abandoned hhost)
    · refine (congrArg (fun u : Part => u.slot k) hnow).trans ?_
      rw [hfetch]
      simp only [Part.masterIdle_slot, Part.onHost_slot, Part.modSlot_slot, if_true, p.lost_slot, hp.slot k]
    · refine (congrArg (fun u : Part => u.host.outstanding) hnow).trans ((congrArg HostPort.outstanding hhost).trans ?_)
      simp [HostPort.abandonRead, hx, hsource]
  · rw [← hmaster] at hstate hop
    have hsettles := Part.cut_settles (p := p) he hstate hop hslot hno (by rwa [hp.engine])
    have hcomes : s.part.ComesToSettle k (p.lost.takesReport o k e (o.acked * o.width) true) :=
      ((Part.ComesToSettle.of_kept (hp.mono (by simp))).trans (.lost p k)).trans (.takesReport ..)
    obtain ⟨hprogress, hretries⟩ := p.lost.takesReport_slot o k e (o.acked * o.width) true
    rw [p.lost_slot, hp.slot k] at hprogress hretries
    refine ⟨?_, .of_settle hcomes (by rw [hsettles]; exact .refl _) ?_ ?_⟩
    · refine (congrArg Part.master hsettles).trans ?_
      rw [(Part.settle_keeps _ _ _ _).master]
      exact Part.pageLeft_master ..
    · rw [hprogress, hpre]
      simp [he.quiet.2.2.2.2]
    · rw [hretries]
      simp [he.quiet.2.1]
  · rw [← hmaster] at hstate hop
    have hnow : p.cut e = p.lost.beginsDelivery o k e := by
      rw [Part.cut, hstays (by rw [← hmaster, hstate]; simp), Part.cutOperation_of_burst hstate hop]
      exact Part.endOperation_delivers hslot hread hacked (by rwa [(p.lost_keeps).engine, hp.engine]) e
    exact ⟨(congrArg (fun u : Part => u.master.state) hnow), (congrArg (fun u : Part => u.master.operation) hnow)⟩
  · rw [← hmaster] at hstate hop
    have hnow : p.cut e = p.lost.masterIdle := by
      rw [Part.cut, hstays (by rw [← hmaster, hstate]; simp)]
      unfold Part.cutOperation Part.endOperation
      simp only [hop, hstate, hslot, or_true, if_true]
      rcases he with rfl | rfl <;> rfl
    exact (congrArg Part.master hnow)
  · rw [hstill h]
    exact hmaster
  · exact hcut.out.trans (habandon.out.trans hp.out)

end Sys2Proof.Machine
end

section
/-! What follows a tenure that has ended, and the loss of the grant and of the link (R91, R104 to R106, R108, R109, R111):
O43, O44, O45. -/

-- One declaration at a time: every further thread counts against the memory the check allows.
set_option Elab.async false

namespace Sys2Proof.Machine

variable {p q : Part} {e : OperationEnd} {c : DetachCause}

/-! ### What follows at the same event -/

/-- What follows at the same event asks nothing for the Master. -/
theorem Part.react_request_master (p : Part) : p.react.request .master = p.request .master := by
  have hposting (q : Part) : q.askPosting.request .master = q.request .master := by
    unfold Part.askPosting
    (repeat' split) <;> simp [Part.ask_request]
  have hadmin (q : Part) : q.askAdminPosting.request .master = q.request .master := by
    unfold Part.askAdminPosting
    (repeat' split) <;> simp [Part.ask_request]
  have hnotice (q : Part) : q.askNotice.request .master = q.request .master := by
    simp only [Part.askNotice, Part.askNoticeEntry]
    (repeat' split) <;> simp [Part.ask_request]
  have hcommand (q : Part) : q.askCommand.request .master = q.request .master := by
    unfold Part.askCommand
    split <;> simp [Part.ask_request]
  rw [Part.react, hcommand, hnotice, hadmin, hposting]
  have hkeeps : p.Keeps [.admin, .port] p.movePort.driveLevel.captureFlush := by simp [Part.driveLevel]
  exact hkeeps.request .master

theorem Part.react_reportedSet (p : Part) : p.react.reportedSet = p.reportedSet := by
  have hkeeps : p.Keeps [.host, .admin, .port, .notices] p.react := by simp
  exact Part.reportedSet_congr (hkeeps.mono (by simp)).settleView

theorem Part.react_requestLevel (p : Part) : p.react.requestLevel = p.requestLevel := by
  have hkeeps : p.Keeps [.host, .admin, .port, .notices] p.react := by simp
  exact Part.requestLevel_congr (hkeeps.mono (by simp)).settleView

theorem Part.requestLevel_isSome (h : p.reportedSet ≠ []) : p.requestLevel.isSome = true := by
  rw [Part.requestLevel, Part.mostUrgent, Option.isSome_iff_ne_none, Ne, List.min?_eq_none_iff]
  simpa using h

/-- An IDLE port without GNT stays IDLE, or requests where a slot is bus-eligible (R93, R97). -/
theorem Part.react_port_idle (h : p.port.state = .idle) (hreq : p.port.req = false) (hgnt : p.port.gnt = false) :
    (p.react.reportedSet = [] → p.react.port = { p.port with lvl := 3 })
    ∧ (p.react.reportedSet ≠ [] → p.react.port.state = .requesting ∧ p.react.port.req = true
      ∧ some p.react.port.lvl = p.react.requestLevel) := by
  obtain ⟨hstays, hmoves⟩ := Part.movePort_of_idle h
  rw [p.react_reportedSet, p.react_requestLevel]
  refine ⟨fun hset => ?_, fun hset => ?_⟩
  · rw [Part.react_port, hstays (.inl hset)]
    simp [Part.driveLevel, hreq]
  · have hview : (p.onPort fun x => { x with state := .requesting, req := true }).requestLevel = p.requestLevel :=
      Part.requestLevel_congr rfl
    obtain ⟨l, hl⟩ := Option.isSome_iff_exists.1 (Part.requestLevel_isSome hset)
    rw [Part.react_port, hmoves hset hgnt]
    simp [Part.driveLevel, hview, hl]

/-- A FAILED part tells no event. -/
theorem Part.react_notices_of_failed (h : p.engine.state = .failed) : p.react.notices = p.notices :=
  Part.react_notices_of_not_due fun hr => by simp [h] at hr

/-! ### After the tenure (R104, R106, R108, R111) -/

theorem Part.afterTenure_of_failed (h : p.engine.state = .failed) : p.afterTenure = p.portDetached := if_pos h

theorem Part.afterTenure_of_marked (h : p.engine.state ≠ .failed) (hc : p.port.mark.cause = some c) :
    p.afterTenure = p.detach c := by
  unfold Part.afterTenure
  rw [if_neg h]
  simp only [hc]

theorem Part.afterTenure_of_unmarked (h : p.engine.state ≠ .failed) (hmark : p.port.mark = .none) :
    p.afterTenure = p.onPort fun x => { x.dropRequest with state := .idle } := by
  unfold Part.afterTenure
  rw [if_neg h]
  simp only [hmark, DetachMark.cause]

theorem Part.afterTenure_touches (p : Part) : p.Keeps [.admin, .port, .notices, .compl, .stats] p.afterTenure := by
  unfold Part.afterTenure
  (repeat' split) <;> simp [Part.portDetached]

theorem Part.afterTenure_fifo (p : Part) : p.afterTenure.compl.fifo = p.compl.fifo := by
  unfold Part.afterTenure
  split
  · rfl
  · split
    · exact p.detach_fifo _
    · rfl

/-- Of the port a tenure that has ended leaves the lines and the error count. -/
theorem Part.afterTenure_lines (p : Part) : p.afterTenure.port.gnt = p.port.gnt
    ∧ p.afterTenure.port.errorCount = p.port.errorCount
    ∧ (p.port.tenure = false → p.afterTenure.port.tenure = false)
    ∧ (p.port.chainHold = none → p.afterTenure.port.chainHold = none) := by
  unfold Part.afterTenure
  split
  · exact ⟨rfl, rfl, fun _ => rfl, fun _ => rfl⟩
  · split
    · rw [Part.detach_port]
      exact ⟨rfl, rfl, fun _ => rfl, fun _ => rfl⟩
    · exact ⟨rfl, rfl, id, id⟩

/-- The part at a detachment: DETACHED with REQ low, the event told and a DETACH that waits ended. -/
theorem Part.react_detach {s t : State} (ht : t.part = (q.detach c).react) (halive : q.engine.state.alive = true)
    (hwrite : q.notices.write = s.part.notices.write) (hengine : q.engine = s.part.engine)
    (hadmin : s.part.admin.state = .waiting .detach → q.admin = s.part.admin) :
    t.part.port = { q.portDetached.port with lvl := 3 } ∧ DetachTold s t c ∧ DetachEnds s t c := by
  have hport : (q.detach c).port = q.portDetached.port := q.detach_port c
  refine ⟨?_, ?_, fun hwaiting => ?_⟩
  · rw [ht, Part.react_port_low (by rw [hport]; rfl) (by rw [hport]; rfl), hport]
  · obtain ⟨hdetached, hkept⟩ := Part.detach_told halive c
    exact .of_react hdetached (hkept.trans hwrite) ht
  · exact (Part.detach_ends (s := s) (hadmin hwaiting) hengine halive c).react ht hwaiting

/-- What the end of ownership left shows after the port has gone on. -/
theorem OwnershipCut.shown {s t u : State} {r : Part} (h : OwnershipCut s u e)
    (hr : u.part.Keeps [.admin, .port, .notices, .compl, .stats] r) (hfifo : r.compl.fifo = u.part.compl.fifo)
    (hflags : r.port.tenure = false ∧ r.port.chainHold = none) (ht : t.part = r.react) : OwnershipCut s t e := by
  have hshows : u.part.ShowsSettled t.part := by
    rw [ht]
    exact ⟨by rw [Part.react_sched, hr.sched], fun x => by rw [Part.react_ring, hr.ring x],
      fun w => by rw [Part.react_window, hr.window w], by rw [Part.react_compl, hfifo]⟩
  have hslot (j : Fin 8) : t.part.slot j = u.part.slot j := congrArg (fun v : Scheduler => v.slots.get j) hshows.sched
  have hmaster : t.part.master = u.part.master := by rw [ht, Part.react_master, hr.master]
  refine ⟨fun w => ?_, fun k => ?_, ?_, fun o k hstate hop hslot' => ?_, fun o k hstate hop hslot' hno halive hpre => ?_,
    fun o k hstate hop hslot' hread hacked halive => ?_, fun o hstate hop hslot' => ?_, fun hstate => ?_, ?_⟩
  · rw [ht, Part.react_window, hr.window w]
    exact h.banks w
  · rw [hslot]
    exact h.deferred k
  · rw [ht, Part.react_port_tenure, Part.react_port_chainHold]
    exact hflags
  · have hhost : r.host = u.part.host := hr.host
    obtain ⟨hm, hrequest, habandoned, hk, hout⟩ := h.fetching o k hstate hop hslot'
    refine ⟨hmaster.trans hm, ?_, ?_, (hslot k).trans hk, fun x hx hsource => ?_⟩
    · rw [ht, Part.react_request_master, hr.request .master]
      exact hrequest
    · rw [ht, Part.react_host_abandoned, hhost]
      exact habandoned
    · rw [ht, Part.react_host_outstanding, hhost]
      exact hout x hx hsource
  · obtain ⟨hm, hends⟩ := h.driving o k hstate hop hslot' hno halive hpre
    exact ⟨hmaster.trans hm, hends.shown hshows⟩
  · rw [hmaster]
    exact h.delivers o k hstate hop hslot' hread hacked halive
  · exact hmaster.trans (h.closing o hstate hop hslot')
  · exact hmaster.trans (h.others hstate)
  · rw [ht, Part.react_out, hr.out]
    exact h.quiet

end Sys2Proof.Machine
end

section
/-! A tenure ends by release, or is cut by a loss of the grant or of the link: O43, O44, O45. -/

-- One declaration at a time: every further thread counts against the memory the check allows.
set_option Elab.async false

namespace Sys2Proof.Machine

variable {p q : Part} {e : OperationEnd} {c : DetachCause}

theorem EngineState.alive_ne_failed {x : EngineState} (h : x.alive = true) : x ≠ .failed := by
  rintro rfl
  simp [EngineState.alive] at h

/-- A detachment in an engine that is not alive tells nothing. -/
theorem Part.detach_untold (h : p.engine.state.alive = false) (c : DetachCause) : p.detach c = p.portDetached := by
  have halive : p.portDetached.engine.state.alive = false := h
  have hpend : p.portDetached.pendDetached c = p.portDetached := by simp [Part.pendDetached, halive]
  rw [Part.detach, hpend, Part.finishDetach, if_neg (by simp [halive])]

/-- Settles O43. -/
theorem tenuresEndWithTheGrant : Obligations.TenuresEndWithTheGrant := by
  refine ⟨fun s hstate hmaster hbank => exec_of_effect (if_pos ⟨hstate, hmaster, hbank⟩), fun s hno => exec_of_effect (if_neg ?_),
    fun s hgnt htenure hstate hreq => ?_, fun s hs hgnt htenure => ?_, fun s hgnt => exec_of_effect ?_⟩
  · rintro ⟨hstate, hmaster, hbank⟩
    rcases hno with h | h | h
    · exact h hstate
    · exact h hmaster
    · simp [hbank] at h
  · set b := (s.part.onPort fun x => { x with gnt := false }).endTenureFlags with hb
    have heffect : effect .gntDrop s.part = b.afterTenure.react := by
      simp only [effect, Part.grantDrops, hgnt, if_true, Part.onPort_port, htenure, hstate, hreq, and_self]
      rfl
    have hkeeps : s.part.Keeps [.sched, .port] b := by simp [hb]
    have hport : b.port = { s.part.port with gnt := false, tenure := false, chainHold := none } := rfl
    have hafter := b.afterTenure_touches
    obtain ⟨hgnt', herrors, htenure', hhold⟩ := b.afterTenure_lines
    have hengine : b.engine = s.part.engine := hkeeps.engine
    have hunmarked (hmark : s.part.port.mark = .none) (hrun : s.part.engine.state ≠ .failed) :
        b.afterTenure = b.onPort fun x => { x.dropRequest with state := .idle } :=
      Part.afterTenure_of_unmarked (by rwa [hengine]) (by rw [hport]; exact hmark)
    refine ⟨_, exec_of_effect heffect, ?_, ?_, ?_, fun k => ?_, ?_, ?_, fun hfailed => ?_, fun cause hcause halive => ?_,
      fun hmark hrun hset => ?_, fun hmark hrun hset => ?_, ?_, ?_⟩
    · rw [Part.react_port_gnt, hgnt']
      rfl
    · rw [Part.react_port_tenure, htenure' rfl]
    · rw [Part.react_port_chainHold, hhold rfl]
    · rw [Part.react_slot, hafter.slot k]
      exact Part.clearDeferred_slot _ k
    · rw [Part.react_windows, hafter.windows]
      rfl
    · rw [Part.react_port_errorCount, herrors]
      rfl
    · have hdetached := Part.afterTenure_of_failed (p := b) hfailed
      rw [hdetached]
      exact ⟨Part.react_port_of_detached rfl, (congrArg NoticeUnit.detached (Part.react_notices_of_failed (p := b.portDetached) hfailed)).trans rfl⟩
    · have hdetached := Part.afterTenure_of_marked (p := b) (EngineState.alive_ne_failed halive) hcause
      obtain ⟨hnow, htold, hends⟩ := Part.react_detach (s := s) (t := { s with part := b.afterTenure.react }) (q := b) (c := cause)
        (by rw [hdetached]) halive rfl rfl fun _ => rfl
      exact ⟨congrArg Port.state hnow, congrArg Port.mark hnow, htold, hends⟩
    · rw [hunmarked hmark hrun] at hset ⊢
      rw [(Part.react_port_idle rfl rfl rfl).1 hset]
      exact ⟨rfl, rfl, rfl⟩
    · rw [hunmarked hmark hrun] at hset ⊢
      exact (Part.react_port_idle rfl rfl rfl).2 hset
    · rw [Part.react_master, hafter.master]
      rfl
    · rw [Part.react_out, hafter.out]
      rfl
  · set q := s.part.onPort fun x => { x with gnt := false } with hq
    have heffect : effect .gntDrop s.part = q.react := by
      simp only [effect, Part.grantDrops, hgnt, if_true, Part.onPort_port, htenure, Bool.false_eq_true, if_false]
      rfl
    have hkeeps : s.part.Keeps [.port] q := by simp [hq]
    have hset : q.reportedSet = s.part.reportedSet := Part.reportedSet_congr rfl
    have hdue : q.NothingDue := hs.nothingDue.of_keeps (hkeeps.mono (by simp))
    obtain ⟨hstill, hlevel, -⟩ := settled_iff.1 hs
    have hstays (h : s.part.port.state ≠ .idle ∨ s.part.reportedSet = []) : q.react = q := by
      refine hdue.react_of_still ?_ (hlevel.trans ?_)
      · have hempty : q.setStaysEmpty = s.part.setStaysEmpty := Part.setStaysEmpty_congr rfl
        have hstate : q.port.state = s.part.port.state := rfl
        unfold Part.portStill at hstill ⊢
        rw [hstate, hset, hempty]
        cases hs : s.part.port.state with
        | idle => exact .inl (h.resolve_left (not_not.2 hs))
        | requesting | owner | yielding =>
          rw [hs] at hstill
          exact hstill
        | detached | joining | releasing => trivial
      · rw [Part.requestLevel_congr (p := s.part) (q := q) rfl]
        rfl
    have hreact : s.part.Keeps [.port] q.react := by
      rw [hdue.react_eq]
      simp [hq, Part.driveLevel]
    refine ⟨_, exec_of_effect heffect, ?_, onlyChanges_iff.2 ⟨rfl, hreact⟩, fun hidle hnonempty => ?_, fun h => ?_⟩
    · exact Part.react_port_gnt q
    · rw [← hset] at hnonempty
      rw [Part.react_port, (Part.movePort_of_idle (p := q) hidle).2 hnonempty rfl]
      exact ⟨rfl, rfl⟩
    · rw [hstays h]
      rfl
  · simp [effect, Part.grantDrops, hgnt]

/-! ### The grant is lost (R105, R108) -/

/-- The port after an unexpected loss of the grant: one error more, and the mark ERROR_LIMIT where it is the 16th. -/
def Port.lostGrant (x : Port) : Port :=
  { x with errorCount := min 16 (x.errorCount + 1), mark := if x.errorCount = 15 then .errorLimit else x.mark }

theorem Part.loseGrant_eq (p : Part) : p.loseGrant = ((p.cut .grantLost).onPort Port.lostGrant).afterTenure := by
  have hlost : p.loseGrant = (if (p.cut .grantLost).port.errorCount < errorLimit
      ∧ ((p.cut .grantLost).onPort Port.raise).port.errorCount = errorLimit then
        ((p.cut .grantLost).onPort Port.raise).onPort fun x => { x with mark := .errorLimit }
      else (p.cut .grantLost).onPort Port.raise).afterTenure := rfl
  rw [hlost]
  generalize p.cut .grantLost = u
  congr 1
  by_cases h : u.port.errorCount = 15
  · rw [if_pos (by simp [Part.onPort, Port.raise, errorLimit, h])]
    simp only [Part.onPort, Port.lostGrant, Port.raise, if_pos h]
    rfl
  · rw [if_neg]
    · simp only [Part.onPort, Port.lostGrant, Port.raise, if_neg h]
      rfl
    · simp only [Part.onPort, Port.raise, errorLimit]
      omega

/-- The port after ownership has ended abruptly. -/
theorem Part.cut_port (p : Part) (he : e.IsCut) :
    (p.cut e).port = { p.port with tenure := false, chainHold := none } := by
  have habandon := p.lost.abandonFetch_keeps
  exact ((p.cut_cutShort he).port (by rw [habandon.port]; rfl)).trans habandon.port

theorem Part.cut_notices (p : Part) (he : e.IsCut) : (p.cut e).notices = p.notices :=
  (p.cut_cutShort he).notices.trans p.lost.abandonFetch_keeps.notices

theorem Part.cut_engine (p : Part) (he : e.IsCut) : (p.cut e).engine = p.engine :=
  (p.cut_cutShort he).engine.trans p.lost.abandonFetch_keeps.engine

theorem Part.cut_admin (p : Part) (he : e.IsCut) (h : p.NoFlush) : (p.cut e).admin = p.admin := by
  have hadmin : p.lost.abandonFetch.admin = p.admin := p.lost.abandonFetch_keeps.admin
  exact ((p.cut_cutShort he).admin (h.of_admin hadmin)).trans hadmin

/-- Settles O44. -/
theorem unexpectedLossOfGrant : Obligations.UnexpectedLossOfGrant := by
  intro s hgnt htenure howns hcount
  set p := s.part.onPort fun x => { x with gnt := false } with hp
  have he : OperationEnd.grantLost.IsCut := .inl rfl
  set u := (p.cut .grantLost).onPort Port.lostGrant with hu
  have hno : ¬(s.part.port.state = .releasing ∧ s.part.port.req = false) := by
    rintro ⟨hstate, hreq⟩
    rcases howns with h | h | ⟨-, h⟩
    · simp [h] at hstate
    · simp [h] at hstate
    · simp [hreq] at h
  have heffect : effect .gntDrop s.part = u.afterTenure.react := by
    rw [hu, ← Part.loseGrant_eq]
    simp only [effect, Part.grantDrops, hgnt, if_true, Part.onPort_port, htenure, hno, if_false]
    rfl
  have hkeeps : s.part.Keeps [.port, .notices] p := by simp [hp]
  have hport : u.port = { s.part.port with
      gnt := false, tenure := false, chainHold := none
      errorCount := min 16 (s.part.port.errorCount + 1)
      mark := if s.part.port.errorCount = 15 then .errorLimit else s.part.port.mark } := by
    rw [hu, Part.onPort_port, p.cut_port he]
    rfl
  have hengine : u.engine = s.part.engine := (p.cut_engine he).trans rfl
  have hwrite : u.notices.write = s.part.notices.write := by
    rw [hu, Part.onPort_notices, p.cut_notices he]
    rfl
  have hadmin (hw : s.part.admin.state = .waiting .detach) : u.admin = s.part.admin :=
    p.cut_admin he fun f => by
      change s.part.admin.state ≠ _
      simp [hw]
  obtain ⟨hgnt', herrors, htenure', hhold⟩ := u.afterTenure_lines
  have htouches := u.afterTenure_touches
  have hmarked {cause : DetachCause} (hcause : u.port.mark.cause = some cause) (halive : s.part.engine.state.alive = true) :
      u.afterTenure.react.port.state = .detached ∧ u.afterTenure.react.port.req = false
        ∧ DetachTold s { s with part := u.afterTenure.react } cause
        ∧ DetachEnds s { s with part := u.afterTenure.react } cause := by
    have hdetached := Part.afterTenure_of_marked (p := u) (by rw [hengine]; exact EngineState.alive_ne_failed halive) hcause
    obtain ⟨hnow, htold, hends⟩ := Part.react_detach (s := s) (t := { s with part := u.afterTenure.react }) (q := u)
      (c := cause) (by rw [hdetached]) (by rw [hengine, halive]) hwrite hengine hadmin
    exact ⟨congrArg Port.state hnow, congrArg Port.req hnow, htold, hends⟩
  have hflags : u.afterTenure.port.tenure = false ∧ u.afterTenure.port.chainHold = none :=
    ⟨htenure' (by rw [hport]), hhold (by rw [hport])⟩
  have hcut : OwnershipCut s { s with part := p.cut .grantLost } .grantLost := .of_cut hkeeps he
  refine ⟨_, exec_of_effect heffect, hcut.shown ((Part.keeps_onPort Port.lostGrant (by simp)).2 (Part.keeps_self _ _) |>.trans htouches) u.afterTenure_fifo hflags rfl,
    ?_, ?_, fun hfailed => ?_, fun halive hlimit => ?_, fun cause hcause halive hbelow => ?_, fun hmark hrun hbelow => ?_⟩
  · rw [Part.react_port_gnt, hgnt', hport]
  · rw [Part.react_port_errorCount, herrors, hport]
  · rw [Part.afterTenure_of_failed (by rw [hengine, hfailed])]
    exact Part.react_port_of_detached rfl
  · exact hmarked (by rw [hport]; simp [hlimit, DetachMark.cause]) halive
  · obtain ⟨hstate, -, htold, hends⟩ := hmarked (cause := cause) (by rw [hport]; simp [hbelow, hcause]) halive
    exact ⟨hstate, htold, hends⟩
  · have hidle : u.afterTenure = u.onPort fun x => { x.dropRequest with state := .idle } :=
      Part.afterTenure_of_unmarked (by rwa [hengine]) (by rw [hport]; simp [hbelow, hmark])
    rw [hidle]
    obtain ⟨hstays, hmoves⟩ := Part.react_port_idle (p := u.onPort fun x => { x.dropRequest with state := .idle }) rfl rfl
      (congrArg Port.gnt hport)
    refine ⟨fun hset => ?_, fun hset => ?_⟩
    · obtain ⟨hstate, hreq, -⟩ := hmoves hset
      exact ⟨hstate, hreq⟩
    · rw [hstays hset]
      exact ⟨rfl, rfl⟩

/-! ### The link is lost (R94, R109) -/

/-- No notice is being received after a detachment (R132). -/
theorem Part.detach_not_receiving (p : Part) (c : DetachCause) (b : Fin 4) : ((p.detach c).entry b).state ≠ .receiving := by
  obtain ⟨-, -, -, -, -, -, hbuffer⟩ := p.detach_effect c
  have hentry : (p.detach c).entry b = p.dropReceiving.entry b := congrArg (fun v => Vector.get v b) hbuffer
  rw [hentry, Part.dropReceiving_entry]
  split
  · simp [BufferEntry.empty]
  · assumption

/-- What follows at the same event begins no reception. -/
theorem Part.react_not_receiving {b : Fin 4} (h : (p.entry b).state ≠ .receiving) : (p.react.entry b).state ≠ .receiving := by
  rcases p.react_entry b with hb | ⟨-, hb⟩ <;> rw [hb]
  · exact h
  · simp

theorem Part.loseLink_eq (h : p.port.state ≠ .detached) (c : DetachCause) :
    p.loseLink c = ((p.cut .linkLost).detach c).react := if_neg h

theorem Port.clock_absent {x : Port} (h : x.clockPresent = false) : { x with clockPresent := false } = x := by
  cases x
  simp_all

theorem Port.reset_held {x : Port} (h : x.rst = true) : { x with rst := true } = x := by
  cases x
  simp_all

/-- Settles O45. -/
theorem linkLossAndResetDetachThePort : Obligations.LinkLossAndResetDetachThePort := by
  have he : OperationEnd.linkLost.IsCut := .inr rfl
  refine ⟨fun s c cause hstate hc => ?_, fun s hstate => ⟨?_, ?_⟩, fun s => ⟨exec_of_effect rfl, exec_of_effect rfl⟩⟩
  · have hp : ∃ p, s.part.Keeps [.port, .notices] p ∧ effect c s.part = ((p.cut .linkLost).detach cause).react
        ∧ p.port = { s.part.port with
            clockPresent := if c = .linkLoss then false else s.part.port.clockPresent
            rst := if c = .linkLoss then s.part.port.rst else true }
        ∧ p.notices.write = s.part.notices.write ∧ p.notices.detached = s.part.notices.detached := by
      rcases hc with ⟨rfl, rfl, hclock⟩ | ⟨rfl, rfl, hrst⟩
      · refine ⟨s.part.onPort fun x => { x with clockPresent := false }, by simp, ?_, by simp, rfl, rfl⟩
        exact (if_pos hclock).trans
          (Part.loseLink_eq (p := s.part.onPort fun x => { x with clockPresent := false }) hstate .linkLost)
      · refine ⟨(s.part.onPort fun x => { x with rst := true }).dropReceiving, by simp, ?_, by simp, rfl, rfl⟩
        exact (if_neg (by simp [hrst])).trans
          (Part.loseLink_eq (p := (s.part.onPort fun x => { x with rst := true }).dropReceiving) hstate .backplaneReset)
    obtain ⟨p, hkeeps, heffect, hport, hwrite, hdetached⟩ := hp
    set u := p.cut .linkLost with hu
    have huport : u.port = { s.part.port with
        clockPresent := if c = .linkLoss then false else s.part.port.clockPresent
        rst := if c = .linkLoss then s.part.port.rst else true, tenure := false, chainHold := none } := by
      rw [hu, p.cut_port he, hport]
    have hnotices := p.cut_notices he
    have hengine : u.engine = s.part.engine := (p.cut_engine he).trans hkeeps.engine
    have htouches := u.detach_keeps cause
    have hcut : OwnershipCut s { s with part := u } .linkLost := .of_cut hkeeps he
    refine ⟨_, exec_of_effect heffect, ?_, hcut.shown htouches (u.detach_fifo cause) ?_ rfl, fun b => ?_,
      fun halive => ?_, fun hfailed => ?_⟩
    · rw [Part.react_port_low (by rw [u.detach_port]; rfl) (by rw [u.detach_port]; rfl), u.detach_port]
      change { Part.portDetached u |>.port with lvl := 3 } = _
      simp only [Part.portDetached, Part.dropReceiving_port, Part.onPort_port, huport, Port.dropRequest]
    · rw [u.detach_port]
      exact ⟨rfl, rfl⟩
    · exact Part.react_not_receiving (u.detach_not_receiving cause b)
    · obtain ⟨-, htold, hends⟩ := Part.react_detach (s := s) (t := { s with part := (u.detach cause).react }) (q := u)
        (c := cause) rfl (by rw [hengine, halive]) (by rw [hnotices, hwrite]) hengine fun hw => by
          refine (p.cut_admin he fun f => ?_).trans hkeeps.admin
          rw [hkeeps.admin, hw]
          simp
      exact ⟨htold, hends⟩
    · have huntold : u.detach cause = u.portDetached := Part.detach_untold (by rw [hengine, hfailed]; rfl) cause
      rw [huntold, Part.react_notices_of_failed (p := u.portDetached) (by rw [← hfailed, ← hengine]; rfl)]
      exact (congrArg NoticeUnit.detached hnotices).trans hdetached
  · refine exec_of_effect ?_
    by_cases hclock : s.part.port.clockPresent = true
    · exact (if_pos hclock).trans (if_pos hstate)
    · refine (if_neg hclock).trans ?_
      exact congrArg (fun x => { s.part with port := x }) (Port.clock_absent (by simpa using hclock)).symm
  · by_cases hrst : s.part.port.rst = true
    · refine ⟨_, exec_of_effect (if_pos hrst), (Port.reset_held hrst).symm, onlyChanges_iff.2 ⟨rfl, s.part.keeps_self _⟩, rfl⟩
    · set q := (s.part.onPort fun x => { x with rst := true }).dropReceiving
      exact ⟨_, exec_of_effect ((if_neg hrst).trans (if_pos (c := q.port.state = .detached) hstate)), rfl,
        onlyChanges_iff.2 ⟨rfl, by simp⟩, rfl⟩

end Sys2Proof.Machine
end

section
/-! A ring that halts and the slots it returns (R5, R16, R17, R43, R116): O39. -/

-- One declaration at a time: every further thread counts against the memory the check allows.
set_option Elab.async false

namespace Sys2Proof.Machine

variable {p q : Part} {o : Operation} {k : Fin 8} {e : OperationEnd} {n : Nat} {st : Status} {x : BitVec 32} {r : Fin 8}

/-! ### The ring after its return (R16, R17) -/

/-- The ring that has returned its slots: only span, links, held count, F and the bar can have changed. -/
theorem Part.haltReturns_ring_self (p : Part) (r : Fin 8) : (p.haltReturns r).ring r = { p.ring r with
    span := ((p.haltReturns r).ring r).span, links := ((p.haltReturns r).ring r).links
    heldCount := (p.ring r).heldCount - (p.heldSlots r).length
    fetchIndex := ((p.haltReturns r).ring r).fetchIndex, evictionBar := ((p.haltReturns r).ring r).evictionBar } := by
  have hring := p.haltReturns_ring r r
  rw [if_pos rfl] at hring
  have htaken : p.ringReturned r = _ := p.takenBack_eq (p.heldSlots r) (p.ring r)
  have hrewound := (p.ringReturned r).rewind_eq (p.lowestHeld r)
  rw [hring, hrewound, htaken]

theorem Part.haltReturns_spanOffset (p : Part) (r : Fin 8) (i : Nat) :
    ((p.haltReturns r).ring r).spanOffset i = (p.ring r).spanOffset i := by
  rw [p.haltReturns_ring_self r]
  rfl

/-- F goes back to the returned position nearest to C, over what is not NOT_ADMITTED (R16). -/
theorem Part.haltReturns_fetchIndex (p : Part) (r : Fin 8) :
    (p.heldSlots r = [] → ((p.haltReturns r).ring r).fetchIndex = (p.ring r).fetchIndex)
    ∧ ∀ j ∈ p.heldSlots r, (∀ i ∈ p.heldSlots r, (p.ring r).spanOffset (p.slot j).index ≤ (p.ring r).spanOffset (p.slot i).index) →
      ((p.haltReturns r).ring r).fetchIndex = (SubmissionRing.skipFetch { (p.haltReturns r).ring r with
        fetchIndex := (((p.haltReturns r).ring r).consumer + (p.ring r).spanOffset (p.slot j).index)
          % (p.ring r).size }).fetchIndex := by
  have hring := p.haltReturns_ring r r
  rw [if_pos rfl] at hring
  have htaken : p.ringReturned r = _ := p.takenBack_eq (p.heldSlots r) (p.ring r)
  refine ⟨fun hnone => ?_, fun j hj hleast => ?_⟩
  · have hlowest : p.lowestHeld r = none := by simp [Part.lowestHeld, hnone]
    rw [hring, hlowest]
    exact (congrArg SubmissionRing.fetchIndex htaken :)
  · have hlowest : p.lowestHeld r = some ((p.ring r).spanOffset (p.slot j).index) := by
      rw [Part.lowestHeld, List.min?_eq_some_iff]
      refine ⟨List.mem_map.2 ⟨j, hj, rfl⟩, fun m hm => ?_⟩
      obtain ⟨i, hi, rfl⟩ := List.mem_map.1 hm
      exact hleast i hi
    have hconsumer : (p.ringReturned r).consumer = (p.ring r).consumer :=
      (congrArg SubmissionRing.consumer htaken :)
    have hsize : (p.ringReturned r).size = (p.ring r).size := (congrArg SubmissionRing.size htaken :)
    rw [hring, hlowest]
    simp only [SubmissionRing.rewind]
    rw [← hsize]
    rfl

/-! ### The settlement that halts (R17) -/

/-- The HELD slots that a halt by slot `k` returns: all of the ring but the settled one. -/
theorem Part.haltedBy_heldSlots (p : Part) (k : Fin 8) (st : Status) (x : BitVec 32) :
    (p.haltedBy k st x).heldSlots r = (List.finRange 8).filter fun j =>
      j != k && (p.slot j).state == .held && (p.slot j).ring == r := by
  refine List.filter_congr fun j _ => ?_
  rw [p.haltedBy_slot k st x j, p.handedOn_slot k st x j]
  by_cases hj : j = k
  · simp only [hj, if_true, bne_self_eq_false, Bool.false_and]
    split <;> simp [Slot.empty, Slot.concluded]
  · obtain ⟨hstate, hring⟩ := p.told_state k st (p.slot j)
    rw [if_neg hj, hstate, hring, bne_iff_ne.2 hj, Bool.true_and]

theorem Part.handedOn_fetch (p : Part) (k : Fin 8) (st : Status) (x : BitVec 32) :
    (p.handedOn k st x).fetch.admission = p.fetch.admission ∧ (p.handedOn k st x).fetch.flight = p.fetch.flight := by
  rw [(p.handedOn_keeps k st x).fetch]
  exact ⟨p.completed_admission k st x, p.completed_flight k st x⟩

/-- Before the halt, the ring of the settled slot has its position DONE. -/
theorem Part.handedOn_ring_self (p : Part) (k : Fin 8) (st : Status) (x : BitVec 32) :
    (p.handedOn k st x).ring (p.slot k).ring = { (p.ring (p.slot k).ring).settleAt (p.slot k).index
        (linkOf (p.slot k).record st) with
      evictionBar := ((p.handedOn k st x).ring (p.slot k).ring).evictionBar } := by
  rw [(p.handedOn_keeps k st x).ring, p.completed_ring k st x, if_pos rfl]

theorem Part.haltedBy_ring_self (p : Part) (k : Fin 8) (st : Status) (x : BitVec 32) :
    (p.haltedBy k st x).ring (p.slot k).ring = { (p.ring (p.slot k).ring).settleAt (p.slot k).index
        (linkOf (p.slot k).record st) with
      state := .halted, haltedAt := some (p.slot k).index
      evictionBar := ((p.handedOn k st x).ring (p.slot k).ring).evictionBar } := by
  rw [Part.haltedBy, Part.modRing_ring, if_pos rfl, p.handedOn_ring_self k st x]

theorem SubmissionRing.settleAt_heldCount (r : SubmissionRing) (i : Nat) (m : LinkMark) :
    (r.settleAt i m).heldCount = r.heldCount - 1 := rfl

theorem SubmissionRing.settleAt_fetchIndex (r : SubmissionRing) (i : Nat) (m : LinkMark) :
    (r.settleAt i m).fetchIndex = r.fetchIndex ∧ (r.settleAt i m).size = r.size := ⟨rfl, rfl⟩

/-- Only the entry that a settlement gives up at once goes back to its ring; one with an error gives up none. -/
theorem Part.NoFlush.handedOn_cring (h : p.NoFlush) (herror : st.isError = true) (k : Fin 8) (x : BitVec 32) (c : Fin 8) :
    (p.handedOn k st x).cring c = p.cring c := by
  have hquiet : (p.slot k).quietly st = false := by
    cases st <;> simp_all [Slot.quietly, Status.isError]
  rw [(p.handedOn_keeps k st x).cring c, h.completed_cring, hquiet]
  simp

/-! ### How a slot comes to an error settlement (R17, R29, R37 to R40, R55, R66) -/

/-- `u`, before what follows at the same event, is `p` with slot `k` settled with `st` in `q`, the part as the event left
it; a slot of another ring is considered in `q` as it was in `p`, DEFERRED cleared where a tenure has ended. -/
structure Part.SettlesFrom (p : Part) (k : Fin 8) (st : Status) (ends : Bool) (q : Part) (x : BitVec 32) (u : Part) : Prop where
  comes : p.ComesToSettle k q
  engine : q.engine = p.engine
  fetch : q.fetch = p.fetch
  crings : ∀ c, q.cring c = p.cring c
  returns : q.stats.returns = p.stats.returns
  flush : p.NoFlush → q.NoFlush
  slots : ∀ j, j ≠ k → q.considered (q.slot j) = q.considered { p.slot j with
    deferred := if ends then false else (p.slot j).deferred }
  settled : (q.settle k st x).Keeps [.admin, .port, .notices, .compl, .stats] u
  settledCrings : ∀ c, u.cring c = (q.settle k st x).cring c
  settledReturns : u.stats.returns = (q.settle k st x).stats.returns

/-- A settlement with an error status in an ACTIVE ring under HALT policy, as the next state shows it. -/
structure Part.ShowsHalt (p : Part) (k : Fin 8) (st : Status) (r : Fin 8) (l : List (Fin 8)) (ends : Bool) (t : Part) : Prop where
  state : (t.ring r).state = .halted
  haltedAt : (t.ring r).haltedAt = some (p.slot k).index
  consumer : (t.ring r).consumer = ((p.ring r).settleAt (p.slot k).index (linkOf (p.slot k).record st)).consumer
  returned : ∀ j ∈ l, t.slot j = .empty
  others : ∀ j, j ≠ k → (p.slot j).ring ≠ r → t.slot j = t.considered { p.slot j with
    deferred := if ends then false else (p.slot j).deferred }
  heldCount : (t.ring r).heldCount = (p.ring r).heldCount - 1 - l.length
  returns : t.stats.returns = satSucc^[l.length] p.stats.returns
  still : l = [] → (t.ring r).fetchIndex = (p.ring r).fetchIndex
  back : ∀ j ∈ l, (∀ i ∈ l, (t.ring r).spanOffset (p.slot j).index ≤ (t.ring r).spanOffset (p.slot i).index) →
    (t.ring r).fetchIndex = (SubmissionRing.skipFetch { t.ring r with
      fetchIndex := ((t.ring r).consumer + (t.ring r).spanOffset (p.slot j).index) % (p.ring r).size }).fetchIndex
  admission : ∀ a, p.fetch.admission = some a → t.fetch.admission = if a.ring = r then none else some a
  flight : ∀ f, p.fetch.flight = some f → t.fetch.flight = some { f with discard := f.discard || f.ring == r }
  reserved : p.NoFlush → ∀ d, (t.cring d).reserved = (p.cring d).reserved
    - (l.countP fun j => (p.slot j).reservation == some d)
    - (p.fetch.admission.toList.countP fun a => a.ring == r && a.reservation == d)

theorem Part.told_fields (p : Part) (k : Fin 8) (st : Status) (s : Slot) : (p.told k st s).index = s.index
    ∧ (p.told k st s).reservation = s.reservation := by
  unfold Part.told
  split <;> exact ⟨rfl, rfl⟩

/-- A slot of another ring waits for no outcome of this one (R26). -/
theorem Part.told_of_other_ring {s : Slot} (h : s.ring ≠ (p.slot k).ring) (st : Status) : p.told k st s = s := by
  unfold Part.told
  rw [if_neg]
  simp [Part.awaits, h]

/-- A settlement leaves the other rings as they are, but for their bars. -/
theorem Part.settle_ring_other (p : Part) (k : Fin 8) (st : Status) (x : BitVec 32) {r : Fin 8} (hr : r ≠ (p.slot k).ring) :
    { (p.settle k st x).ring r with evictionBar := false } = { p.ring r with evictionBar := false } := by
  have hcompleted : { (p.completed k st x).ring r with evictionBar := false } = { p.ring r with evictionBar := false } := by
    rw [p.completed_ring k st x, if_neg hr]
  have hhanded : { (p.handedOn k st x).ring r with evictionBar := false } = { p.ring r with evictionBar := false } := by
    rw [(p.handedOn_keeps k st x).ring r, hcompleted]
  by_cases hhalts : p.Halts k st
  · have hhalted : (p.haltedBy k st x).ring r = (p.handedOn k st x).ring r := by
      rw [Part.haltedBy, Part.modRing_ring, if_neg hr]
    obtain ⟨herror, hactive, hpolicy⟩ := hhalts
    rw [Part.settle_of_halts herror hactive hpolicy, Part.considerSlots_ring, Part.haltReturns_ring, if_neg hr, hhalted]
    exact hhanded
  by_cases hhalted : st.isError = true ∧ (p.ring (p.slot k).ring).state = .halted
  · rw [Part.settle_of_halted hhalted.1 hhalted.2, Part.considerSlots_ring, Part.modRing_ring, if_neg hr]
    exact hhanded
  · rw [Part.settle_of_unhalted (Part.unhaltedBy_of_not_halts hhalts hhalted), Part.considerSlots_ring]
    exact hhanded

/-- Whether a slot of another ring is found fenced is not for the settlement to change (R28). -/
theorem Part.settle_considered_other (p : Part) (k : Fin 8) (st : Status) (x : BitVec 32) {s : Slot}
    (hs : s.ring ≠ (p.slot k).ring) : (p.settle k st x).considered s = p.considered s := by
  have hring := p.settle_ring_other k st x hs
  refine Part.considered_congr (by rw [(p.settle_keeps k st x).engine]) ?_ fun w => ?_
  · exact congrArg (fun r : SubmissionRing => { r with producer := 0, evictionBar := false, fetchIndex := 0 }) hring
  · obtain ⟨n, hw⟩ := ((Part.QueueOnly.refl p).settle k st x).windows w
    rw [hw]
    rfl

/-- What the slots held back in a halt are, seen from the part before the event. -/
theorem Part.ComesToSettle.heldSlots (h : p.ComesToSettle k q) (r : Fin 8) (st : Status) (x : BitVec 32) :
    (q.haltedBy k st x).heldSlots r = (List.finRange 8).filter fun j =>
      j != k && (p.slot j).state == .held && (p.slot j).ring == r := by
  rw [q.haltedBy_heldSlots k st x]
  refine List.filter_congr fun j _ => ?_
  by_cases hj : j = k
  · simp [hj]
  · have hother := h.others j hj
    have hstate : (q.slot j).state = (p.slot j).state := (congrArg Slot.state hother).trans rfl
    have hring : (q.slot j).ring = (p.slot j).ring := (congrArg Slot.ring hother).trans rfl
    rw [hstate, hring]

theorem Part.SettlesFrom.showsHalt {u : Part} {ends : Bool} {l : List (Fin 8)} (h : p.SettlesFrom k st ends q x u)
    (herror : st.isError = true) (hr : (p.slot k).ring = r) (hactive : (p.ring r).state = .active)
    (hpolicy : (p.ring r).policy = .halt)
    (hl : l = ((List.finRange 8).filter fun j => j != k && (p.slot j).state == .held && (p.slot j).ring == r)) :
    p.ShowsHalt k st r l ends u.react := by
  obtain ⟨hrecord, hring, hindex, -⟩ := h.comes.fields
  rw [hr] at hring
  have hsettle : q.settle k st x = ((q.haltedBy k st x).haltReturns r).considerSlots := by
    have hs := Part.settle_of_halts (p := q) (k := k) (x := x) herror (by rw [hring, h.comes.rings, hactive])
      (by rw [hring, h.comes.rings, hpolicy])
    rwa [hring] at hs
  set b := q.haltedBy k st x with hb
  have hheld : b.heldSlots r = l := (h.comes.heldSlots r st x).trans hl.symm
  have hbring : b.ring r = { (p.ring r).settleAt (p.slot k).index (linkOf (p.slot k).record st) with
      state := .halted, haltedAt := some (p.slot k).index, evictionBar := (b.ring r).evictionBar } := by
    have hself := q.haltedBy_ring_self k st x
    rw [hring, h.comes.rings, hindex, hrecord] at hself
    rw [hself]
  have htring : u.react.ring r = (b.haltReturns r).ring r := by
    rw [Part.react_ring, h.settled.ring r, hsettle, Part.considerSlots_ring]
  have hself := b.haltReturns_ring_self r
  rw [hheld] at hself
  have hspan (i : Nat) : (u.react.ring r).spanOffset i = (b.ring r).spanOffset i := by
    rw [htring, b.haltReturns_spanOffset]
  have hindices {j : Fin 8} (hj : j ∈ l) : (b.slot j).index = (p.slot j).index ∧ (b.slot j).reservation = (p.slot j).reservation := by
    have hne : j ≠ k := by
      rw [hl] at hj
      simp only [List.mem_filter, Bool.and_eq_true, bne_iff_ne] at hj
      exact hj.2.1.1
    have hother := h.comes.others j hne
    rw [hb, q.haltedBy_slot, q.handedOn_slot, if_neg hne, (q.told_fields k st _).1, (q.told_fields k st _).2]
    exact ⟨(congrArg Slot.index hother).trans rfl, (congrArg Slot.reservation hother).trans rfl⟩
  have htfetch : u.react.fetch = (b.haltReturns r).fetch := by
    rw [Part.react_fetch, h.settled.fetch, hsettle, Part.considerSlots_fetch]
  have hbfetch : b.fetch.admission = p.fetch.admission ∧ b.fetch.flight = p.fetch.flight := by
    obtain ⟨hadmission, hflight⟩ := q.handedOn_fetch k st x
    rw [h.fetch] at hadmission hflight
    exact ⟨hadmission, hflight⟩
  have htslot (j : Fin 8) : u.react.slot j = (q.settle k st x).slot j := by
    rw [Part.react_slot, h.settled.slot j]
  refine ⟨?_, ?_, ?_, fun j hj => ?_, fun j hj hother => ?_, ?_, ?_, fun hnone => ?_, fun j hj hleast => ?_, fun a ha => ?_,
    fun f hf => ?_, fun hflush d => ?_⟩
  · rw [htring, hself, hbring]
  · rw [htring, hself, hbring]
  · rw [htring, hself, hbring]
  · have hjheld : j ∈ b.heldSlots r := by rwa [hheld]
    rw [htslot, hsettle, Part.considerSlots_slot, Part.haltReturns_slot, if_pos (Part.mem_heldSlots.1 hjheld),
      Part.considered_empty]
  · have hqring : (q.slot j).ring ≠ (q.slot k).ring := by
      have hsame : (q.slot j).ring = (p.slot j).ring := (congrArg Slot.ring (h.comes.others j hj)).trans rfl
      rwa [hring, hsame]
    have hconsidered (y : Slot) (hy : y.ring = (p.slot j).ring) : u.react.considered y = q.considered y := by
      have hne : y.ring ≠ (q.slot k).ring := by rwa [hy, hring]
      have hkeeps : (q.settle k st x).Keeps [.admin, .port, .notices, .compl, .stats, .host] u.react :=
        (Part.keeps_react (by simp)).2 (h.settled.mono (by simp))
      rw [← q.settle_considered_other k st x hne]
      exact Part.considered_congr (by rw [hkeeps.engine]) (by rw [hkeeps.ring]) fun w => by rw [hkeeps.window w]
    rw [htslot, (Part.settle_slot_other hj st x).2 fun hh => hqring hh.2.2, Part.told_of_other_ring hqring,
      q.settle_considered_other k st x hqring, h.slots j hj]
    exact (hconsidered { p.slot j with deferred := if ends then false else (p.slot j).deferred } rfl).symm
  · rw [htring, hself, hbring]
    rfl
  · rw [Part.react_stats, h.settledReturns, hsettle, Part.considerSlots_stats, b.haltReturns_stats, hheld]
    change satSucc^[l.length] (q.handedOn k st x).stats.returns = _
    rw [q.handedOn_stats k st x, h.returns]
  · rw [htring, (b.haltReturns_fetchIndex r).1 (hheld.trans hnone), hbring]
    rfl
  · have hback := (b.haltReturns_fetchIndex r).2 j (by rwa [hheld]) fun i hi => by
      rw [hheld] at hi
      rw [(hindices hj).1, (hindices hi).1, ← hspan, ← hspan]
      exact hleast i hi
    have hsize : (b.ring r).size = (p.ring r).size := by
      rw [hbring]
      rfl
    rw [(hindices hj).1, hsize, ← htring, ← hspan] at hback
    exact hback
  · rw [htfetch, b.haltReturns_admission, hbfetch.1, ha, Option.filter_some]
    by_cases har : a.ring = r <;> simp [har]
  · rw [htfetch, b.haltReturns_flight, hbfetch.2, hf]
    rfl
  · have hbcring (d : Fin 8) : b.cring d = p.cring d :=
      ((h.flush hflush).handedOn_cring herror k x d).trans (h.crings d)
    have hbflush : b.NoFlush := (h.flush hflush).of_admin
      (((q.handedOn_keeps k st x).admin).trans ((h.flush hflush).completed_admin k st x))
    have hcount : (l.countP fun j => (b.slot j).reservation == some d) = l.countP fun j => (p.slot j).reservation == some d :=
      List.countP_congr fun j hj => by rw [(hindices hj).2]
    rw [Part.react_cring, h.settledCrings, hsettle, Part.considerSlots_cring, hbflush.haltReturns_cring, hheld, hcount,
      hbfetch.1, hbcring]

end Sys2Proof.Machine
end

section
/-! Every way a slot settles with an error halts its ring as R17 says: O39. -/

-- One declaration at a time: every further thread counts against the memory the check allows.
set_option Elab.async false

namespace Sys2Proof.Machine

variable {p q : Part} {o : Operation} {k : Fin 8} {e : OperationEnd} {n : Nat} {st : Status} {x : BitVec 32} {r : Fin 8}
  {b : Bool} {c : Instr}

/-! ### What a report leaves beside its own slot -/

theorem Part.detach_cring (p : Part) (c : DetachCause) (d : Fin 8) : (p.detach c).cring d = p.cring d := by
  have hkeeps : p.Keeps [.port, .notices, .stats] (p.portDetached.pendDetached c) := by simp
  refine Eq.trans ?_ (hkeeps.cring d)
  rw [Part.detach, Part.finishDetach]
  split <;> rfl

theorem Part.detach_noFlush (h : p.NoFlush) (c : DetachCause) : (p.detach c).NoFlush := by
  have hkeeps : p.Keeps [.port, .notices, .stats] (p.portDetached.pendDetached c) := by simp
  rw [Part.detach, Part.finishDetach]
  split
  · intro f hf
    cases hf
  · exact h.of_admin hkeeps.admin

theorem Part.raiseError_cring (p : Part) (d : Fin 8) : p.raiseError.cring d = p.cring d := by
  by_cases h : p.port.errorCount = 15
  · rw [Part.raiseError_limit h, Part.leaveAtLimit]
    split
    iterate 2 exact Part.detach_cring _ _ d
    all_goals rfl
  · rw [Part.raiseError_below h]
    rfl

theorem Part.raiseError_noFlush (h : p.NoFlush) : p.raiseError.NoFlush := by
  by_cases hlimit : p.port.errorCount = 15
  · rw [Part.raiseError_limit hlimit, Part.leaveAtLimit]
    split
    iterate 2 exact Part.detach_noFlush (p := p.onPort Port.raise) h _
    all_goals exact h
  · rw [Part.raiseError_below hlimit]
    exact h

theorem Part.verdict_cring (p : Part) (o : Operation) (e : OperationEnd) (d : Fin 8) :
    (p.verdict o e).cring d = p.cring d := by
  by_cases he : e = .protocolFault
  · subst he
    obtain ⟨q, h, hq⟩ := p.verdict_protocolFault o
    rw [h, q.raiseError_cring, hq.cring d]
  · have hkeeps : p.Keeps [.windows, .stats, .port, .sched, .notices] (p.verdict o e) :=
      p.verdict_keeps_of o (by simp) (by simp) (fun h => absurd h he)
    exact hkeeps.cring d

theorem Part.NoFlush.verdict (h : p.NoFlush) (o : Operation) (e : OperationEnd) : (p.verdict o e).NoFlush := by
  by_cases he : e = .protocolFault
  · subst he
    obtain ⟨q, hv, hq⟩ := p.verdict_protocolFault o
    rw [hv]
    exact Part.raiseError_noFlush (h.of_admin hq.admin)
  · have hkeeps : p.Keeps [.windows, .stats, .port, .sched, .notices] (p.verdict o e) :=
      p.verdict_keeps_of o (by simp) (by simp) (fun h => absurd h he)
    exact h.of_admin hkeeps.admin

/-- A verdict that fences considers the slots; considered once more, they are as before the verdict. -/
theorem Part.verdict_considered (p : Part) (o : Operation) (e : OperationEnd) (j : Fin 8) :
    (p.verdict o e).considered ((p.verdict o e).slot j) = (p.verdict o e).considered (p.slot j) := by
  by_cases he : e = .timeout
  · subst he
    cases hw : o.window with
    | none =>
      have hkeeps : p.Keeps [.windows, .stats] (p.verdict o .timeout) := by
        simp only [Part.verdict, Part.onOperationWindow_of_none hw]
        simp
      rw [hkeeps.slot j]
    | some w =>
      rcases p.verdict_fences hw with ⟨-, hf⟩ | ⟨-, hkeeps, -⟩
      · rw [hf.slots j, Part.considered_considered]
      · rw [hkeeps.slot j]
  · have hkeeps : p.Keeps [.windows, .stats, .port, .admin, .notices, .compl] (p.verdict o e) :=
      p.verdict_keeps_of o (by simp) (fun h => absurd h he) (by simp)
    rw [hkeeps.slot j]

/-- What a report that is about to settle its slot has left of the rest of the part. -/
structure Part.LeavesRest (p : Part) (k : Fin 8) (q : Part) : Prop where
  comes : p.ComesToSettle k q
  engine : q.engine = p.engine
  fetch : q.fetch = p.fetch
  crings : ∀ c, q.cring c = p.cring c
  returns : q.stats.returns = p.stats.returns
  flush : p.NoFlush → q.NoFlush
  slots : ∀ j, j ≠ k → q.considered (q.slot j) = q.considered (p.slot j)

theorem Part.takesReport_leavesRest (p : Part) (o : Operation) (k : Fin 8) (e : OperationEnd) (n : Nat) (b : Bool) :
    p.LeavesRest k (p.takesReport o k e n b) := by
  have hkeeps : (p.masterIdle.verdict o e).Keeps [.windows, .stats, .sched] (p.takesReport o k e n b) := by
    rw [Part.takesReport, Part.keeps_modSlot _ _ (by simp)]
    exact (p.pageLeft_verdict o k e n b).mono (by simp)
  have hverdict := p.masterIdle.verdict_keeps o e
  have hleft := p.pageLeft_keeps o k e n b
  refine ⟨.takesReport p o k e n b, hkeeps.engine.trans hverdict.engine, hkeeps.fetch.trans hverdict.fetch,
    fun d => (hkeeps.cring d).trans (p.masterIdle.verdict_cring o e d), ?_, fun h => ?_, fun j hj => ?_⟩
  · have hstats : (p.takesReport o k e n b).stats = (p.reported o e).stats := by
      rw [Part.takesReport, Part.modSlot_stats, hleft.stats]
    rw [hstats, p.reported_stats]
  · have hflush : p.masterIdle.NoFlush := h
    exact (hflush.verdict o e).of_admin hkeeps.admin
  · have hslot : (p.takesReport o k e n b).slot j = (p.masterIdle.verdict o e).slot j := by
      rw [Part.takesReport, Part.modSlot_slot, if_neg hj, hleft.slot j, (p.reported_keeps o e).slot j]
    have hconsidered (s : Slot) : (p.takesReport o k e n b).considered s = (p.masterIdle.verdict o e).considered s := by
      refine Part.considered_congr (by rw [hkeeps.engine]) (by rw [hkeeps.ring]) fun w => ?_
      rw [Part.takesReport, Part.modSlot_window, (p.pageLeft_window o k e n b w).1, (p.reported_keeps o e).window w]
      rfl
    rw [hslot, hconsidered, hconsidered]
    exact p.masterIdle.verdict_considered o e j

/-! ### Every error settlement (R17) -/

/-- The tenure ends with this command. -/
def endsTenure (c : Instr) : Bool := c = .gntDrop ∨ c = .linkLoss ∨ c = .backplaneReset

theorem Part.SettlesFrom.of_report {q₀ : Part} (hq : p.Keeps [.host, .master, .out] q₀) (o : Operation) (e : OperationEnd)
    (n : Nat) (b : Bool) : p.SettlesFrom k st false (q₀.takesReport o k e n b) x ((q₀.takesReport o k e n b).settle k st x) := by
  obtain ⟨hcomes, hengine, hfetch, hcrings, hreturns, hflush, hslots⟩ := q₀.takesReport_leavesRest o k e n b
  refine ⟨.of_keeps hq hcomes, hengine.trans hq.engine, hfetch.trans hq.fetch, fun d => (hcrings d).trans (hq.cring d),
    hreturns.trans (congrArg Stats.returns hq.stats), fun h => hflush (h.of_admin hq.admin), fun j hj => ?_,
    Part.keeps_self _ _, fun _ => rfl, rfl⟩
  rw [hslots j hj, hq.slot j]
  rfl

/-- A burst that a loss of the backplane cuts settles its slot, and the port goes on to `u`. -/
theorem Part.SettlesFrom.of_cut {q₀ u : Part} (hq : p.Keeps [.port, .notices] q₀) {ph : Phase} (h : Driving p o k ph)
    (he : e.IsCut) (hno : o.opcode ≠ .read ∨ o.acked = 0) (halive : p.engine.state ≠ .failed)
    (hu : (q₀.cut e).Keeps [.admin, .port, .notices, .compl, .stats] u) (hcrings : ∀ d, u.cring d = (q₀.cut e).cring d)
    (hreturns : u.stats.returns = (q₀.cut e).stats.returns) :
    ∃ q x, p.SettlesFrom k e.failure true q x u := by
  obtain ⟨hstate, hop, hslot, -⟩ := h
  have hsettles := Part.cut_settles (p := q₀) he (by rw [hq.master, hstate]) (by rw [hq.master, hop]) hslot hno
    (by rwa [hq.engine])
  rw [hsettles] at hu hcrings hreturns
  have hlost := q₀.lost_keeps
  obtain ⟨hcomes, hengine, hfetch, hcrings', hreturns', hflush, hslots⟩ :=
    q₀.lost.takesReport_leavesRest o k e (o.acked * o.width) true
  refine ⟨_, _, ⟨((Part.ComesToSettle.of_kept (hq.mono (by simp))).trans (.lost q₀ k)).trans hcomes, ?_, ?_, fun d => ?_, ?_,
    fun hf => hflush (hf.of_admin (hlost.admin.trans hq.admin)), fun j hj => ?_, hu, hcrings, hreturns⟩⟩
  · rw [hengine, hlost.engine, hq.engine]
  · rw [hfetch, hlost.fetch, hq.fetch]
  · rw [hcrings', hlost.cring d, hq.cring d]
  · rw [hreturns', hlost.stats, hq.stats]
  · rw [hslots j hj, q₀.lost_slot j, hq.slot j]
    rfl

theorem Reports.keeps_tenure (h : Reports p o k c e n) : endsTenure c = false := by
  rcases h with ⟨⟨_, rfl⟩, -⟩ | ⟨⟨_, rfl⟩, -⟩ | ⟨h, -⟩ | ⟨rfl, -⟩ | ⟨h, -⟩
  iterate 2 simp [endsTenure]
  · rcases h with ⟨⟨_, rfl⟩, -⟩ | ⟨⟨_, rfl⟩, -⟩ | ⟨⟨_, _, rfl⟩, -⟩ | ⟨rfl, -⟩ <;> simp [endsTenure]
  · simp [endsTenure]
  · rcases h with ⟨rfl | rfl, -⟩ | ⟨rfl, -⟩ <;> simp [endsTenure]

theorem Part.detach_returns (p : Part) (c : DetachCause) : (p.detach c).stats.returns = p.stats.returns := by
  rw [p.detach_stats c]

theorem Part.afterTenure_cring (p : Part) (d : Fin 8) : p.afterTenure.cring d = p.cring d := by
  unfold Part.afterTenure
  split
  · rfl
  · split
    · exact p.detach_cring _ d
    · rfl

theorem Part.afterTenure_returns (p : Part) : p.afterTenure.stats.returns = p.stats.returns := by
  unfold Part.afterTenure
  split
  · rfl
  · split
    · exact p.detach_returns _
    · rfl

/-- A report whose end settles the slot. -/
theorem Reports.settlesFrom (h : Reports p o k c e n) (halive : p.engine.state ≠ .failed)
    (hends : ∀ q, p.Keeps [.host, .master, .out] q → q.endsWith o k e n = some (st, x)) :
    ∃ q x u, p.SettlesFrom k st (endsTenure c) q x u ∧ effect c p = u.react := by
  obtain ⟨q, hq, heffect⟩ := h.effect_eq
  have halive' : q.engine.state ≠ .failed := by rwa [hq.keeps.engine]
  rw [Part.reportBurst_of_settles halive' ((q.reportEnd_eq o k e n).trans (hends q hq.keeps))] at heffect
  rw [h.keeps_tenure]
  exact ⟨_, x, _, .of_report hq.keeps o e n true, heffect⟩

/-- Every way a slot settles with an error is a settlement from the part as the event left it. -/
theorem ErrorSettles.settlesFrom (h : ErrorSettles p c k st) :
    ∃ q x u, p.SettlesFrom k st (endsTenure c) q x u ∧ effect c p = u.react := by
  obtain ⟨-, halive, h⟩ := h
  rcases h with ⟨rfl, hrunning, hage, hstatus, hfirst⟩ | ⟨o, e, n, hreports, hclean, hretry, rfl⟩ |
    ⟨o, n, hreports, rfl, hlimit⟩ | ⟨o, rfl, hfailable, hstate, hop, hslot, rfl⟩ | ⟨⟨o, ph, hdriving, hno⟩, hcut⟩
  · have hnext : p.settleNext = some k := find?_of_first hage (by simp [hstatus]) hfirst
    refine ⟨p, 0#32, p.settle k st 0#32, ?_, by simp [effect, Part.settleOnly, hrunning, hnext, hstatus]⟩
    exact ⟨.refl p k, rfl, rfl, fun _ => rfl, rfl, id, fun _ _ => by simp [endsTenure], Part.keeps_self _ _, fun _ => rfl, rfl⟩
  · refine hreports.settlesFrom halive (x := o.oldValue.getD 0#32) fun q _ => ?_
    cases e with
    | clean => exact absurd rfl hclean
    | retry => exact absurd rfl hretry
    | _ => rfl
  · refine hreports.settlesFrom halive (x := 0#32) fun q hq => ?_
    simp only [Part.endsWith, hq.slot k, hq.ring, hlimit, if_true]
  · obtain ⟨q, hq, heffect⟩ := effect_failedDelivery hfailable hstate hop hslot
    have halive' : q.engine.state ≠ .failed := by rwa [hq.engine]
    rw [Part.reportBurst_of_settles halive' (st := .hostWriteError) (x := o.oldValue.getD 0#32) rfl] at heffect
    exact ⟨_, _, _, .of_report hq o o.ending (o.acked * o.width) false, heffect⟩
  · rcases hcut with ⟨rfl, rfl, hgnt, htenure, hstate⟩ | ⟨rfl, rfl, hstate, hclock⟩ | ⟨rfl, rfl, hstate, hrst⟩
    · set p₀ := p.onPort fun x => { x with gnt := false } with hp₀
      set u := ((p₀.cut .grantLost).onPort Port.lostGrant).afterTenure with hu
      have heffect : effect .gntDrop p = u.react := by
        have hnot : ¬(p.port.state = .releasing ∧ p.port.req = false) := by
          rintro ⟨hr, hreq⟩
          rcases hstate with h | h
          · exact h hr
          · simp [hreq] at h
        rw [hu, ← Part.loseGrant_eq]
        simp only [effect, Part.grantDrops, hgnt, if_true, Part.onPort_port, htenure, hnot, if_false]
        rfl
      obtain ⟨q, x, hsettles⟩ := Part.SettlesFrom.of_cut (q₀ := p₀) (u := u) (by simp [hp₀]) hdriving (.inl rfl) hno halive
        (((Part.keeps_onPort Port.lostGrant (by simp)).2 (Part.keeps_self _ _)).trans (Part.afterTenure_touches _))
        (fun d => Part.afterTenure_cring _ d) (Part.afterTenure_returns _)
      exact ⟨q, x, u, hsettles, heffect⟩
    · set p₀ := p.onPort fun x => { x with clockPresent := false } with hp₀
      have heffect : effect .linkLoss p = ((p₀.cut .linkLost).detach .linkLost).react :=
        (if_pos hclock).trans (Part.loseLink_eq (p := p₀) hstate .linkLost)
      obtain ⟨q, x, hsettles⟩ := Part.SettlesFrom.of_cut (q₀ := p₀) (by simp [hp₀]) hdriving (.inr rfl) hno halive
        ((p₀.cut .linkLost).detach_keeps .linkLost) ((p₀.cut .linkLost).detach_cring _) ((p₀.cut .linkLost).detach_returns _)
      exact ⟨q, x, _, hsettles, heffect⟩
    · set p₀ := (p.onPort fun x => { x with rst := true }).dropReceiving with hp₀
      have heffect : effect .backplaneReset p = ((p₀.cut .linkLost).detach .backplaneReset).react :=
        (if_neg (by simp [hrst])).trans (Part.loseLink_eq (p := p₀) hstate .backplaneReset)
      obtain ⟨q, x, hsettles⟩ := Part.SettlesFrom.of_cut (q₀ := p₀) (by simp [hp₀]) hdriving (.inr rfl) hno halive
        ((p₀.cut .linkLost).detach_keeps .backplaneReset) ((p₀.cut .linkLost).detach_cring _)
        ((p₀.cut .linkLost).detach_returns _)
      exact ⟨q, x, _, hsettles, heffect⟩

/-- Settles O39. -/
theorem haltByErrorReturnsHeldSlots : Obligations.HaltByErrorReturnsHeldSlots := by
  intro s c k st r l h hr hl
  obtain ⟨q, x, u, hsettles, heffect⟩ := h.settlesFrom
  refine ⟨fun hactive hpolicy => ?_, fun hhalted => ?_⟩
  · obtain ⟨hstate, hhaltedAt, hconsumer, hreturned, hothers, hheld, hreturns, hstill, hback, hadmission, hflight, hreserved⟩ :=
      hsettles.showsHalt h.1 hr hactive hpolicy hl
    refine ⟨_, exec_of_effect heffect, hstate, hhaltedAt, hconsumer, hreturned, fun j hj hother => ?_, hheld, hreturns, hstill,
      hback, hadmission, hflight, hreserved⟩
    rw [hothers j hj hother]
    simp [endsTenure]
  · obtain ⟨-, hring, hindex, -⟩ := hsettles.comes.fields
    rw [hr] at hring
    have hs := Part.settle_of_halted (p := q) (k := k) (x := x) h.1 (by rw [hring, hsettles.comes.rings, hhalted])
    have htring : u.react.ring r = { (q.handedOn k st x).ring r with
        haltedAt := some (((q.handedOn k st x).ring r).haltedAt.getD (s.part.slot k).index) } := by
      rw [Part.react_ring, hsettles.settled.ring r, hs, Part.considerSlots_ring, hring, Part.modRing_ring, if_pos rfl, hindex]
    obtain ⟨hstate, -, hhaltedAt⟩ := q.handedOn_state k st x r
    rw [hsettles.comes.rings] at hstate hhaltedAt
    refine ⟨_, exec_of_effect heffect, ?_, ?_⟩
    · rw [htring]
      exact hstate.trans hhalted
    · rw [htring, hhaltedAt]

end Sys2Proof.Machine
end

section
/-! A ring is chosen and its record asked for (R6 to R8, R115): O22. -/

-- One declaration at a time: every further thread counts against the memory the check allows.
set_option Elab.async false

namespace Sys2Proof.Machine

variable {p q : Part} {r : Fin 8}

/-! ### Without a record on its way no chain hold comes (R45) -/

/-- No record is on its way, and no chain hold stands. -/
def Part.NoneComes (p : Part) : Prop :=
  p.fetch.admission = none ∧ p.fetch.flight = none ∧ p.port.chainHold = none

theorem Part.NoneComes.settle (h : p.NoneComes) (k : Fin 8) (st : Status) (x : BitVec 32) : (p.settle k st x).NoneComes := by
  obtain ⟨hadmission, hflight, hhold⟩ := h
  obtain ⟨hhandedAdmission, hhandedFlight⟩ := p.handedOn_fetch k st x
  rw [hadmission] at hhandedAdmission
  rw [hflight] at hhandedFlight
  have hhanded : (p.handedOn k st x).port.chainHold = none := by
    rw [Part.handedOn, Part.beginHold, if_neg, (p.completed_keeps k st x).port, hhold]
    rw [p.completed_flight, p.completed_admission, hadmission, hflight]
    simp
  rcases p.settle_cases k st x with ⟨-, h⟩ | ⟨-, q, h, hq⟩
  · have hhalted : (p.haltedBy k st x).fetch.admission = none ∧ (p.haltedBy k st x).fetch.flight = none :=
      ⟨hhandedAdmission, hhandedFlight⟩
    rw [h]
    refine ⟨?_, ?_, ?_⟩
    · rw [Part.considerSlots_fetch, Part.haltReturns_admission, hhalted.1]
      rfl
    · rw [Part.considerSlots_fetch, Part.haltReturns_flight, hhalted.2]
      rfl
    · rw [Part.considerSlots_port]
      exact Part.haltReturns_chainHold _ _ hhanded
  · rw [h]
    refine ⟨?_, ?_, ?_⟩
    · rw [Part.considerSlots_fetch, hq.admission, hhandedAdmission]
    · rw [Part.considerSlots_fetch, hq.flight, hhandedFlight]
    · rw [Part.considerSlots_port, hq.keeps.port, hhanded]

theorem Part.NoneComes.settlesInto (h : p.NoneComes) (n : Nat) :
    Part.settlesInto (fun q => q.port.chainHold.isSome) n p = false := by
  induction n generalizing p with
  | zero => simp [Part.settlesInto, h.2.2]
  | succ n ih =>
    simp only [Part.settlesInto, h.2.2, Option.isSome_none, Bool.false_or]
    split
    · split
      · split
        · exact ih (h.settle _ _ _)
        · rfl
      · rfl
    · rfl

theorem Part.NoneComes.noHoldComes (h : p.NoneComes) : p.noHoldComes = true := by
  have hview : p.holdView.NoneComes := h
  rw [Part.noHoldComes, hview.settlesInto]
  rfl

theorem Part.noHoldComes_of_hold (h : p.port.chainHold.isSome = true) : p.noHoldComes = false := by
  have hview : Part.settlesInto (fun q => q.port.chainHold.isSome) 8 p.holdView = true := Part.settlesInto_of h
  rw [Part.noHoldComes, hview]
  rfl

/-! ### The choice (R7) -/

theorem idxOf_searchOrder : ∀ last r : Fin 8, (searchOrder last).idxOf r = (r - (last + 1)).val := by decide

theorem mem_searchOrder : ∀ last r : Fin 8, r ∈ searchOrder last := by decide

/-- The candidate of the most urgent class that comes first after the pointer is chosen. -/
theorem Part.ringChoice_eq (hr : p.candidate r = true) (hcls : ∀ q, p.candidate q = true → (p.ring r).cls ≤ (p.ring q).cls)
    (hfirst : ∀ q, p.candidate q = true → (p.ring q).cls = (p.ring r).cls →
      (r - (p.fetch.lastChosen + 1)).val ≤ (q - (p.fetch.lastChosen + 1)).val) : p.ringChoice = some r := by
  have hmin : ((((searchOrder p.fetch.lastChosen).filter fun r => p.candidate r).map fun r => (p.ring r).cls)).min? =
      some (p.ring r).cls := by
    rw [List.min?_eq_some_iff]
    refine ⟨List.mem_map.2 ⟨r, List.mem_filter.2 ⟨mem_searchOrder _ r, hr⟩, rfl⟩, fun c hc => ?_⟩
    obtain ⟨q, hq, rfl⟩ := List.mem_map.1 hc
    exact hcls q (List.mem_filter.1 hq).2
  simp only [Part.ringChoice, hmin]
  rw [List.find?_filter]
  refine find?_of_first (mem_searchOrder _ r) (by simp [hr]) fun q _ hq => ?_
  obtain ⟨hcandidate, hclass⟩ := of_decide_eq_true hq
  rw [idxOf_searchOrder, idxOf_searchOrder]
  exact hfirst q hcandidate (beq_iff_eq.1 hclass)

theorem Part.ringChoice_none (h : ∀ q, p.candidate q = false) : p.ringChoice = none := by
  simp [Part.ringChoice, h]

/-! ### What stays settled -/

/-- Nothing is due beside the port's moves where no ring's held count has come to 0 and what waits for an
entry or a command is as it was. -/
theorem Part.NothingDue.of_same (h : p.NothingDue) (hengine : q.engine = p.engine) (hadmin : q.admin = p.admin)
    (hheld : ∀ r, (q.ring r).heldCount = 0 → (p.ring r).heldCount = 0) (hfifo : q.compl.fifo = p.compl.fifo)
    (hadminHeld : q.compl.adminHeld = p.compl.adminHeld) (hfree : q.adminFree = p.adminFree)
    (hnotices : q.notices = p.notices) (haccess : ∀ x, p.hasAccess x = true → q.hasAccess x = true) :
    q.NothingDue := by
  have hasked (x : Source) (hx : q.hasAccess x = false) : p.hasAccess x = false :=
    Bool.eq_false_iff.2 fun h => by rw [haccess x h] at hx; exact Bool.noConfusion hx
  refine ⟨fun ⟨f, hf, hstop, hempty, halive⟩ => h.capture ⟨f, hadmin ▸ hf, hstop, hheld f.ring hempty, hengine ▸ halive⟩,
    fun ⟨hworking, hno, hwaits⟩ => h.posting ⟨hengine ▸ hworking, hasked _ hno, hfifo ▸ hwaits⟩,
    fun ⟨hworking, hno, hwaits⟩ => h.adminPosting ⟨hengine ▸ hworking, hasked _ hno, hadminHeld ▸ hwaits⟩, ?_, ?_⟩
  · rw [hengine, hnotices]
    exact h.notice
  · rw [Part.commandDue, hengine, hadmin, hfree]
    exact h.command

/-- The port stays still where the settlements to come are the same and no chain hold that was to come, or
stood, is gone. -/
theorem Part.portStill.of_same (h : p.portStill) (hview : q.settleView = p.settleView) (hmaster : q.master = p.master)
    (hport : q.port = p.port) (hhold : p.noHoldComes = false → q.noHoldComes = false) : q.portStill := by
  unfold Part.portStill at *
  rw [hport, hmaster, Part.reportedSet_congr hview, Part.setStaysEmpty_congr hview]
  split at h
  case h_3 =>
    refine fun ⟨hidle, hempty, hno⟩ => h ⟨hidle, hempty, ?_⟩
    by_contra hcomes
    rw [hhold (by simpa using hcomes)] at hno
    exact Bool.noConfusion hno
  all_goals exact h

/-- Settles O22. -/
theorem ringChoiceTakesTheNextUrgentCandidate : Obligations.RingChoiceTakesTheNextUrgentCandidate := by
  refine ⟨fun s r hs hrunning hadmission hflight hr hcls hfirst => ?_, fun s hno => exec_of_effect ?_⟩
  · have hchoice := Part.ringChoice_eq hr hcls hfirst
    set q := s.part.chooseRing r with hq
    have heffect : effect .ringChoice s.part = q.react := by
      simp [effect, Part.choose, Part.mayChoose, hrunning, hadmission, hflight, hchoice, hq]
    have hkeeps : s.part.Keeps [.fetch, .compl, .host] q := by
      simp [hq, Part.chooseRing]
    have hring (x : Fin 8) : q.ring x = s.part.ring x := by
      rw [hq]
      exact Part.ask_ring _ _ _ x
    have hview : q.settleView = s.part.settleView :=
      Part.settleView_congr (by rw [hkeeps.engine]) hkeeps.sched (fun x => by rw [hring x]) fun w => by rw [hkeeps.window w]
    have hnone : s.part.noHoldComes = false → q.noHoldComes = false := fun hcomes => by
      refine Part.noHoldComes_of_hold ?_
      rw [hkeeps.port, Option.isSome_iff_ne_none]
      intro hhold
      rw [Part.NoneComes.noHoldComes ⟨hadmission, hflight, hhold⟩] at hcomes
      exact Bool.noConfusion hcomes
    have hdue : q.NothingDue := hs.nothingDue.of_same hkeeps.engine hkeeps.admin (fun x => by rw [hring x]; exact id) rfl rfl rfl
      hkeeps.notices fun x hx => Part.hasAccess_ask hx
    obtain ⟨hstill, hlevel, -⟩ := settled_iff.1 hs
    have hreact : q.react = q := by
      refine hdue.react_of_still (hstill.of_same hview hkeeps.master hkeeps.port hnone) ?_
      rw [hkeeps.port, Part.requestLevel_congr hview]
      exact hlevel
    rw [hreact] at heffect
    refine ⟨_, exec_of_effect heffect, rfl, fun c => ?_, ?_, onlyChanges_iff.2 ⟨rfl, hkeeps⟩⟩
    · refine (Part.modCring_cring s.part _ c _).trans ?_
      by_cases hc : c = (s.part.ring r).bound
      · rw [if_pos hc, if_pos hc]
      · rw [if_neg hc, if_neg hc]
        rfl
    · exact (Part.ask_request _ _ _ _).trans (if_pos rfl)
  · unfold effect Part.choose
    dsimp only
    split
    · next hmay =>
      simp only [Part.mayChoose, Bool.and_eq_true, beq_iff_eq, Option.isNone_iff_eq_none] at hmay
      obtain ⟨⟨hrunning, hadmission⟩, hflight⟩ := hmay
      rcases hno with h | h | h | h
      · exact absurd hrunning h
      · simp [hadmission] at h
      · simp [hflight] at h
      · rw [Part.ringChoice_none h]
    · rfl

end Sys2Proof.Machine
end

section
/-! The Selection hands the Master the next burst of the slot that R32 chooses: O28. -/

-- One declaration at a time: every further thread counts against the memory the check allows.
set_option Elab.async false

namespace Sys2Proof.Machine

variable {p q : Part} {o k : Fin 8} {passed : Option (Fin 8)}

/-! ### The choice (R31 to R33) -/

/-- Of the members of a filtered list, the one whose place in the list is least is found first. -/
theorem find?_filter_of_first {α : Type} [DecidableEq α] {l : List α} {f g : α → Bool} {a : α} (ha : a ∈ l.filter f)
    (hg : g a = true) (hfirst : ∀ b ∈ l.filter f, g b = true → l.idxOf a ≤ l.idxOf b) :
    (l.filter f).find? g = some a := by
  rw [List.find?_filter]
  obtain ⟨hmem, hf⟩ := List.mem_filter.1 ha
  refine find?_of_first hmem (decide_eq_true ⟨hf, hg⟩) fun b hb hboth => ?_
  obtain ⟨hfb, hgb⟩ := of_decide_eq_true hboth
  exact hfirst b (List.mem_filter.2 ⟨hb, hfb⟩) hgb

/-- The members of the bus-eligible set that are of the class of slot `o`. -/
def Part.sameClass (p : Part) (o : Fin 8) : List (Fin 8) := p.busSet.filter fun j => (p.slot j).cls == (p.slot o).cls

theorem Part.mem_sameClass : k ∈ p.sameClass o ↔ k ∈ p.busSet ∧ (p.slot k).cls = (p.slot o).cls := by
  simp [Part.sameClass]

/-- A first choice that stands (R33): a page hit, a DIRECT window, a NOTICE_SEND or a slot passed over enough. -/
def Part.firstStands (p : Part) (o : Fin 8) : Bool :=
  p.pageHit (p.slot o) || p.directWindow (p.slot o) || recOpcode (p.slot o).record == some .noticeSend
    || (p.slot o).passes == passLimit

/-- The page hit that may go before the first choice (R33). -/
def Part.goesBefore (p : Part) (k : Fin 8) : Bool :=
  (p.ring (p.slot k).ring).order == .relaxed && p.pageHit (p.slot k)

/-- The oldest slot of the most urgent class, or the oldest page hit of its class before it. -/
theorem Part.choice_eq (ho : o ∈ p.busSet) (hcls : ∀ j ∈ p.busSet, (p.slot o).cls ≤ (p.slot j).cls)
    (holdest : ∀ j ∈ p.busSet, (p.slot j).cls = (p.slot o).cls → p.sched.age.idxOf o ≤ p.sched.age.idxOf j) :
    p.choice = if p.firstStands o then some (o, none)
      else match (p.sameClass o).find? p.goesBefore with
        | some k => some (k, some o)
        | none => some (o, none) := by
  have hmost : p.mostUrgent p.busSet = some (p.slot o).cls := by
    rw [Part.mostUrgent, List.min?_eq_some_iff]
    refine ⟨List.mem_map.2 ⟨o, ho, rfl⟩, fun c hc => ?_⟩
    obtain ⟨j, hj, rfl⟩ := List.mem_map.1 hc
    exact hcls j hj
  have hhead : (p.busSet.filter fun j => (p.slot j).cls == (p.slot o).cls).head? = some o := by
    rw [List.head?_filter]
    refine find?_filter_of_first ho (by simp) fun j hj hclass => ?_
    exact holdest j hj (beq_iff_eq.1 hclass)
  simp only [Part.choice, hmost, hhead]
  rfl

/-- The three ways of the choice. -/
def Part.Chooses (p : Part) (o k : Fin 8) (passed : Option (Fin 8)) : Prop :=
  ((p.pageHit (p.slot o) = true ∨ p.directWindow (p.slot o) = true
      ∨ recOpcode (p.slot o).record = some .noticeSend ∨ (p.slot o).passes = 4)
    ∧ k = o ∧ passed = none)
  ∨ (p.pageHit (p.slot o) = false ∧ p.directWindow (p.slot o) = false
    ∧ recOpcode (p.slot o).record ≠ some .noticeSend ∧ (p.slot o).passes ≠ 4
    ∧ passed = some o ∧ k ∈ p.busSet ∧ (p.slot k).cls = (p.slot o).cls
    ∧ (p.ring (p.slot k).ring).order = .relaxed
    ∧ p.pageHit (p.slot k) = true
    ∧ ∀ j ∈ p.busSet, (p.slot j).cls = (p.slot o).cls → (p.ring (p.slot j).ring).order = .relaxed →
      p.pageHit (p.slot j) = true → p.sched.age.idxOf k ≤ p.sched.age.idxOf j)
  ∨ (p.pageHit (p.slot o) = false ∧ p.directWindow (p.slot o) = false
    ∧ recOpcode (p.slot o).record ≠ some .noticeSend ∧ (p.slot o).passes ≠ 4
    ∧ k = o ∧ passed = none
    ∧ ∀ j ∈ p.busSet, (p.slot j).cls = (p.slot o).cls → (p.ring (p.slot j).ring).order = .relaxed →
      p.pageHit (p.slot j) = false)

theorem Part.Chooses.choice (h : p.Chooses o k passed) (ho : o ∈ p.busSet)
    (hcls : ∀ j ∈ p.busSet, (p.slot o).cls ≤ (p.slot j).cls)
    (holdest : ∀ j ∈ p.busSet, (p.slot j).cls = (p.slot o).cls → p.sched.age.idxOf o ≤ p.sched.age.idxOf j) :
    p.choice = some (k, passed) := by
  rw [Part.choice_eq ho hcls holdest]
  have hgives (hhit : p.pageHit (p.slot o) = false) (hdirect : p.directWindow (p.slot o) = false)
      (hnotice : recOpcode (p.slot o).record ≠ some .noticeSend) (hpasses : (p.slot o).passes ≠ 4) :
      ¬p.firstStands o = true := by
    simp [Part.firstStands, hhit, hdirect, hnotice, passLimit, hpasses]
  rcases h with ⟨hstands, rfl, rfl⟩ | ⟨hhit, hdirect, hnotice, hpasses, rfl, hk, hclass, horder, hkhit, hfirst⟩ |
    ⟨hhit, hdirect, hnotice, hpasses, rfl, rfl, hnone⟩
  · rw [if_pos]
    rcases hstands with h | h | h | h <;> simp [Part.firstStands, h, passLimit]
  · rw [if_neg (hgives hhit hdirect hnotice hpasses)]
    have hfind : (p.sameClass o).find? p.goesBefore = some k := by
      rw [Part.sameClass, Part.busSet, List.filter_filter]
      refine find?_filter_of_first ?_ (by simp [Part.goesBefore, horder, hkhit]) fun j hj hbefore => ?_
      · simpa [hclass, and_comm] using Part.mem_busSet.1 hk
      · simp only [List.mem_filter, Bool.and_eq_true, beq_iff_eq] at hj
        simp only [Part.goesBefore, Bool.and_eq_true, beq_iff_eq] at hbefore
        exact hfirst j (Part.mem_busSet.2 ⟨hj.1, hj.2.2⟩) hj.2.1 hbefore.1 hbefore.2
    rw [hfind]
  · rw [if_neg (hgives hhit hdirect hnotice hpasses)]
    have hfind : (p.sameClass k).find? p.goesBefore = none := by
      refine List.find?_eq_none.2 fun j hj hbefore => ?_
      simp only [Part.goesBefore, Bool.and_eq_true, beq_iff_eq] at hbefore
      obtain ⟨hmem, hclass⟩ := Part.mem_sameClass.1 hj
      rw [hnone j hmem hclass hbefore.1] at hbefore
      exact Bool.noConfusion hbefore.2
    rw [hfind]

/-! ### The burst handed over (R35, R46, R52) -/

/-- The slot passed over counts one more pass (R32). -/
def Part.passesOver (p : Part) (passed : Option (Fin 8)) : Part :=
  match passed with
  | some o => p.modSlot o fun s => { s with passes := s.passes + 1 }
  | none => p

theorem Part.passesOver_keeps (p : Part) (passed : Option (Fin 8)) : p.Keeps [.sched] (p.passesOver passed) := by
  cases passed <;> simp [Part.passesOver]

theorem Part.passesOver_slot (p : Part) (passed : Option (Fin 8)) (j : Fin 8) : (p.passesOver passed).slot j =
    { p.slot j with passes := (p.slot j).passes + (if passed = some j then 1 else 0) } := by
  cases passed with
  | none => rfl
  | some o =>
    refine (Part.modSlot_slot p _ j _).trans ?_
    by_cases h : j = o
    · subst h
      rw [if_pos rfl, if_pos rfl]
    · rw [if_neg h, if_neg fun he => h (Option.some.inj he).symm]
      rfl

theorem Part.passesOver_burstOperation (p : Part) (passed : Option (Fin 8)) (k : Fin 8) :
    (p.passesOver passed).burstOperation k = p.burstOperation k := by
  have hwindow (w : Fin 16) : (p.passesOver passed).window w = p.window w := (p.passesOver_keeps passed).window w
  simp only [Part.burstOperation, Part.nextBurst, p.passesOver_slot passed k, hwindow]

theorem Part.passesOver_age (p : Part) (passed : Option (Fin 8)) : (p.passesOver passed).sched.age = p.sched.age
    ∧ (p.passesOver passed).sched.waiters = p.sched.waiters := by
  cases passed <;> exact ⟨rfl, rfl⟩

/-- The burst of a WRITE asks for its data and drives nothing (R56). -/
theorem Part.handBurst_write (h : (p.burstOperation k).opcode = .write) : p.handBurst k =
    ((p.modSlot k fun s => { s with state := .inBurst }).onMaster fun _ =>
      { state := .fetching, operation := some (p.burstOperation k), staging := [] }).ask .master
      (.read (recBuffer ((p.modSlot k fun s => { s with state := .inBurst }).slot k).record
        + BitVec.ofNat 64 (p.burstOperation k).start) (p.burstOperation k).bytes) := if_pos h

/-- Any other burst drives its first phase (R46). -/
theorem Part.handBurst_other (h : (p.burstOperation k).opcode ≠ .write) : p.handBurst k =
    ((p.modSlot k fun s => { s with state := .inBurst }).onMaster fun m => { m with staging := [] }).startDriving
      (p.burstOperation k) := if_neg h

theorem Part.inBurst_slot (p : Part) (k j : Fin 8) : (p.modSlot k fun s => { s with state := .inBurst }).slot j =
    { p.slot j with state := if j = k then .inBurst else (p.slot j).state } := by
  refine (Part.modSlot_slot p _ j _).trans ?_
  split <;> simp_all

theorem Part.handBurst_slot (p : Part) (k j : Fin 8) : (p.handBurst k).slot j = { p.slot j with
    state := if j = k then .inBurst else (p.slot j).state
    deferred := if (p.burstOperation k).opcode = .write then (p.slot j).deferred else false } := by
  by_cases h : (p.burstOperation k).opcode = .write
  · rw [Part.handBurst_write h, if_pos h]
    exact p.inBurst_slot k j
  · rw [Part.handBurst_other h, if_neg h, Part.startDriving_slot]
    exact congrArg (fun s : Slot => { s with deferred := false }) (p.inBurst_slot k j)

theorem Part.handBurst_age (p : Part) (k : Fin 8) : (p.handBurst k).sched.age = p.sched.age
    ∧ (p.handBurst k).sched.waiters = p.sched.waiters := by
  by_cases h : (p.burstOperation k).opcode = .write
  · rw [Part.handBurst_write h]
    exact ⟨rfl, rfl⟩
  · rw [Part.handBurst_other h]
    have hsched := (Part.goesOut_keeps ((p.modSlot k fun s => { s with state := .inBurst }).onMaster fun m =>
      { m with staging := [] }) { p.burstOperation k with
        limit := Part.burstLimit ((p.modSlot k fun s => { s with state := .inBurst }).onMaster fun m =>
          { m with staging := [] }) (p.burstOperation k) }).sched
    exact ⟨(congrArg Scheduler.age hsched :), (congrArg Scheduler.waiters hsched :)⟩

theorem Part.handBurst_hasAccess {x : Source} (h : p.hasAccess x = true) : (p.handBurst k).hasAccess x = true := by
  by_cases hwrite : (p.burstOperation k).opcode = .write
  · rw [Part.handBurst_write hwrite]
    exact Part.hasAccess_ask h
  · rw [Part.handBurst_other hwrite]
    have hhost := (Part.startDriving_keeps ((p.modSlot k fun s => { s with state := .inBurst }).onMaster fun m =>
      { m with staging := [] }) (p.burstOperation k)).host
    rw [Part.hasAccess, Part.request, Part.outstandingFor, hhost]
    exact h

theorem Part.NothingDue.handBurst (h : p.NothingDue) (k : Fin 8) : (p.handBurst k).NothingDue := by
  have hkeeps := p.handBurst_keeps k
  refine h.of_same hkeeps.engine hkeeps.admin (fun r => by rw [hkeeps.ring r]; exact id) (by rw [hkeeps.compl]) (by rw [hkeeps.compl])
    ?_ hkeeps.notices fun x hx => Part.handBurst_hasAccess hx
  rw [Part.adminFree, Part.adminFree, hkeeps.engine, hkeeps.compl]

/-- While the part owns the backplane and the Master is at work, only LVL follows. -/
theorem Part.NothingDue.react_of_busy (h : p.NothingDue) (hs : p.port.state = .owner) (hbusy : p.master.state ≠ .idle) :
    p.react = p.driveLevel := by
  have hstill : p.portStill := by
    rw [Part.portStill, hs]
    exact fun hidle => hbusy hidle.1
  rw [h.react_eq, Part.movePort_eq_self_iff.2 hstill]

theorem Part.openingPhase_congr (hw : q.windows = p.windows) (x : Operation) : q.openingPhase x = p.openingPhase x := by
  unfold Part.openingPhase Part.window
  rw [hw]

theorem Part.burstLimit_congr (hw : q.windows = p.windows) (x : Operation) : q.burstLimit x = p.burstLimit x := by
  unfold Part.burstLimit Part.window
  rw [hw]

/-- The burst of a WRITE waits for its data in the Master (R56). -/
theorem Part.handBurst_fetches (h : (p.burstOperation k).opcode = .write) :
    (p.handBurst k).master = { state := .fetching, operation := some (p.burstOperation k), staging := [] }
    ∧ (p.handBurst k).out = p.out
    ∧ (p.handBurst k).request .master = some (.read
      (recBuffer (p.slot k).record + BitVec.ofNat 64 (p.burstOperation k).start) (p.burstOperation k).bytes) := by
  rw [Part.handBurst_write h]
  refine ⟨rfl, rfl, (Part.ask_request _ _ _ _).trans ((if_pos rfl).trans ?_)⟩
  rw [p.inBurst_slot k k]

/-- What a burst about to drive adds to the output and the counters, and what the Master then holds (R46). -/
theorem Part.handBurst_drives {x : Operation} (h : (p.burstOperation k).opcode ≠ .write) (hx : x = p.burstOperation k) :
    (p.handBurst k).master = Master.mk .driving
      (some { x with limit := p.burstLimit x, phase := some (p.openingPhase x), elapsed := 0 }) []
    ∧ (p.handBurst k).out = p.out ++ [.phase (p.openingPhase x).code (p.phaseAd x (p.openingPhase x))
      ((p.openingPhase x).beatCount x)]
    ∧ (p.handBurst k).stats = (p.countPage x).stats ∧ (p.handBurst k).host = p.host := by
  set q := (p.modSlot k fun s => { s with state := .inBurst }).onMaster fun m => { m with staging := [] } with hq
  have hopening : q.openingPhase x = p.openingPhase x := Part.openingPhase_congr rfl x
  have hlimit : q.burstLimit x = p.burstLimit x := Part.burstLimit_congr rfl x
  have hrecord : q.recordOf x = p.recordOf x := by
    have hslot : q.slot k = { p.slot k with state := .inBurst } := (p.inBurst_slot k k).trans (by rw [if_pos rfl])
    rw [Part.recordOf_slot (k := k) (by rw [hx]; rfl), Part.recordOf_slot (k := k) (by rw [hx]; rfl), hslot]
  rw [Part.handBurst_other h, ← hx]
  refine ⟨?_, ?_, ?_, (q.startDriving_keeps x).host⟩
  · rw [q.startDriving_master x, hopening, hlimit]
    rfl
  · rw [q.startDriving_out x, hopening, Part.phaseAd_openingPhase (p := p) (q := q) rfl hrecord]
    rfl
  · rw [q.startDriving_stats x]
    exact Part.countPage_stats_congr (p := p) (q := q) rfl rfl x x.limit

/-- Settles O28. -/
theorem selectionHandsOverTheChosenSlot : Obligations.SelectionHandsOverTheChosenSlot := by
  refine ⟨fun s o k passed hs hrunning howner hidle ho hcls holdest hchooses => ?_, fun s hno => exec_of_effect ?_,
    fun p x => ⟨?_, ?_, fun k => Part.mem_busSet⟩⟩
  · have hchoice : s.part.choice = some (k, passed) := Part.Chooses.choice hchooses ho hcls holdest
    set q0 := s.part.passesOver passed with hq0
    set x := s.part.burstOperation k with hx
    have hx0 : q0.burstOperation k = x := Part.passesOver_burstOperation _ _ _
    have hselectable : s.part.selectable = true := by
      simp [Part.selectable, hrunning, howner, hidle, List.ne_nil_of_mem ho]
    have heffect : effect .selection s.part = (q0.handBurst k).react := by
      simp only [effect, Part.select, hselectable, hchoice, if_true]
      rfl
    have hpassed := s.part.passesOver_keeps passed
    have hkeeps : s.part.Keeps [.host, .sched, .master, .stats, .out] (q0.handBurst k) := by
      simpa using hpassed.mono (by simp)
    have hbusy : (q0.handBurst k).master.state ≠ .idle := by
      by_cases hwrite : (q0.burstOperation k).opcode = .write
      · rw [Part.handBurst_write hwrite]
        simp
      · rw [Part.handBurst_other hwrite, Part.startDriving_master]
        simp
    have hdue : q0.NothingDue := hs.nothingDue.of_keeps (hpassed.mono (by simp))
    rw [(hdue.handBurst k).react_of_busy (by rw [hkeeps.port, howner]) hbusy] at heffect
    have hop : x.opcode = .write ↔ recOpcode (s.part.slot k).record = some .write := by
      rw [hx]
      simp only [Part.burstOperation]
      cases recOpcode (s.part.slot k).record <;> simp
    have hslot (j : Fin 8) : (q0.handBurst k).driveLevel.slot j = { s.part.slot j with
        state := if j = k then .inBurst else (s.part.slot j).state
        passes := (s.part.slot j).passes + (if passed = some j then 1 else 0)
        deferred := if recOpcode (s.part.slot k).record = some .write then (s.part.slot j).deferred else false } := by
      refine (q0.handBurst_slot k j).trans ?_
      rw [hx0, s.part.passesOver_slot passed j]
      simp only [hop]
    have hfetches (hwrite : recOpcode (s.part.slot k).record = some .write) :
        (q0.handBurst k).master = { state := .fetching, operation := some x, staging := [] }
        ∧ (q0.handBurst k).out = s.part.out
        ∧ (q0.handBurst k).request .master = some (.read
          (recBuffer (s.part.slot k).record + BitVec.ofNat 64 x.start) x.bytes) := by
      have h := Part.handBurst_fetches (p := q0) (k := k) (by rw [hx0]; exact hop.2 hwrite)
      rwa [hx0, s.part.passesOver_slot passed k, hpassed.out] at h
    have hdrives (hwrite : recOpcode (s.part.slot k).record ≠ some .write) :
        (q0.handBurst k).master = Master.mk .driving
          (some { x with limit := s.part.burstLimit x, phase := some (s.part.openingPhase x), elapsed := 0 }) []
        ∧ (q0.handBurst k).out = s.part.out ++ [.phase (s.part.openingPhase x).code
          (s.part.phaseAd x (s.part.openingPhase x)) ((s.part.openingPhase x).beatCount x)]
        ∧ (q0.handBurst k).stats = (s.part.countPage x).stats ∧ (q0.handBurst k).host = s.part.host := by
      have h := Part.handBurst_drives (p := q0) (k := k) (by rw [hx0]; exact mt hop.1 hwrite) hx0.symm
      have hrecord : q0.recordOf x = s.part.recordOf x := by
        rw [Part.recordOf_slot (k := k) rfl, Part.recordOf_slot (k := k) rfl, s.part.passesOver_slot passed k]
      have hstats : (q0.countPage x).stats = (s.part.countPage x).stats :=
        Part.countPage_stats_congr (p := s.part) (q := q0) hpassed.windows hpassed.stats x x.limit
      rwa [Part.openingPhase_congr hpassed.windows x, Part.burstLimit_congr hpassed.windows x,
        Part.phaseAd_openingPhase (p := s.part) (q := q0) hpassed.windows hrecord, hstats, hpassed.host, hpassed.out] at h
    have hage := (q0.handBurst_age k).1.trans (s.part.passesOver_age passed).1
    have hwaiters := (q0.handBurst_age k).2.trans (s.part.passesOver_age passed).2
    generalize q0.handBurst k = q at *
    refine ⟨_, exec_of_effect heffect, hslot, hage, hwaiters, ?_, ?_, ?_, ?_, ?_, onlyChanges_iff.2 ⟨rfl, ?_⟩⟩
    · by_cases hwrite : recOpcode (s.part.slot k).record = some .write
      · refine ⟨x, (congrArg Master.operation (hfetches hwrite).1 :), rfl, rfl, rfl, rfl, rfl, rfl, rfl, rfl, rfl, rfl, rfl, rfl,
          rfl, fun hno => absurd hwrite hno⟩
      · obtain ⟨hmaster, hout, hstats, -⟩ := hdrives hwrite
        exact ⟨_, (congrArg Master.operation hmaster :), rfl, rfl, rfl, rfl, rfl, rfl, rfl, rfl, rfl, rfl, rfl, rfl, rfl,
          fun _ => ⟨rfl, rfl, rfl, hout, hstats⟩⟩
    · by_cases hwrite : recOpcode (s.part.slot k).record = some .write
      · exact (congrArg Master.staging (hfetches hwrite).1 :)
      · exact (congrArg Master.staging (hdrives hwrite).1 :)
    · exact fun hwrite => ⟨(congrArg Master.state (hfetches hwrite).1 :), (hfetches hwrite).2.1, (hfetches hwrite).2.2⟩
    · exact fun hwrite => ⟨(congrArg Master.state (hdrives hwrite).1 :), (hdrives hwrite).2.2.2⟩
    · exact (congrArg Port.state hkeeps.port).trans howner
    · have hlevel : s.part.Keeps [.host, .sched, .master, .port, .stats, .out] q := Part.Keeps.mono hkeeps (by simp)
      simpa [Part.driveLevel] using hlevel
  · simp only [effect, Part.select]
    rcases hno with h | h | h | h <;> simp [Part.selectable, h]
  · unfold Part.pageHit Window.holdsPage
    cases hw : x.window with
    | none => simp
    | some w =>
      cases hb : (p.window w).banks[(p.nextBurst x).bank]? with
      | none => simp [hb]
      | some b => simp [hb, and_assoc]
  · unfold Part.directWindow
    cases x.window <;> simp

end Sys2Proof.Machine
end

section
/-! A record enters a slot, a victim leaves one, or the attempt fails (R10, R12, R13, R14, R22, R26, R44, R75):
what each leaves in every block. -/

-- One declaration at a time: every further thread counts against the memory the check allows.
set_option Elab.async false

namespace Sys2Proof.Machine

variable {p q : Part} {a : Admission} {k : Fin 8}

/-! ### The record enters a slot -/

/-- The slot that the record takes (R12, R22). -/
def Part.entering (p : Part) (a : Admission) : Slot :=
  { state := .held
    ring := a.ring
    index := a.index
    sequence := p.sched.sequence
    cls := p.effectiveClass a.ring a.record
    record := a.record
    window := match p.mapping a.record with | .window w => some w | _ => none
    preSettled := match p.mapping a.record with | .status st => some st | _ => none
    progress := 0
    retries := 0
    passes := 0
    deferred := false
    reservation := some a.reservation
    chain := p.chainAtAdmission a.ring a.index
    finalStatus := none
    result := 0#32 }

/-- The ring whose record at `i` has entered a slot (R4). -/
def SubmissionRing.admits (r : SubmissionRing) (i : Nat) : SubmissionRing :=
  SubmissionRing.skipFetch { r.setSpan i .held with
    heldCount := r.heldCount + 1
    fetchIndex := succIndex r.size r.fetchIndex }

/-- The window that the record maps to has one slot more in flight (R75). -/
def Part.entersWindow (p : Part) (m : Mapping) : Part :=
  match m with
  | .window w => p.modWindow w fun x => { x with inFlight := x.inFlight + 1 }
  | _ => p

theorem Part.entersWindow_keeps (p : Part) (m : Mapping) : p.Keeps [.windows] (p.entersWindow m) := by
  cases m <;> simp [Part.entersWindow]

theorem Part.entersWindow_window (p : Part) (m : Mapping) (w : Fin 16) : (p.entersWindow m).window w =
    { p.window w with inFlight := (p.window w).inFlight + if m = .window w then 1 else 0 } := by
  cases m with
  | window v =>
    simp only [Part.entersWindow, Part.modWindow_window, Mapping.window.injEq]
    by_cases h : w = v
    · simp [h]
    · simp [h, Ne.symm h]
  | status st => simp [Part.entersWindow]
  | none => simp [Part.entersWindow]

/-- The slot and the ring have taken the record; its window and the counters have not yet. -/
def Part.entered (p : Part) (a : Admission) (k : Fin 8) : Part :=
  (p.onSched fun u => { u with
    slots := tabUpdate u.slots k fun _ => p.entering a, sequence := u.sequence + 1#32, age := u.age ++ [k] }).modRing
      a.ring fun r => r.admits a.index

theorem Part.placeIn_eq (p : Part) (a : Admission) (k : Fin 8) : p.placeIn a k =
    ((((p.entered a k).entersWindow (p.mapping a.record)).onStats fun t =>
      { t with admitted := satSucc t.admitted }).onFetch fun u => { u with admission := none }).endHoldFor a.ring
        a.index := by
  unfold Part.placeIn Part.entersWindow Part.entered Part.entering
  cases p.mapping a.record <;> rfl

theorem Part.placeIn_sched (p : Part) (a : Admission) (k : Fin 8) : (p.placeIn a k).sched =
    { p.sched with
      slots := tabUpdate p.sched.slots k fun _ => p.entering a
      sequence := p.sched.sequence + 1#32
      age := p.sched.age ++ [k] } := by
  rw [Part.placeIn_eq, (Part.endHoldFor_keeps _ a.ring a.index).sched]
  exact (Part.entersWindow_keeps _ _).sched

theorem Part.placeIn_slot (p : Part) (a : Admission) (k j : Fin 8) : (p.placeIn a k).slot j =
    if j = k then p.entering a else p.slot j := by
  have hslots := congrArg Scheduler.slots (p.placeIn_sched a k)
  rw [Part.slot, hslots]
  exact tabUpdate_get _ _ _ _

theorem Part.placeIn_ring (p : Part) (a : Admission) (k r : Fin 8) : (p.placeIn a k).ring r =
    if r = a.ring then (p.ring r).admits a.index else p.ring r := by
  rw [Part.placeIn_eq, (Part.endHoldFor_keeps _ a.ring a.index).ring]
  exact (((p.entered a k).entersWindow_keeps (p.mapping a.record)).ring r).trans (Part.modRing_ring _ _ _ _)

theorem Part.placeIn_admission (p : Part) (a : Admission) (k : Fin 8) : (p.placeIn a k).fetch.admission = none := by
  rw [Part.placeIn_eq, (Part.endHoldFor_keeps _ a.ring a.index).fetch]
  rfl

theorem Part.placeIn_flight (p : Part) (a : Admission) (k : Fin 8) : (p.placeIn a k).fetch.flight = p.fetch.flight := by
  rw [Part.placeIn_eq, (Part.endHoldFor_keeps _ a.ring a.index).fetch]
  exact (congrArg FetchUnit.flight ((p.entered a k).entersWindow_keeps (p.mapping a.record)).fetch :).trans rfl

theorem Part.placeIn_window (p : Part) (a : Admission) (k : Fin 8) (w : Fin 16) : (p.placeIn a k).window w =
    { p.window w with inFlight := (p.window w).inFlight + if p.mapping a.record = .window w then 1 else 0 } := by
  rw [Part.placeIn_eq, (Part.endHoldFor_keeps _ a.ring a.index).window]
  exact (Part.entersWindow_window _ _ w).trans rfl

theorem Part.placeIn_stats (p : Part) (a : Admission) (k : Fin 8) : (p.placeIn a k).stats =
    { p.stats with admitted := satSucc p.stats.admitted } := by
  rw [Part.placeIn_eq, (Part.endHoldFor_keeps _ a.ring a.index).stats]
  exact congrArg (fun t : Stats => { t with admitted := satSucc t.admitted })
    ((p.entered a k).entersWindow_keeps (p.mapping a.record)).stats

/-! ### The attempt fails (R14) -/

theorem Part.attemptFails_eq (p : Part) (a : Admission) : p.attemptFails a =
    (((p.onFetch fun u => { u with admission := none }).released (some a.reservation)).modRing a.ring fun r =>
      { r with evictionBar := true }).endHoldFor a.ring a.index := rfl

theorem Part.attemptFails_ring (p : Part) (a : Admission) (r : Fin 8) : (p.attemptFails a).ring r =
    if r = a.ring then { p.ring r with evictionBar := true } else p.ring r := by
  rw [Part.attemptFails_eq, (Part.endHoldFor_keeps _ a.ring a.index).ring, Part.modRing_ring,
    (Part.released_keeps _ (some a.reservation)).ring]
  rfl

theorem Part.attemptFails_admission (p : Part) (a : Admission) : (p.attemptFails a).fetch.admission = none := by
  rw [Part.attemptFails_eq, (Part.endHoldFor_keeps _ a.ring a.index).fetch]
  exact congrArg FetchUnit.admission (Part.released_keeps _ (some a.reservation)).fetch

theorem Part.attemptFails_flight (p : Part) (a : Admission) : (p.attemptFails a).fetch.flight = p.fetch.flight := by
  rw [Part.attemptFails_eq, (Part.endHoldFor_keeps _ a.ring a.index).fetch]
  exact (congrArg FetchUnit.flight ((p.onFetch fun u => { u with admission := none }).released_keeps
    (some a.reservation)).fetch :).trans rfl

theorem Part.NoFlush.attemptFails_cring (h : p.NoFlush) (a : Admission) (c : Fin 8) : (p.attemptFails a).cring c =
    { p.cring c with reserved := (p.cring c).reserved - if c = a.reservation then 1 else 0 } := by
  have hnone : (p.onFetch fun u => { u with admission := none }).NoFlush := h
  have hreleased := hnone.released_cring (some a.reservation) c
  rw [Part.attemptFails_eq, (Part.endHoldFor_keeps _ a.ring a.index).cring]
  refine hreleased.trans ?_
  simp only [Option.some_inj, eq_comm (a := a.reservation)]
  rfl

theorem Part.attemptFails_compl (p : Part) (a : Admission) : (p.attemptFails a).compl.fifo = p.compl.fifo
    ∧ (p.attemptFails a).compl.adminHeld = p.compl.adminHeld ∧ (p.attemptFails a).compl.adminRing = p.compl.adminRing := by
  rw [Part.attemptFails_eq, (Part.endHoldFor_keeps _ a.ring a.index).compl]
  exact ⟨Part.released_fifo _ _, Part.released_adminHeld _ _, Part.released_adminRing _ _⟩

/-! ### The victim leaves its slot (R13, R44, R75) -/

theorem Part.evict_slot (p : Part) (v j : Fin 8) : (p.evict v).slot j = if j = v then .empty else p.slot j :=
  p.vacate_slot v j

theorem Part.evict_age (p : Part) (v : Fin 8) : (p.evict v).sched.age = p.sched.age.erase v := p.vacate_age v

theorem Part.evict_sequence (p : Part) (v : Fin 8) : (p.evict v).sched.sequence = p.sched.sequence := by
  simp [Part.evict, Part.vacate_eq]

/-- The ring takes the position of its slot back, and F with it (R13). -/
def SubmissionRing.stepsBack (r : SubmissionRing) (i : Nat) : SubmissionRing :=
  SubmissionRing.skipFetch { r.giveBack i with fetchIndex := i, evictionBar := false }

theorem Part.evict_ring (p : Part) (v r : Fin 8) : (p.evict v).ring r =
    if r = (p.slot v).ring then (p.ring r).stepsBack (p.slot v).index else { p.ring r with evictionBar := false } := by
  refine (Part.modRing_ring (p.vacate v) _ r _).trans ?_
  rw [p.vacate_ring v r]
  by_cases h : r = (p.slot v).ring
  · rw [if_pos h, if_pos h, if_pos h]
    rfl
  · rw [if_neg h, if_neg h, if_neg h]

theorem Part.evict_window (p : Part) (v : Fin 8) (w : Fin 16) : (p.evict v).window w =
    { p.window w with inFlight := (p.window w).inFlight - if (p.slot v).window = some w then 1 else 0 } := by
  refine (?_ : (p.evict v).window w = (p.vacate v).window w).trans ?_
  · rfl
  · rw [Part.vacate_eq]
    simp

theorem Part.evict_stats (p : Part) (v : Fin 8) : (p.evict v).stats =
    { p.stats with evictions := satSucc p.stats.evictions } := by
  have hstats : (p.vacate v).stats = p.stats := (p.vacate_keeps v).stats
  exact congrArg (fun t : Stats => { t with evictions := satSucc t.evictions }) hstats

theorem Part.evict_fetch (p : Part) (v : Fin 8) : (p.evict v).fetch.admission = p.fetch.admission
    ∧ (p.evict v).fetch.flight = p.fetch.flight := by
  simp [Part.evict, Part.vacate_eq]

theorem Part.evict_fifo (p : Part) (v : Fin 8) : (p.evict v).compl.fifo = p.compl.fifo := by
  have hkeeps : (p.released (p.slot v).reservation).Keeps [.fetch, .sched, .windows, .stats] (p.evict v) := by
    simp [Part.evict, Part.vacate_eq]
  rw [hkeeps.compl, Part.released_fifo]

theorem Part.NoFlush.evict_cring (h : p.NoFlush) (v c : Fin 8) : (p.evict v).cring c =
    { p.cring c with reserved := (p.cring c).reserved - if (p.slot v).reservation = some c then 1 else 0 } :=
  h.vacate_cring v c

/-- The mapping looks at no in-flight count (R10, R11, R72 to R74). -/
theorem Part.mapping_congr {n : Fin 16 → Nat} (hnode : q.notices.nodeId = p.notices.nodeId)
    (hwindow : ∀ w, q.window w = { p.window w with inFlight := n w }) (rec : Block) : q.mapping rec = p.mapping rec := by
  unfold Part.mapping Part.windowAt Part.badRecord
  simp only [hnode, hwindow]
  rfl

theorem Part.evict_mapping (p : Part) (v : Fin 8) (rec : Block) : (p.evict v).mapping rec = p.mapping rec :=
  Part.mapping_congr (by rw [(p.evict_keeps v).notices]) (p.evict_window v) rec

theorem Part.evict_ring_order (p : Part) (v r : Fin 8) : ((p.evict v).ring r).order = (p.ring r).order := by
  rw [p.evict_ring v r]
  split <;> rfl

theorem Part.evict_ring_cls (p : Part) (v r : Fin 8) : ((p.evict v).ring r).cls = (p.ring r).cls := by
  rw [p.evict_ring v r]
  split <;> rfl

theorem Part.evict_effectiveClass (p : Part) (v r : Fin 8) (rec : Block) :
    (p.evict v).effectiveClass r rec = p.effectiveClass r rec := by
  rw [Part.effectiveClass, Part.effectiveClass, p.evict_ring_order v r, p.evict_ring_cls v r]

/-- The victim's own record is of another ring, so the chain outcome of the record that evicts it stands (R26). -/
theorem Part.evict_chainAtAdmission {v r : Fin 8} (h : (p.slot v).ring ≠ r) (i : Nat) :
    (p.evict v).chainAtAdmission r i = p.chainAtAdmission r i := by
  have hring : (p.evict v).ring r = { p.ring r with evictionBar := false } := by
    rw [p.evict_ring v r, if_neg (Ne.symm h)]
  have hslot (b : Nat) : ((List.finRange 8).any fun k => ((p.evict v).slot k).counted && ((p.evict v).slot k).ring == r
        && ((p.evict v).slot k).index == b && recChain ((p.evict v).slot k).record)
      = (List.finRange 8).any fun k => (p.slot k).counted && (p.slot k).ring == r
        && (p.slot k).index == b && recChain (p.slot k).record := by
    refine congrArg (List.any _) (funext fun k => ?_)
    rw [p.evict_slot v k]
    by_cases hk : k = v
    · have hfree : Slot.empty.counted = false := rfl
      have hother : ((p.slot k).ring == r) = false := by simpa [hk] using h
      simp [hk, hfree, hk ▸ hother]
    · rw [if_neg hk]
  unfold Part.chainAtAdmission
  simp only [hring, hslot]
  rfl

/-- The record that evicts enters the slot as it would have entered a FREE one. -/
theorem Part.evict_entering {v : Fin 8} (h : (p.slot v).ring ≠ a.ring) : (p.evict v).entering a = p.entering a := by
  unfold Part.entering
  rw [p.evict_sequence v, p.evict_effectiveClass v, p.evict_mapping v, Part.evict_chainAtAdmission h]

theorem SubmissionRing.admits_evictionBar (r : SubmissionRing) (i : Nat) (b : Bool) :
    ({ r with evictionBar := b }).admits i = { r.admits i with evictionBar := b } := rfl

end Sys2Proof.Machine
end

section
/-! A fetched record is placed or discarded (R4, R8, R10, R12, R22, R25, R26, R75, R115, R116): O24. -/

-- One declaration at a time: every further thread counts against the memory the check allows.
set_option Elab.async false

namespace Sys2Proof.Machine

variable {p q : Part} {f : Flight} {k : Fin 8} {rec : Block}

/-! ### The report of a record fetch -/

theorem Part.freeSlotIndex_eq (hk : (p.slot k).state = .free) (hfirst : ∀ j, j < k → (p.slot j).state ≠ .free) :
    p.freeSlotIndex = some k := by
  have hplace : ∀ j : Fin 8, (List.finRange 8).idxOf j = j.val := by decide
  refine find?_of_first (List.mem_finRange k) (by simp [hk]) fun j _ hj => ?_
  rw [hplace, hplace]
  by_contra hlt
  exact hfirst j (by omega) (beq_iff_eq.1 hj)

theorem Part.freeSlotIndex_none (h : ∀ j, (p.slot j).state ≠ .free) : p.freeSlotIndex = none := by
  simpa [Part.freeSlotIndex] using h

/-- The record of the fetch in the admission register (R8). -/
def Flight.brings (f : Flight) (rec : Block) : Admission :=
  { ring := f.ring, index := f.index, record := rec, reservation := f.reservation }

/-- The report of a fetch with its record in the admission register. -/
def Part.recordTaken (p : Part) (f : Flight) (rec : Block) : Part :=
  p.closeAccess.onFetch fun u => { u with flight := none, admission := some (f.brings rec) }

theorem effect_recordTaken (hrunning : p.engine.state = .running) (hread : p.readOutstanding .ringFetch = true)
    (hflight : p.fetch.flight = some f) (hkept : f.discard = false) (hactive : (p.ring f.ring).state = .active) :
    effect (.submissionReadDone (some rec)) p = (p.recordTaken f rec).place.react := by
  have hkeep : ¬(f.discard = true ∨ (p.closeAccess.ring f.ring).state ≠ .active) := by simp [hkept, hactive]
  simp only [effect, Part.submissionRead, Part.forRead_of_outstanding hread, hread, Part.closeAccess_engine, hrunning,
    Part.closeAccess_fetch, hflight, EngineState.working, if_true, if_neg hkeep]
  exact congrArg Part.react (if_pos hrunning)

theorem effect_recordDiscarded (hworks : p.engine.state.working = true) (hread : p.readOutstanding .ringFetch = true)
    (hflight : p.fetch.flight = some f) (hdiscard : f.discard = true ∨ (p.ring f.ring).state ≠ .active) :
    effect (.submissionReadDone (some rec)) p = (p.closeAccess.discardFlight f).react := by
  have hgoes : f.discard = true ∨ (p.closeAccess.ring f.ring).state ≠ .active := hdiscard
  simp only [effect, Part.submissionRead, Part.forRead_of_outstanding hread, hread, Part.closeAccess_engine, hworks,
    Part.closeAccess_fetch, hflight, if_true, if_pos hgoes]

theorem Settled.closeRead (h : Settled p) (hread : p.readOutstanding .ringFetch = true) : Settled p.closeAccess :=
  h.congr (Part.sameDue_closeAccess .ringFetch nofun nofun fun _ hx => Part.outstandingFor_of_read hread hx)

/-! ### A reservation released (R115, R116) -/

/-- A release lowers the count, or the entry goes to the flush that waits for one. -/
theorem Part.unreserve_cases (p : Part) (c : Fin 8) :
    p.unreserve c = p.modCring c (fun x => { x with reserved := x.reserved - 1 })
    ∨ ∃ g, p.flushAsks c = some g ∧ (p.cring c).freeEntries = 0
      ∧ p.unreserve c = ((p.modCring c fun x => { x with reserved := x.reserved - 1 }).reserve c).waitFor
        (.flushRing { g with granted := true }) := by
  unfold Part.unreserve Part.freed
  split
  · next h =>
    cases hasks : p.flushAsks c with
    | none => exact .inl (Part.grantFlush_none hasks)
    | some g => exact .inr ⟨g, rfl, h.1, Part.grantFlush_some hasks⟩
  · exact .inl rfl

/-- Where the ring was full, the entry released goes to the flush that asks for one (R20). -/
theorem Part.unreserve_granted {c : Fin 8} {g : Flush} (hasks : p.flushAsks c = some g) (hpresent : (p.cring c).present = true)
    (hreserved : 0 < (p.cring c).reserved)
    (hfull : (p.cring c).reserved + (p.cring c).outstanding + 1 = (p.cring c).size) :
    p.unreserve c = ((p.modCring c fun x => { x with reserved := x.reserved - 1 }).reserve c).waitFor
      (.flushRing { g with granted := true }) := by
  have hbefore : (p.cring c).freeEntries = 0 := by
    rw [CompletionRing.freeEntries_of_present hpresent]
    change _ - (p.cring c).outstanding - _ = 0
    omega
  have hafter : ((p.modCring c fun x => { x with reserved := x.reserved - 1 }).cring c).freeEntries =
      (p.cring c).size - 1 - (p.cring c).outstanding - ((p.cring c).reserved - 1) := by
    rw [Part.modCring_cring, if_pos rfl, CompletionRing.freeEntries_of_present (by exact hpresent)]
    rfl
  refine (if_pos ⟨hbefore, ?_⟩).trans (Part.grantFlush_some hasks)
  rw [hafter]
  omega

/-- Only a flush whose end is known asks for an entry (R20). -/
theorem Part.flushAsks_stop {c : Fin 8} {g : Flush} (h : p.flushAsks c = some g) : g.stop ≠ none := by
  unfold Part.flushAsks at h
  split at h
  · dsimp only at h
    split at h
    · next hasks =>
      cases h
      exact Option.isSome_iff_ne_none.1 hasks.2.1
    · cases h
  · cases h

theorem Part.NothingDue.unreserve (h : p.NothingDue) (c : Fin 8) : (p.unreserve c).NothingDue := by
  rcases p.unreserve_cases c with hq | ⟨g, hasks, -, hq⟩
  · rw [hq]
    exact h.of_same rfl rfl (fun _ => id) rfl rfl rfl rfl fun _ => id
  · rw [hq]
    refine ⟨?_, h.posting, h.adminPosting, h.notice, ?_⟩
    · rintro ⟨g', hstate, hstop, -⟩
      cases hstate
      exact Part.flushAsks_stop hasks hstop
    · rintro ⟨-, hstate, -⟩
      cases hstate

/-! ### The discarded record -/

theorem Part.discardFlight_eq (p : Part) (f : Flight) : p.discardFlight f =
    ((p.onFetch fun u => { u with flight := none }).unreserve f.reservation).endHoldFor f.ring f.index := rfl

theorem Part.NothingDue.discardFlight (h : p.NothingDue) (f : Flight) : (p.discardFlight f).NothingDue := by
  have hfetch : (p.onFetch fun u => { u with flight := none }).NothingDue :=
    h.of_same rfl rfl (fun _ => id) rfl rfl rfl rfl fun _ => id
  exact (hfetch.unreserve f.reservation).of_keeps ((Part.endHoldFor_keeps _ _ _).mono (by simp))

/-! ### The chain outcome at admission (R26) -/

/-- The outcome that a link mark gives. -/
def LinkMark.outcome : LinkMark → ChainOutcome
  | .ok => .success
  | .broken => .failed
  | .none => .notMember

theorem LinkMark.gives (m : LinkMark) : LinkGives m m.outcome := by
  cases m <;> simp [LinkGives, LinkMark.outcome]

/-- A counted slot of ring `r` holds the record at `b`, with CHAIN set. -/
def Part.chainHeldAt (p : Part) (r : Fin 8) (b : Nat) : Bool :=
  (List.finRange 8).any fun k => (p.slot k).counted && (p.slot k).ring == r && (p.slot k).index == b
    && recChain (p.slot k).record

theorem Part.chainAtAdmission_eq (p : Part) (r : Fin 8) (i : Nat) : p.chainAtAdmission r i =
    if (p.ring r).spanOffset i = 0 then (p.ring r).linkBefore.outcome
    else match (p.ring r).spanMark (predIndex (p.ring r).size i) with
      | .held => if p.chainHeldAt r (predIndex (p.ring r).size i) then .waiting else .notMember
      | .done => ((p.ring r).links.getD ((p.ring r).spanOffset (predIndex (p.ring r).size i)) .none).outcome
      | .notAdmitted => .notMember := rfl

theorem Part.chainHeldAt_iff {r : Fin 8} {b : Nat} : p.chainHeldAt r b = true ↔
    ∃ k, (p.slot k).counted = true ∧ (p.slot k).ring = r ∧ (p.slot k).index = b ∧ recChain (p.slot k).record = true := by
  simp [Part.chainHeldAt, and_assoc]

/-- Settles O24. -/
theorem fetchedRecordIsPlacedOrDiscarded : Obligations.FetchedRecordIsPlacedOrDiscarded := by
  refine ⟨fun s rec f k hs hrunning hread hflight hkept hactive hk hfirst => ?_, fun p r rec => ⟨fun ho hov => ?_, fun ho => ?_⟩,
    fun p r i b hb => ⟨fun hzero => ?_, fun hne => ⟨fun hdone => ?_, fun hheld => ⟨fun hchain => ?_, fun hno => ?_⟩⟩⟩,
    fun s rec f hs hworks hread hflight hdiscard => ?_⟩
  · have hfree : (s.part.recordTaken f rec).freeSlotIndex = some k := Part.freeSlotIndex_eq hk hfirst
    have heffect := effect_recordTaken (rec := rec) hrunning hread hflight hkept hactive
    have hplace : (s.part.recordTaken f rec).place = (s.part.recordTaken f rec).placeIn (f.brings rec) k := by
      rw [Part.place]
      simp only [hfree]
      rfl
    rw [hplace] at heffect
    set p := s.part.recordTaken f rec with hp
    set q := p.placeIn (f.brings rec) k with hq
    have hkeeps : p.Keeps [.fetch, .sched, .windows, .port, .stats] q := p.placeIn_keeps _ _
    have hclosed := (hs.closeRead hread).nothingDue
    have hdue : q.NothingDue := by
      refine hclosed.of_same hkeeps.engine hkeeps.admin (fun r hr => ?_) (by rw [hkeeps.compl]; rfl) (by rw [hkeeps.compl]; rfl)
        ?_ hkeeps.notices fun x hx => ?_
      · rw [hq, p.placeIn_ring] at hr
        split at hr
        · cases hr
        · exact hr
      · rw [Part.adminFree, hkeeps.compl, hkeeps.engine]
        rfl
      · rw [Part.hasAccess, Part.request, Part.outstandingFor, hkeeps.host]
        exact hx
    have hplaced (j : Fin 8) : q.slot j = if j = k then p.entering (f.brings rec) else p.slot j := p.placeIn_slot _ k j
    have hring (r : Fin 8) : q.ring r = if r = f.ring then (p.ring r).admits f.index else p.ring r := p.placeIn_ring _ k r
    have hsched := p.placeIn_sched (f.brings rec) k
    refine ⟨_, exec_of_effect heffect, ?_, fun j hj => ?_, ?_, ?_, ?_, ?_, ?_, fun r hr => ?_, fun w => ?_, ?_, ?_,
      onlyChanges_iff.2 ⟨rfl, ?_⟩⟩
    · rw [Part.react_slot, hplaced, if_pos rfl]
      rfl
    · rw [Part.react_slot, hplaced, if_neg hj]
      rfl
    · rw [Part.react_sched, hsched]
      rfl
    · rw [Part.react_sched, hsched]
      rfl
    · rw [Part.react_fetch, p.placeIn_flight]
      rfl
    · rw [Part.react_fetch, p.placeIn_admission]
    · rw [Part.react_ring, hring, if_pos rfl]
      rfl
    · rw [Part.react_ring, hring, if_neg hr]
      rfl
    · rw [Part.react_window, p.placeIn_window]
      rfl
    · rw [Part.react_stats, p.placeIn_stats]
      rfl
    · rw [Part.react_host_outstanding, hkeeps.host]
      rfl
    · have hchanged : s.part.Keeps [.host, .fetch] p := by simp [hp, Part.recordTaken]
      have hall : s.part.Keeps [.host, .fetch, .sched, .windows, .stats, .port] q :=
        (hchanged.mono (by simp)).trans (hkeeps.mono (by simp))
      rw [hdue.react_eq]
      simpa [Part.driveLevel] using hall
  · simp [Part.effectiveClass, ho, hov]
  · refine if_neg fun ⟨hrelaxed, hoverride⟩ => ?_
    rcases ho with h | h
    · simp [h] at hrelaxed
    · simp [h] at hoverride
  · rw [p.chainAtAdmission_eq r i, if_pos hzero]
    exact LinkMark.gives _
  · rw [p.chainAtAdmission_eq r i, if_neg hne, ← hb]
    simp only [hdone]
    exact LinkMark.gives _
  · rw [p.chainAtAdmission_eq r i, if_neg hne, ← hb]
    simp only [hheld, Part.chainHeldAt_iff.2 hchain, if_true]
  · have hnone : ¬p.chainHeldAt r b = true := fun h => by
      obtain ⟨k, hcounted, hring, hindex, hset⟩ := Part.chainHeldAt_iff.1 h
      simp [hno k hcounted hring hindex] at hset
    rw [p.chainAtAdmission_eq r i, if_neg hne, ← hb]
    simp only [hheld, if_neg hnone]
  · have heffect := effect_recordDiscarded (rec := rec) hworks hread hflight hdiscard
    set c := f.reservation with hc
    set p := s.part.closeAccess.onFetch fun u => { u with flight := none } with hp
    set q := s.part.closeAccess.discardFlight f with hq
    have hkeeps : s.part.closeAccess.Keeps [.admin, .fetch, .port, .compl] q := Part.discardFlight_keeps _ f
    have hdue : q.NothingDue := (hs.closeRead hread).nothingDue.discardFlight f
    have hcompl : q.compl = (p.unreserve c).compl := (Part.endHoldFor_keeps _ _ _).compl
    have hadmin : q.admin = (p.unreserve c).admin := (Part.endHoldFor_keeps _ _ _).admin
    have hfetch : q.fetch = p.fetch := (Part.endHoldFor_keeps _ _ _).fetch.trans (p.unreserve_fetch c)
    rw [hdue.react_eq] at heffect
    have hmoved : q.Keeps [.port] q.movePort.driveLevel := by simp [Part.driveLevel]
    have hcring (x : Fin 8) : q.movePort.driveLevel.cring x = (p.unreserve c).cring x :=
      (hmoved.cring x).trans (congrArg (fun u : CompletionUnit => u.rings.get x) hcompl)
    refine ⟨_, exec_of_effect heffect, ?_, fun hno => ?_, fun g hasks hpresent hreserved hfull => ?_, ?_, ?_,
      onlyChanges_iff.2 ⟨rfl, ?_⟩⟩
    · exact hmoved.fetch.trans hfetch
    · have hunreserve : p.unreserve c = p.modCring c fun x => { x with reserved := x.reserved - 1 } := by
        rcases p.unreserve_cases c with h | ⟨g, hasks, hzero, -⟩
        · exact h
        · rcases hno with h | h
          · exact absurd (h.symm.trans hasks) (by simp)
          · exact absurd hzero (Nat.pos_iff_ne_zero.1 h)
      refine ⟨fun x => ?_, ?_⟩
      · rw [hcring x, hunreserve, Part.modCring_cring]
        split <;> simp_all
      · rw [hmoved.admin, hadmin, hunreserve]
        rfl
    · have hunreserve := Part.unreserve_granted (p := p) hasks hpresent hreserved hfull
      refine ⟨fun x => ?_, ?_⟩
      · rw [hcring x, hunreserve]
        refine (Part.modCring_cring _ c x _).trans ?_
        by_cases hx : x = c
        · rw [if_pos hx, hx, Part.modCring_cring, if_pos rfl]
          have hone : (p.cring c).reserved - 1 + 1 = (p.cring c).reserved := Nat.sub_add_cancel hreserved
          rw [hone]
          rfl
        · rw [if_neg hx, Part.modCring_cring, if_neg hx]
          rfl
      · rw [hmoved.admin, hadmin, hunreserve]
        rfl
    · rw [hmoved.compl, hcompl, Part.unreserve_compl_fifo]
      rfl
    · rw [hmoved.host, hkeeps.host]
      rfl
    · have hclosed : s.part.Keeps [.host] s.part.closeAccess := by simp
      have hall : s.part.Keeps [.host, .admin, .fetch, .compl, .port] q :=
        (hclosed.mono (by simp)).trans (hkeeps.mono (by simp))
      simpa [Part.driveLevel] using hall

end Sys2Proof.Machine
end

section
/-! With every slot in use a record evicts the victim, or its ring is barred (R13, R14, R44, R75, R116): O25. -/

-- One declaration at a time: every further thread counts against the memory the check allows.
set_option Elab.async false

namespace Sys2Proof.Machine

variable {p q : Part} {a : Admission} {f : Flight} {k v : Fin 8} {rec : Block}

/-! ### The victim (R13) -/

/-- The last of the greatest is what a walk keeps that keeps what is no less than before. -/
theorem foldl_keep_last {α κ : Type} [LinearOrder κ] (key : α → κ) {g : Option α → α → Option α}
    (hnone : ∀ k, g none k = some k) (hsome : ∀ b k, g (some b) k = if key b ≤ key k then some k else some b)
    {l : List α} {pos : α → Nat} (hl : l.Pairwise fun a b => pos a < pos b) {v : α} (hv : v ∈ l)
    (hgreatest : ∀ u ∈ l, key u < key v ∨ (key u = key v ∧ pos u ≤ pos v)) : l.foldl g none = some v := by
  induction l using List.reverseRecOn with
  | nil => cases hv
  | append_singleton l k ih =>
    rw [List.foldl_concat]
    obtain ⟨hlast, -, hbefore⟩ := List.pairwise_append.1 hl
    rcases List.mem_append.1 hv with hmem | hmem
    · rw [ih hlast hmem fun u hu => hgreatest u (List.mem_append_left _ hu), hsome]
      refine if_neg fun hle => ?_
      have hpos := hbefore v hmem k (List.mem_singleton_self k)
      rcases hgreatest k (List.mem_append_right _ (List.mem_singleton_self k)) with hlt | ⟨-, hge⟩
      · exact absurd hle (not_le.2 hlt)
      · omega
    · obtain rfl := List.mem_singleton.1 hmem
      cases hbest : l.foldl g none with
      | none => exact hnone v
      | some b =>
        rw [hsome]
        refine if_pos ?_
        have hb := ((foldl_keep_greatest key hnone hsome l).2 b hbest).1
        rcases hgreatest b (List.mem_append_left _ hb) with hlt | ⟨heq, -⟩
        · exact hlt.le
        · exact heq.le

/-- The evictable slot of the least urgent class that is the youngest of it is the victim (R13). -/
theorem Part.victim_eq {r : Fin 8} (hage : p.sched.age.Nodup) (hv : v ∈ p.evictableFor r)
    (hyoungest : ∀ u ∈ p.evictableFor r, (p.slot u).cls < (p.slot v).cls
      ∨ ((p.slot u).cls = (p.slot v).cls ∧ p.sched.age.idxOf u ≤ p.sched.age.idxOf v)) : p.victim r = some v := by
  have hsorted : p.sched.age.Pairwise fun a b => p.sched.age.idxOf a < p.sched.age.idxOf b :=
    List.pairwise_iff_getElem.2 fun i j hi hj hlt => by rwa [hage.idxOf_getElem, hage.idxOf_getElem]
  exact foldl_keep_last (fun k => (p.slot k).cls) (fun _ => rfl) (fun _ _ => rfl) (hsorted.filter _) hv hyoungest

theorem Part.mem_evictableFor_iff {r : Fin 8} : k ∈ p.evictableFor r ↔
    k ∈ p.sched.age ∧ p.evictable (p.slot k) = true ∧ (p.slot k).ring ≠ r := by
  simp [Part.evictableFor]

theorem Part.place_fails (hadmission : p.fetch.admission = some a) (hfull : ∀ j, (p.slot j).state ≠ .free)
    (hnone : ∀ v, p.victim a.ring = some v → (p.slot v).cls ≤ p.effectiveClass a.ring a.record) :
    p.place = p.attemptFails a := by
  simp only [Part.place, hadmission, Part.freeSlotIndex_none hfull]
  split
  · rfl
  · next v hv => exact if_neg (not_lt.2 (hnone v hv))

theorem Part.place_evicts (hadmission : p.fetch.admission = some a) (hfull : ∀ j, (p.slot j).state ≠ .free)
    (hvictim : p.victim a.ring = some v) (hless : p.effectiveClass a.ring a.record < (p.slot v).cls) :
    p.place = (p.evict v).placeIn a v := by
  simp only [Part.place, hadmission, Part.freeSlotIndex_none hfull, hvictim, if_pos hless]

theorem Part.place_free (hadmission : p.fetch.admission = some a) (hk : (p.slot k).state = .free)
    (hfirst : ∀ j, j < k → (p.slot j).state ≠ .free) : p.place = p.placeIn a k := by
  simp only [Part.place, hadmission, Part.freeSlotIndex_eq hk hfirst]

theorem Part.victim_mem {r : Fin 8} (h : p.victim r = some v) : p.evictable (p.slot v) = true ∧ (p.slot v).ring ≠ r := by
  obtain ⟨hmem, -⟩ := (p.victim_greatest r).2 v h
  exact (Part.mem_evictableFor_iff.1 hmem).2

/-! ### What a placement and an eviction leave -/

/-- `q` stands where the record of `a` is about to be placed, in the queue as `p` has it. -/
structure Part.Admits (p q : Part) (a : Admission) : Prop where
  rings : ∀ r, q.ring r = p.ring r
  sched : q.sched = p.sched
  windows : q.windows = p.windows
  stats : q.stats = p.stats
  entering : q.entering a = p.entering a
  mapping : q.mapping a.record = p.mapping a.record
  admin : q.admin = p.admin
  reserved : ∀ c, (q.cring c).reserved = (p.cring c).reserved

theorem Part.Admits.slot (h : p.Admits q a) (j : Fin 8) : q.slot j = p.slot j := by
  rw [Part.slot, h.sched, Part.slot]

/-- `t` shows the queue as `q` has it. -/
structure State.Shows (t : State) (q : Part) : Prop where
  rings : ∀ r, t.part.ring r = q.ring r
  sched : t.part.sched = q.sched
  windows : t.part.windows = q.windows
  stats : t.part.stats = q.stats
  admission : t.part.fetch.admission = q.fetch.admission
  cring : ∀ c, t.part.cring c = q.cring c

theorem State.Shows.slot {t : State} (h : t.Shows q) (j : Fin 8) : t.part.slot j = q.slot j := by
  rw [Part.slot, h.sched, Part.slot]

theorem State.Shows.window {t : State} (h : t.Shows q) (w : Fin 16) : t.part.window w = q.window w := by
  rw [Part.window, h.windows, Part.window]

theorem State.shows_react (s : State) (q : Part) : ({ s with part := q.react } : State).Shows q :=
  ⟨fun r => Part.react_ring q r, Part.react_sched q, Part.react_windows q, Part.react_stats q, by rw [Part.react_fetch],
    fun c => by simp⟩

/-- The record has entered a FREE slot. -/
theorem Placed.of_free {s t : State} (h : s.part.Admits q a) (ht : t.Shows (q.placeIn a k)) (hk : (s.part.slot k).state = .free) :
    Placed s t a k := by
  have hsched := ht.sched.trans (q.placeIn_sched a k)
  refine ⟨?_, fun j hj => ?_, ?_, ?_, ?_, ?_, ?_⟩
  · rw [ht.slot, q.placeIn_slot, if_pos rfl, h.entering]
    rfl
  · rw [ht.slot, q.placeIn_slot, if_neg hj, h.slot]
  · rw [hsched, if_pos hk, h.sched]
  · rw [hsched, h.sched]
  · rw [ht.rings, q.placeIn_ring, if_pos rfl, h.rings]
    rfl
  · rw [ht.stats, q.placeIn_stats, h.stats]
  · rw [ht.admission, q.placeIn_admission]

/-- The record has taken the victim's slot. -/
theorem Placed.of_evict {s t : State} (h : s.part.Admits q a) (ht : t.Shows ((q.evict v).placeIn a v))
    (hring : (s.part.slot v).ring ≠ a.ring) (hused : (s.part.slot v).state ≠ .free) : Placed s t a v := by
  have hsched := ht.sched.trans ((q.evict v).placeIn_sched a v)
  have hother : (q.slot v).ring ≠ a.ring := by rwa [h.slot]
  refine ⟨?_, fun j hj => ?_, ?_, ?_, ?_, ?_, ?_⟩
  · rw [ht.slot, Part.placeIn_slot, if_pos rfl, Part.evict_entering hother, h.entering]
    rfl
  · rw [ht.slot, Part.placeIn_slot, if_neg hj, q.evict_slot, if_neg hj, h.slot]
  · rw [hsched, q.evict_age, if_neg hused, h.sched]
  · rw [hsched, q.evict_sequence, h.sched]
  · rw [ht.rings, Part.placeIn_ring, if_pos rfl, q.evict_ring, if_neg (Ne.symm hother), h.rings]
    rfl
  · rw [ht.stats, Part.placeIn_stats, q.evict_stats, h.stats]
  · rw [ht.admission, Part.placeIn_admission]

/-- The victim has left its slot to the record. -/
theorem Evicted.of_evict {s t : State} (h : s.part.Admits q a) (ht : t.Shows ((q.evict v).placeIn a v))
    (hring : (s.part.slot v).ring ≠ a.ring) : Evicted s t v a.record := by
  have hwindow (w : Fin 16) : q.window w = s.part.window w := by rw [Part.window, h.windows, Part.window]
  have hvictim : t.part.ring (s.part.slot v).ring =
      (s.part.ring (s.part.slot v).ring).stepsBack (s.part.slot v).index := by
    rw [ht.rings, Part.placeIn_ring, if_neg hring, q.evict_ring, h.slot, if_pos rfl, h.rings]
  refine ⟨fun w => ?_, fun hno c => ?_, ?_, ?_, ?_⟩
  · rw [ht.window, Part.placeIn_window, q.evict_mapping, h.mapping, q.evict_window, h.slot, hwindow]
  · have hnone : q.NoFlush := fun f => by rw [h.admin]; exact hno f
    rw [ht.cring, ((q.evict v).placeIn_keeps a v).cring, hnone.evict_cring, h.slot, ← h.reserved]
  · rw [hvictim]
    rfl
  · rw [hvictim]
    rfl
  · rw [ht.stats, Part.placeIn_stats, q.evict_stats, h.stats]

/-- Where the position at F is NOT_ADMITTED, F stands (R4). -/
theorem SubmissionRing.skipRun_of_notAdmitted {r : SubmissionRing} (h : r.spanMark r.fetchIndex = .notAdmitted) :
    r.skipRun = 0 := by
  unfold SubmissionRing.skipRun
  cases hdrop : r.span.drop (r.spanOffset r.fetchIndex) with
  | nil => simp [hdrop]
  | cons m l =>
    have hhead : r.span[r.spanOffset r.fetchIndex]? = some m := by rw [← List.head?_drop, hdrop, List.head?_cons]
    have hm : m = .notAdmitted := by
      rwa [SubmissionRing.spanMark, List.getD_eq_getElem?_getD, hhead, Option.getD_some] at h
    cases hn : r.spanLimit - r.spanOffset r.fetchIndex <;> simp [hdrop, hm, hn]

/-- The position given back is the next to be fetched (R13). -/
theorem SubmissionRing.stepsBack_fetchIndex (r : SubmissionRing) {i : Nat} (hi : i < r.size) : (r.stepsBack i).fetchIndex = i := by
  have hmark : (r.giveBack i).spanMark i = .notAdmitted := by rw [SubmissionRing.giveBack_spanMark, if_pos rfl]
  have hrun : SubmissionRing.skipRun { r.giveBack i with fetchIndex := i, evictionBar := false } = 0 :=
    SubmissionRing.skipRun_of_notAdmitted hmark
  unfold SubmissionRing.stepsBack SubmissionRing.skipFetch
  simp only [hrun, Nat.add_zero]
  exact Nat.mod_eq_of_lt hi

/-- The part with the fetched record in the admission register has the queue as it was. -/
theorem Part.recordTaken_admits (p : Part) (f : Flight) (rec : Block) : p.Admits (p.recordTaken f rec) (f.brings rec) :=
  ⟨fun _ => rfl, rfl, rfl, rfl, rfl, rfl, rfl, fun _ => rfl⟩

/-- Settles O25. -/
theorem fullQueueEvictsOrBars : Obligations.FullQueueEvictsOrBars := by
  intro s rec f hrunning hread hflight hkept hactive hfull hage
  have heffect := effect_recordTaken (rec := rec) hrunning hread hflight hkept hactive
  have hadmits := s.part.recordTaken_admits f rec
  set p := s.part.recordTaken f rec with hp
  refine ⟨fun v hmem hevictable hring hsize hyoungest hless => ?_, fun hnone => ?_⟩
  · have hvictim : p.victim f.ring = some v :=
      Part.victim_eq hage (Part.mem_evictableFor_iff.2 ⟨hmem, hevictable, hring⟩) fun u hu => by
        obtain ⟨humem, huevictable, huring⟩ := Part.mem_evictableFor_iff.1 hu
        exact hyoungest u humem huevictable huring
    have hplace : p.place = (p.evict v).placeIn (f.brings rec) v := Part.place_evicts rfl hfull hvictim hless
    rw [hplace] at heffect
    set q := (p.evict v).placeIn (f.brings rec) v with hq
    have hshows := State.shows_react s q
    have hplaced : Placed s { s with part := q.react } (f.brings rec) v :=
      Placed.of_evict hadmits hshows hring (hfull v)
    have hindex : (s.part.slot v).index < (s.part.ring (s.part.slot v).ring).size := by
      simp only [Part.evictable, Bool.and_eq_true, beq_iff_eq] at hevictable
      rw [hevictable.2]
      exact Nat.mod_lt _ hsize
    have hslot := hplaced.slot
    refine ⟨_, exec_of_effect heffect, by rw [hslot], by rw [hslot]; rfl, by rw [hslot]; rfl, by rw [hslot]; rfl,
      by rw [hslot]; rfl, hplaced.others, ?_, Evicted.of_evict hadmits hshows hring, hplaced.stats, hplaced.register, ?_⟩
    · have hother : (s.part.slot v).ring ≠ (f.brings rec).ring := hring
      rw [hshows.rings, hq, Part.placeIn_ring, if_neg hother]
      have hback := (p.evict_ring v (p.slot v).ring).trans (if_pos rfl)
      exact (congrArg SubmissionRing.fetchIndex hback).trans (SubmissionRing.stepsBack_fetchIndex _ hindex)
    · rw [Part.react_compl, ((p.evict v).placeIn_keeps _ v).compl, p.evict_fifo]
      rfl
  · have hplace : p.place = p.attemptFails (f.brings rec) := by
      refine Part.place_fails rfl hfull fun v hv => ?_
      obtain ⟨hmem, -⟩ := (p.victim_greatest f.ring).2 v hv
      obtain ⟨hage, hevictable, hring⟩ := Part.mem_evictableFor_iff.1 hmem
      exact hnone v hage hevictable hring
    rw [hplace] at heffect
    have hkeeps := p.attemptFails_keeps (f.brings rec)
    refine ⟨_, exec_of_effect heffect, ?_, ?_, ?_, ?_, fun r hr => ?_, fun hno c => ?_, ?_, ?_⟩
    · rw [Part.react_sched, hkeeps.sched]
      rfl
    · rw [Part.react_fetch, p.attemptFails_admission]
    · rw [Part.react_fetch, p.attemptFails_flight]
      rfl
    · exact (Part.react_ring _ _).trans ((p.attemptFails_ring (f.brings rec) f.ring).trans (if_pos rfl))
    · exact (Part.react_ring _ _).trans ((p.attemptFails_ring (f.brings rec) r).trans (if_neg hr))
    · have hnoFlush : p.NoFlush := hno
      rw [Part.react_cring, hnoFlush.attemptFails_cring]
      rfl
    · rw [Part.react_windows, hkeeps.windows]
      rfl
    · rw [Part.react_stats, hkeeps.stats]
      rfl

end Sys2Proof.Machine
end

section
/-! ENABLE from QUIESCED: the arm pending flags are tested and a waiting record is placed (R9, R10, R12, R13, R14,
R125, R127, R144, R172): O11. -/

-- One declaration at a time: every further thread counts against the memory the check allows.
set_option Elab.async false

namespace Sys2Proof.Machine

variable {p q : Part} {a : Admission} {k v : Fin 8}

/-! ### The arm pending tests (R125, R127, R144) -/

/-- What the test of its arm pending flag leaves of a completion ring. -/
def CompletionRing.tested (r : CompletionRing) : CompletionRing :=
  { r with
    armPending := false
    armed := if r.armPending then decide (r.producer = r.consumer) else r.armed }

/-- The test of completion ring `c`. -/
def Part.ringTest (p : Part) (c : Fin 8) : Part :=
  if (p.cring c).armPending then (p.modCring c fun r => { r with armPending := false }).armTest c else p

/-- The signals that the tests of the rings `l` send. -/
def Part.testSignals (p : Part) (l : List (Fin 8)) : List (Fin 16) :=
  (l.filter fun c => (p.cring c).armPending && (p.cring c).producer != (p.cring c).consumer).map fun c => (p.cring c).vector

/-- What a run of tests may touch. -/
structure Part.Tests (p q : Part) : Prop where
  keeps : p.Keeps [.host, .out, .compl, .notices] q
  fifo : q.compl.fifo = p.compl.fifo
  adminHeld : q.compl.adminHeld = p.compl.adminHeld

theorem Part.Tests.refl (p : Part) : p.Tests p := ⟨p.keeps_self _, rfl, rfl⟩

theorem Part.Tests.trans {r : Part} (h : p.Tests q) (h' : q.Tests r) : p.Tests r :=
  ⟨h.keeps.trans h'.keeps, h'.fifo.trans h.fifo, h'.adminHeld.trans h.adminHeld⟩

theorem Part.Tests.signal (h : p.Tests q) (v : Fin 16) : p.Tests (q.signal v) :=
  h.trans ⟨(q.signal_keeps v).mono (by simp), by rw [(q.signal_keeps v).compl], by rw [(q.signal_keeps v).compl]⟩

theorem Part.tests_modCring (p : Part) (c : Fin 8) (f : CompletionRing → CompletionRing) : p.Tests (p.modCring c f) :=
  ⟨by simp, rfl, rfl⟩

theorem CompletionRing.tested_of_not_pending {r : CompletionRing} (h : ¬r.armPending = true) : r.tested = r := by
  rw [CompletionRing.tested, if_neg h, ← Bool.eq_false_iff.2 h]

/-- The test of a ring leaves its own flags changed, and sends its signal where an entry is unconsumed. -/
theorem Part.ringTest_spec (p : Part) (c : Fin 8) : p.Tests (p.ringTest c)
    ∧ (∀ x, (p.ringTest c).cring x = if x = c then (p.cring x).tested else p.cring x)
    ∧ (p.ringTest c).compl.adminRing = p.compl.adminRing ∧ (p.ringTest c).notices = p.notices
    ∧ p.Signals (p.ringTest c) (p.testSignals [c]) := by
  have hcleared : (p.modCring c fun r => { r with armPending := false }).cring c =
      { p.cring c with armPending := false } := (Part.modCring_cring p c c _).trans (if_pos rfl)
  have hcring {g : CompletionRing → CompletionRing} (hg : g (p.cring c) = (p.cring c).tested) (x : Fin 8) :
      (p.modCring c g).cring x = if x = c then (p.cring x).tested else p.cring x := by
    rw [Part.modCring_cring]
    by_cases hx : x = c
    · rw [if_pos hx, if_pos hx, hx, hg]
    · rw [if_neg hx, if_neg hx]
  by_cases hpending : (p.cring c).armPending = true
  · by_cases hempty : (p.cring c).producer = (p.cring c).consumer
    · have heq : p.ringTest c = p.modCring c fun r => { r with armPending := false, armed := true } := by
        rw [Part.ringTest, if_pos hpending, Part.armTest_of_empty (by rw [hcleared]; exact hempty), Part.modCring_modCring]
      have hnone : p.testSignals [c] = [] := by simp [Part.testSignals, hempty]
      rw [heq, hnone]
      refine ⟨p.tests_modCring c _, hcring ?_, rfl, rfl, p.signals_nil.same rfl rfl rfl rfl⟩
      simp [CompletionRing.tested, hpending, hempty]
    · have heq : p.ringTest c = (p.modCring c fun r => { r with armPending := false, armed := false }).signal
          (p.cring c).vector := by
        rw [Part.ringTest, if_pos hpending, Part.armTest_of_unconsumed (by rw [hcleared]; exact hempty),
          Part.modCring_modCring, hcleared]
      have hone : p.testSignals [c] = [(p.cring c).vector] := by simp [Part.testSignals, hpending, hempty]
      set r := p.modCring c fun r => { r with armPending := false, armed := false } with hr
      have hsignal := r.signal_keeps (p.cring c).vector
      rw [heq, hone]
      refine ⟨(p.tests_modCring c _).signal _, fun x => (hsignal.cring x).trans (hcring ?_ x), by rw [hsignal.compl]; rfl,
        hsignal.notices, (r.signals_signal _).since rfl rfl⟩
      simp [CompletionRing.tested, hpending, hempty]
  · have heq : p.ringTest c = p := if_neg hpending
    have hnone : p.testSignals [c] = [] := by simp [Part.testSignals, hpending]
    rw [heq, hnone]
    refine ⟨.refl p, fun x => ?_, rfl, rfl, p.signals_nil⟩
    by_cases hx : x = c
    · rw [if_pos hx, hx, CompletionRing.tested_of_not_pending hpending]
    · rw [if_neg hx]

/-- The tests of several rings, in order. -/
theorem Part.ringTests_spec (p : Part) {l : List (Fin 8)} (hl : l.Nodup) : p.Tests (l.foldl Part.ringTest p)
    ∧ (∀ x, (l.foldl Part.ringTest p).cring x = if x ∈ l then (p.cring x).tested else p.cring x)
    ∧ (l.foldl Part.ringTest p).compl.adminRing = p.compl.adminRing ∧ (l.foldl Part.ringTest p).notices = p.notices
    ∧ p.Signals (l.foldl Part.ringTest p) (p.testSignals l) := by
  induction l generalizing p with
  | nil => exact ⟨.refl p, fun x => by simp, rfl, rfl, p.signals_nil⟩
  | cons c l ih =>
    obtain ⟨hc, hl⟩ := List.nodup_cons.1 hl
    obtain ⟨hkeeps, hcring, hadmin, hnotices, hsignals⟩ := p.ringTest_spec c
    obtain ⟨hkeeps', hcring', hadmin', hnotices', hsignals'⟩ := ih (p.ringTest c) hl
    have hsame (x : Fin 8) (hx : x ∈ l) : (p.ringTest c).cring x = p.cring x :=
      (hcring x).trans (if_neg fun h : x = c => hc (h ▸ hx))
    have hrest : (p.ringTest c).testSignals l = p.testSignals l := by
      unfold Part.testSignals
      rw [List.filter_congr fun x hx => by rw [hsame x hx]]
      exact List.map_congr_left fun x hx => by rw [hsame x (List.mem_of_mem_filter hx)]
    have hsplit : p.testSignals (c :: l) = p.testSignals [c] ++ (p.ringTest c).testSignals l := by
      rw [hrest]
      unfold Part.testSignals
      rw [← List.map_append, ← List.filter_append]
      rfl
    rw [List.foldl_cons, hsplit]
    refine ⟨hkeeps.trans hkeeps', fun x => ?_, hadmin'.trans hadmin, hnotices'.trans hnotices, hsignals.trans hsignals'⟩
    rw [hcring', hcring]
    by_cases hx : x = c
    · subst hx
      simp [hc]
    · simp [hx]

/-- What the test of its arm pending flag leaves of the admin completion ring. -/
def AdminRing.tested (r : AdminRing) : AdminRing :=
  { r with
    armPending := false
    armed := if r.armPending then decide (r.producer = r.consumer) else r.armed }

/-- The test of the admin completion ring. -/
def Part.adminTest (p : Part) : Part :=
  if p.compl.adminRing.armPending then
    (p.onCompl fun c => { c with adminRing := { c.adminRing with armPending := false } }).adminArmTest
  else p

theorem Part.adminTest_spec (p : Part) : p.Tests p.adminTest ∧ (∀ x, p.adminTest.cring x = p.cring x)
    ∧ p.adminTest.compl.adminRing = p.compl.adminRing.tested ∧ p.adminTest.notices = p.notices
    ∧ p.Signals p.adminTest (if p.compl.adminRing.armPending = true
      ∧ p.compl.adminRing.producer ≠ p.compl.adminRing.consumer then [0] else []) := by
  by_cases hpending : p.compl.adminRing.armPending = true
  · by_cases hempty : p.compl.adminRing.producer = p.compl.adminRing.consumer
    · have heq : p.adminTest = p.onCompl fun c =>
          { c with adminRing := { c.adminRing with armPending := false, armed := true } } := by
        exact (if_pos hpending).trans ((Part.adminArmTest_of_empty (by exact hempty)).trans rfl)
      rw [heq, if_neg fun h => h.2 hempty]
      refine ⟨⟨by simp, rfl, rfl⟩, fun x => rfl, ?_, rfl, p.signals_nil.same rfl rfl rfl rfl⟩
      simp [AdminRing.tested, hpending, hempty]
    · set q := p.onCompl fun c => { c with adminRing := { c.adminRing with armPending := false, armed := false } } with hq
      have heq : p.adminTest = q.signal 0 := by
        exact (if_pos hpending).trans ((Part.adminArmTest_of_unconsumed (by exact hempty)).trans rfl)
      have hsignal := q.signal_keeps 0
      have htests : p.Tests q := ⟨by simp [hq], rfl, rfl⟩
      rw [heq, if_pos ⟨hpending, hempty⟩]
      refine ⟨htests.signal 0, fun x => (hsignal.cring x).trans rfl, ?_, hsignal.notices, (q.signals_signal 0).since rfl rfl⟩
      rw [hsignal.compl]
      simp [hq, AdminRing.tested, hpending, hempty]
  · have heq : p.adminTest = p := if_neg hpending
    rw [heq, if_neg fun h => hpending h.1]
    refine ⟨.refl p, fun x => rfl, ?_, rfl, p.signals_nil⟩
    rw [AdminRing.tested, if_neg hpending, ← Bool.eq_false_iff.2 hpending]

/-- What the test of its arm pending flag leaves of the notice ring. -/
def NoticeRing.tested (n : NoticeRing) : NoticeRing :=
  { n with
    armPending := false
    normalArmed := if n.armPending then decide (n.producer = n.consumer) else n.normalArmed
    urgentArmed := if n.armPending then !n.urgentIn n.consumer n.producer else n.urgentArmed }

/-- The test of the notice ring. -/
def Part.noticeTest (p : Part) : Part :=
  if p.notices.ring.armPending then
    (p.onNotices fun u => { u with ring := { u.ring with armPending := false } }).noticeArmTest
  else p

theorem Part.noticeTest_spec (p : Part) : p.Tests p.noticeTest ∧ p.noticeTest.compl = p.compl
    ∧ p.noticeTest.notices = { p.notices with ring := p.notices.ring.tested }
    ∧ p.Signals p.noticeTest (if p.notices.ring.armPending then p.notices.ring.armSignals else []) := by
  by_cases hpending : p.notices.ring.armPending = true
  · set q := p.onNotices fun u => { u with ring := { u.ring with armPending := false } } with hq
    have heq : p.noticeTest = q.noticeArmTest := if_pos hpending
    have hkeeps : p.Keeps [.host, .out, .notices] q.noticeArmTest := by simp [hq]
    rw [heq, if_pos hpending]
    refine ⟨⟨hkeeps.mono (by simp), by rw [hkeeps.compl], by rw [hkeeps.compl]⟩, hkeeps.compl, ?_,
      q.signals_noticeArmTest.since rfl rfl⟩
    rw [Part.noticeArmTest_notices]
    simp [hq, NoticeRing.tested, hpending, NoticeRing.urgentIn]
  · have heq : p.noticeTest = p := if_neg hpending
    rw [heq, if_neg hpending]
    refine ⟨.refl p, rfl, ?_, p.signals_nil⟩
    have hring : p.notices.ring.tested = p.notices.ring := by
      rw [NoticeRing.tested, if_neg hpending, if_neg hpending, ← Bool.eq_false_iff.2 hpending]
    rw [hring]

theorem Part.armPendingTests_eq (p : Part) :
    p.armPendingTests = ((List.finRange 8).foldl Part.ringTest p).adminTest.noticeTest := by
  have hstep : Part.ringTest = fun p c => if (p.cring c).armPending then
      (p.modCring c fun r => { r with armPending := false }).armTest c else p := rfl
  unfold Part.armPendingTests
  rw [← hstep]
  generalize (List.finRange 8).foldl Part.ringTest p = q
  rfl

/-- The arm pending tests: every ring's flags as the tests leave them, and the signals in order. -/
theorem Part.armPendingTests_spec (p : Part) : p.Tests p.armPendingTests
    ∧ (∀ x, p.armPendingTests.cring x = (p.cring x).tested)
    ∧ p.armPendingTests.compl.adminRing = p.compl.adminRing.tested
    ∧ p.armPendingTests.notices = { p.notices with ring := p.notices.ring.tested }
    ∧ p.Signals p.armPendingTests p.resumeSignals := by
  obtain ⟨hkeeps, hcring, hadmin, hnotices, hsignals⟩ := p.ringTests_spec (List.nodup_finRange 8)
  rw [p.armPendingTests_eq]
  generalize (List.finRange 8).foldl Part.ringTest p = p₁ at *
  obtain ⟨hkeeps₁, hcring₁, hadmin₁, hnotices₁, hsignals₁⟩ := p₁.adminTest_spec
  generalize p₁.adminTest = p₂ at *
  obtain ⟨hkeeps₂, hcompl₂, hnotices₂, hsignals₂⟩ := p₂.noticeTest_spec
  refine ⟨(hkeeps.trans hkeeps₁).trans hkeeps₂, fun x => ?_, ?_, ?_, ?_⟩
  · have hsame : p₂.noticeTest.cring x = p₂.cring x := by rw [Part.cring, hcompl₂, Part.cring]
    rw [hsame, hcring₁, hcring, if_pos (List.mem_finRange x)]
  · rw [hcompl₂, hadmin₁, hadmin]
  · rw [hnotices₂, hnotices₁, hnotices]
  · rw [hadmin] at hsignals₁
    rw [hnotices₁, hnotices] at hsignals₂
    exact (hsignals.trans hsignals₁).trans hsignals₂

/-! ### ENABLE from QUIESCED -/

/-- Of the completion side no more than the reserved counts changes. -/
structure Part.ReservedOnly (p q : Part) : Prop where
  fifo : q.compl.fifo = p.compl.fifo
  adminRing : q.compl.adminRing = p.compl.adminRing
  cring : ∀ x, ∃ n, q.cring x = { p.cring x with reserved := n }

theorem Part.ReservedOnly.of_compl (h : q.compl = p.compl) : p.ReservedOnly q :=
  ⟨by rw [h], by rw [h], fun x => ⟨(p.cring x).reserved, by rw [Part.cring, h, ← Part.cring]⟩⟩

theorem Part.ReservedOnly.trans {r : Part} (h : p.ReservedOnly q) (h' : q.ReservedOnly r) : p.ReservedOnly r :=
  ⟨h'.fifo.trans h.fifo, h'.adminRing.trans h.adminRing, fun x => by
    obtain ⟨n, hn⟩ := h.cring x
    obtain ⟨m, hm⟩ := h'.cring x
    exact ⟨m, by rw [hm, hn]⟩⟩

theorem Part.reservedOnly_modCring (p : Part) (c : Fin 8) (n : Nat → Nat) :
    p.ReservedOnly (p.modCring c fun x => { x with reserved := n x.reserved }) :=
  ⟨rfl, rfl, fun x => by
    by_cases hx : x = c
    · exact ⟨n (p.cring x).reserved, by rw [Part.modCring_cring, if_pos hx]⟩
    · exact ⟨(p.cring x).reserved, by rw [Part.modCring_cring, if_neg hx]⟩⟩

theorem Part.reservedOnly_released (p : Part) (c : Option (Fin 8)) : p.ReservedOnly (p.released c) := by
  cases c with
  | none => exact .of_compl rfl
  | some c =>
    rcases p.unreserve_cases c with h | ⟨g, -, -, h⟩
    · rw [Part.released, h]
      exact p.reservedOnly_modCring c (· - 1)
    · rw [Part.released, h]
      exact (p.reservedOnly_modCring c (· - 1)).trans ((Part.reservedOnly_modCring _ c (· + 1)).trans (.of_compl rfl))

theorem Part.reservedOnly_place (p : Part) : p.ReservedOnly p.place := by
  have hfails (a : Admission) : p.ReservedOnly (p.attemptFails a) := by
    have hreleased := Part.reservedOnly_released (p.onFetch fun u => { u with admission := none }) (some a.reservation)
    have hstart : p.ReservedOnly (p.onFetch fun u => { u with admission := none }) := .of_compl rfl
    have hend : (p.attemptFails a).compl =
        ((p.onFetch fun u => { u with admission := none }).released (some a.reservation)).compl :=
      (Part.endHoldFor_keeps _ _ _).compl
    exact hstart.trans (hreleased.trans (.of_compl hend))
  unfold Part.place
  split
  · exact .of_compl rfl
  · next a _ =>
    split
    · exact .of_compl (p.placeIn_keeps a _).compl
    · split
      · exact hfails a
      · next v _ =>
        split
        · refine (p.reservedOnly_released (p.slot v).reservation).trans (.of_compl ?_)
          rw [((p.evict v).placeIn_keeps a v).compl]
          have hkeeps : (p.released (p.slot v).reservation).Keeps [.fetch, .sched, .windows, .stats] (p.evict v) := by
            simp [Part.evict, Part.vacate_eq]
          exact hkeeps.compl
        · exact hfails a

theorem Part.place_none (h : p.fetch.admission = none) : p.place = p := by
  simp only [Part.place, h]

theorem Part.place_admission (p : Part) : p.place.fetch.admission = none := by
  unfold Part.place
  split
  · assumption
  · (repeat' split)
    all_goals simp only [Part.placeIn_admission, Part.attemptFails_admission]

theorem Part.entering_congr (hrings : ∀ r, q.ring r = p.ring r) (hsched : q.sched = p.sched)
    (hmapping : q.mapping a.record = p.mapping a.record) : q.entering a = p.entering a := by
  have hring : q.ring = p.ring := funext hrings
  have hslot : q.slot = p.slot := by
    funext k
    rw [Part.slot, hsched, Part.slot]
  unfold Part.entering Part.effectiveClass Part.chainAtAdmission
  simp only [hring, hslot, hsched, hmapping]

/-- Settles O11. -/
theorem enableFromQuiescedResumes : Obligations.EnableFromQuiescedResumes := by
  intro s hquiesced
  set p₀ := s.part.onEngine fun e => { e with state := .running } with hp₀
  obtain ⟨htests, hcring, hadminRing, hnotices, hsignals⟩ := p₀.armPendingTests_spec
  set p := p₀.armPendingTests with hp
  have heffect : effect .enable s.part = p.place.react := by
    simp only [effect, Part.enable, hquiesced]
    rfl
  have hkeeps := htests.keeps
  have hplaced := p.place_keeps
  have hreserved := p.reservedOnly_place
  have hadmission : p.fetch.admission = s.part.fetch.admission := by rw [hkeeps.fetch]; rfl
  have hring (r : Fin 8) : p.ring r = s.part.ring r := (hkeeps.ring r).trans rfl
  have hsched : p.sched = s.part.sched := hkeeps.sched
  have hslot (j : Fin 8) : p.slot j = s.part.slot j := (hkeeps.slot j).trans rfl
  have hwindows : p.windows = s.part.windows := hkeeps.windows
  have hmapping (rec : Block) : p.mapping rec = s.part.mapping rec := by
    refine Part.mapping_congr (n := fun w => (s.part.window w).inFlight) ?_ (fun w => ?_) rec
    · rw [hnotices]
      rfl
    · exact (hkeeps.window w).trans rfl
  have hclass (r : Fin 8) (rec : Block) : p.effectiveClass r rec = s.part.effectiveClass r rec := by
    rw [Part.effectiveClass, Part.effectiveClass, hring]
  have hvictim (r : Fin 8) : p.victim r = s.part.victim r := by
    have hr : p.ring = s.part.ring := funext hring
    have hk : p.slot = s.part.slot := funext hslot
    unfold Part.victim Part.evictable
    rw [hr, hk, hsched]
  have hadmits (a : Admission) : s.part.Admits p a :=
    ⟨hring, hsched, hwindows, hkeeps.stats, Part.entering_congr hring hsched (hmapping _), hmapping _, hkeeps.admin,
      fun c => by rw [hcring]; rfl⟩
  have hshows := State.shows_react s p.place
  have hfinal (c : Fin 8) : ∃ n, p.place.react.cring c = { (s.part.cring c).tested with reserved := n } := by
    obtain ⟨n, hn⟩ := hreserved.cring c
    exact ⟨n, by rw [Part.react_cring, hn, hcring]; rfl⟩
  have hfinalAdmin : p.place.react.compl.adminRing = s.part.compl.adminRing.tested := by
    rw [Part.react_compl, hreserved.adminRing, hadminRing]
    rfl
  have hfinalNotices : p.place.react.notices.ring = s.part.notices.ring.tested := by
    rw [Part.react_notices_ring, hplaced.notices, hnotices]
    rfl
  refine ⟨_, exec_of_effect heffect, ?_, ?_, fun hnone => ?_, fun a k ha hk hfirst => ?_, fun a v ha hfull hv hless => ?_,
    fun a ha hfull hnone => ?_, ?_, fun c => ?_, ?_, ?_, ?_, ?_, ?_, ?_, ?_, rfl⟩
  · rw [Part.react_engine, hplaced.engine, hkeeps.engine]
    rfl
  · rw [Part.react_fetch, p.place_admission]
  · have hsame : p.place = p := Part.place_none (hadmission.trans hnone)
    rw [hsame, Part.react_fetch, Part.react_sched, Part.react_windows, Part.react_stats]
    exact ⟨hkeeps.fetch, hsched, hwindows, hkeeps.stats⟩
  · have hplace : p.place = p.placeIn a k := Part.place_free (hadmission.trans ha) (by rw [hslot]; exact hk) fun j hj => by
      rw [hslot]
      exact hfirst j hj
    exact Placed.of_free (hadmits a) (hplace ▸ hshows) hk
  · have hplace : p.place = (p.evict v).placeIn a v := by
      refine Part.place_evicts (hadmission.trans ha) (fun j => by rw [hslot]; exact hfull j) ((hvictim _).trans hv) ?_
      rw [hclass, hslot]
      exact hless
    obtain ⟨-, hother⟩ := Part.victim_mem hv
    exact ⟨Placed.of_evict (hadmits a) (hplace ▸ hshows) hother (hfull v), Evicted.of_evict (hadmits a) (hplace ▸ hshows) hother⟩
  · have hplace : p.place = p.attemptFails a := by
      refine Part.place_fails (hadmission.trans ha) (fun j => by rw [hslot]; exact hfull j) fun v hv => ?_
      rw [hclass, hslot]
      exact hnone v ((hvictim _).symm.trans hv)
    have hfails := p.attemptFails_keeps a
    rw [hplace]
    refine ⟨?_, ?_, fun r hr => ?_, ?_, ?_, fun hno c => ?_⟩
    · rw [Part.react_sched, hfails.sched, hsched]
    · rw [Part.react_ring, p.attemptFails_ring, if_pos rfl, hring]
    · rw [Part.react_ring, p.attemptFails_ring, if_neg hr, hring]
    · rw [Part.react_windows, hfails.windows, hwindows]
    · rw [Part.react_stats, hfails.stats, hkeeps.stats]
      rfl
    · have hnoFlush : p.NoFlush := fun f => by rw [hkeeps.admin]; exact hno f
      rw [Part.react_cring, hnoFlush.attemptFails_cring, hcring]
      rfl
  · have hsent : s.part.Signals p s.part.resumeSignals := hsignals.since rfl rfl
    exact (hsent.same (by rw [Part.react_out, hplaced.out]) (by rw [Part.react_host_vectorPending, hplaced.host])
      (by simp [hplaced.host]) (by simp [hplaced.host])).signalled
  · obtain ⟨n, hn⟩ := hfinal c
    rw [hn]
    exact ⟨rfl, rfl, rfl, rfl⟩
  · rw [hfinalAdmin]
    rfl
  · rw [hfinalAdmin]
    rfl
  · rw [hfinalNotices]
    rfl
  · rw [hfinalNotices]
    rfl
  · rw [hfinalNotices]
    rfl
  · rw [Part.react_compl, hreserved.fifo, htests.fifo]
    rfl
  · rw [Part.react_master, hplaced.master, hkeeps.master]
    rfl

end Sys2Proof.Machine
end

section
/-! A fatal report takes the engine to FAILED (R8, R122, R141, R149, R165, R169, R170, R174): O21. -/

-- One declaration at a time: every further thread counts against the memory the check allows.
set_option Elab.async false

namespace Sys2Proof.Machine

variable {p q : Part} {o : Operation} {e : OperationEnd} {cause : FatalCause} {id : Nat} {x : Source}

/-! ### In FAILED nothing is asked for -/

theorem Part.nothingDue_of_failed (h : p.engine.state = .failed) : p.NothingDue := by
  refine ⟨?_, ?_, ?_, ?_, ?_⟩
  · rintro ⟨f, -, -, -, halive⟩
    simp [h, EngineState.alive] at halive
  · rintro ⟨hworks, -⟩
    simp [h, EngineState.working] at hworks
  · rintro ⟨hworks, -⟩
    simp [h, EngineState.working] at hworks
  · rintro ⟨hrunning, -⟩
    simp [h] at hrunning
  · rintro ⟨hrunning, -⟩
    simp [h] at hrunning

/-- The port of a part that does not own the backplane, or has left it. -/
def Port.OffBus (x : Port) : Prop :=
  x.state = .joining ∨ x.state = .idle ∨ x.state = .requesting ∨ (x.state = .detached ∧ x.req = false)

/-- A rise of the error count in FAILED, at its limit too, tells nothing. -/
theorem Part.raiseError_of_failed (h : p.engine.state = .failed) : p.Keeps [.port, .notices, .stats] p.raiseError
    ∧ (p.port.OffBus → p.raiseError.port.OffBus) := by
  by_cases hlimit : p.port.errorCount = 15
  · have hdead : (p.onPort Port.raise).engine.state.alive = false := by simp [h, EngineState.alive]
    rw [Part.raiseError_limit hlimit]
    unfold Part.leaveAtLimit
    rw [Part.detach_untold hdead]
    split
    · exact ⟨by simp, fun _ => .inr (.inr (.inr ⟨rfl, rfl⟩))⟩
    · exact ⟨by simp, fun _ => .inr (.inr (.inr ⟨rfl, rfl⟩))⟩
    · next hs => exact ⟨by simp, fun hoff => absurd hoff (by simp [Port.OffBus, (show p.port.state = .owner from hs)])⟩
    · next hs => exact ⟨by simp, fun hoff => absurd hoff (by simp [Port.OffBus, (show p.port.state = .yielding from hs)])⟩
    · next hs => exact ⟨by simp, fun hoff => absurd hoff (by simp [Port.OffBus, (show p.port.state = .releasing from hs)])⟩
    · exact ⟨by simp, id⟩
    · exact ⟨by simp, id⟩
  · rw [Part.raiseError_below hlimit]
    exact ⟨by simp, id⟩

/-- In FAILED a report counts, and changes no ring, no completion and no command (R174). -/
theorem Part.verdict_of_failed (h : p.engine.state = .failed) (o : Operation) (e : OperationEnd) :
    p.Keeps [.sched, .windows, .port, .notices, .stats] (p.verdict o e)
    ∧ (p.port.OffBus → (p.verdict o e).port.OffBus) := by
  by_cases he : e = .protocolFault
  · subst he
    obtain ⟨q, hv, hq⟩ := p.verdict_protocolFault o
    obtain ⟨hkeeps, hoff⟩ := Part.raiseError_of_failed (p := q) (by rw [hq.engine, h])
    rw [hv]
    exact ⟨(hq.mono (by simp)).trans (hkeeps.mono (by simp)), fun hport => hoff (by rwa [hq.port])⟩
  · exact ⟨p.verdict_keeps_of o (by simp) (by simp) (fun h => absurd h he), fun hport => by
      rw [p.verdict_port o (.inl he)]
      exact hport⟩

theorem Part.reportBurst_of_failed_keeps (h : p.engine.state = .failed) (o : Operation) (k : Fin 8) (e : OperationEnd)
    (n : Nat) (b : Bool) : p.Keeps [.sched, .windows, .master, .port, .notices, .stats] (p.reportBurst o k e n b)
      ∧ (p.port.OffBus → (p.reportBurst o k e n b).port.OffBus) := by
  have hidle : p.masterIdle.engine.state = .failed := h
  obtain ⟨hverdict, hoff⟩ := Part.verdict_of_failed hidle o e
  have hleft := p.pageLeft_verdict o k e n b
  rw [Part.reportBurst_of_failed h]
  have hkeeps : (p.masterIdle.verdict o e).Keeps [.sched, .windows, .stats] ((p.pageLeft o k e n b).modSlot k fun _ =>
      { ((p.reported o e).slot k).tookReport e n with state := .started }) := by
    have := hleft.mono (l' := [.sched, .windows, .stats]) (by simp)
    simpa using this
  refine ⟨?_, fun hport => ?_⟩
  · have hmaster : p.Keeps [.master] p.masterIdle := by simp
    exact ((hmaster.mono (by simp)).trans (hverdict.mono (by simp))).trans (hkeeps.mono (by simp))
  · rw [hkeeps.port]
    exact hoff hport

theorem Part.dropDelivery_of_failed (h : p.engine.state = .failed) :
    p.Keeps [.sched, .windows, .master, .port, .notices, .stats] p.dropDelivery
      ∧ (p.port.OffBus → p.dropDelivery.port.OffBus) := by
  unfold Part.dropDelivery
  (repeat' split)
  · exact Part.reportBurst_of_failed_keeps h ..
  all_goals exact ⟨p.keeps_self _, id⟩

/-! ### The step to FAILED -/

/-- The part is in FAILED with this cause, its requests gone, and the rest of it as `p` has it (R174). -/
structure Part.Fails (p q : Part) (cause : FatalCause) (id : Nat) : Prop where
  engine : q.engine = { p.engine with state := .failed, cause := cause, ringId := id }
  waiting : ∀ x, q.request x = none
  abandoned : q.host.abandoned = []
  outstanding : p.host.outstanding = none → q.host.outstanding = none
  keeps : p.Keeps [.engine, .host, .sched, .windows, .master, .port, .notices, .stats] q
  port : p.port.state = .joining ∨ p.port.state = .idle ∨ p.port.state = .requesting →
    q.port.state = .detached ∧ q.port.req = false

theorem Part.abandonFetch_host (p : Part) : p.abandonFetch.host = p.host ∨ p.abandonFetch.host = p.host.abandonRead := by
  unfold Part.abandonFetch
  split
  · refine .inr ?_
    (repeat' split) <;> rfl
  · exact .inl rfl

/-- With no request waiting, the abandoned read leaves none behind. -/
theorem HostPort.abandonRead_of_dropped {h : HostPort} (hwaiting : h.waiting = Vector.replicate 6 none)
    (habandoned : h.abandoned = []) : h.abandonRead.waiting = Vector.replicate 6 none ∧ h.abandonRead.abandoned = []
      ∧ (h.outstanding = none → h.abandonRead.outstanding = none) := by
  refine ⟨?_, ?_, fun hnone => ?_⟩
  · rw [HostPort.abandonRead, hwaiting]
    rfl
  · rw [HostPort.abandonRead, hwaiting, habandoned]
    rfl
  · rw [HostPort.abandonRead, hnone]
    rfl

theorem Part.failPort_off (h : p.port.OffBus) : p.failPort.port.state = .detached ∧ p.failPort.port.req = false := by
  unfold Part.failPort
  rcases h with h | h | h | ⟨h, hreq⟩ <;> rw [h]
  · exact ⟨rfl, rfl⟩
  · exact ⟨rfl, rfl⟩
  · exact ⟨rfl, rfl⟩
  · exact ⟨h, hreq⟩

theorem Part.enterFailed_fails (h : p.engine.state.working = true) (cause : FatalCause) (id : Nat) :
    p.Fails (p.enterFailed cause id) cause id := by
  set f := (p.onEngine fun e => { e with state := .failed, cause := cause, ringId := id }).dropRequests with hf
  have heq : p.enterFailed cause id = f.abandonFetch.dropDelivery.failPort := if_pos h
  have hengine : f.engine.state = .failed := rfl
  have hfetch := f.abandonFetch_keeps
  obtain ⟨hdropped, hoff⟩ := Part.dropDelivery_of_failed (p := f.abandonFetch) (by rw [hfetch.engine, hengine])
  have hport := f.abandonFetch.dropDelivery.failPort_keeps
  have hstart : p.Keeps [.engine, .host] f := by simp [hf, Part.dropRequests]
  have hhost : f.abandonFetch.dropDelivery.failPort.host = f.abandonFetch.host := by rw [hport.host, hdropped.host]
  obtain ⟨hwaiting, habandoned, houtstanding⟩ : f.abandonFetch.host.waiting = Vector.replicate 6 none
      ∧ f.abandonFetch.host.abandoned = []
      ∧ (f.host.outstanding = none → f.abandonFetch.host.outstanding = none) := by
    rcases f.abandonFetch_host with h | h
    · rw [h]
      exact ⟨rfl, rfl, fun hnone => hnone⟩
    · rw [h]
      exact HostPort.abandonRead_of_dropped rfl rfl
  rw [heq]
  refine ⟨?_, fun x => ?_, by rw [hhost, habandoned], fun hnone => by rw [hhost]; exact houtstanding hnone, ?_, fun hs => ?_⟩
  · rw [hport.engine, hdropped.engine, hfetch.engine]
    rfl
  · rw [Part.request, hhost, hwaiting]
    simp
  · exact (((hstart.mono (by simp)).trans (hfetch.mono (by simp))).trans (hdropped.mono (by simp))).trans (hport.mono (by simp))
  · refine Part.failPort_off (hoff ?_)
    rw [hfetch.port]
    rcases hs with hs | hs | hs
    · exact .inl hs
    · exact .inr (.inl hs)
    · exact .inr (.inr (.inl hs))

/-- `c` closes the access of `p` and takes the engine to FAILED. -/
def Part.FailsBy (p : Part) (c : Instr) (cause : FatalCause) (id : Nat) : Prop :=
  ∃ q, p.Keeps [.host] q ∧ q.host.outstanding = none ∧ effect c p = (q.enterFailed cause id).react

theorem Part.closed_keeps (h : p.Keeps [.host] q) : p.Keeps [.host] q.closeAccess := by simpa using h

theorem Part.submissionReadFails_eq {f : Flight} (h : p.fetch.flight = some f) :
    p.submissionReadFails = p.enterFailed .submissionRead f.ring.val := by
  simp only [Part.submissionReadFails, h]

/-- The fatal reports and time-outs, each an access closed and the engine failed with its cause and ring id (R165). -/
theorem Part.failsBy_of {c : Instr} (hworks : p.engine.state.working = true)
    (h : (((c = .submissionReadDone none ∧ p.readFailable .ringFetch = true)
          ∨ (c = .hostReadTimeout ∧ p.readOutstanding .ringFetch = true))
        ∧ cause = .submissionRead ∧ (∃ f, p.fetch.flight = some f ∧ id = f.ring.val))
      ∨ (((c = .adminCommandReadFailed ∧ p.readFailable .administration = true)
          ∨ (c = .hostReadTimeout ∧ p.readOutstanding .administration = true))
        ∧ cause = .adminRead ∧ id = 15)
      ∨ (c = .completionEntryWriteDone false ∧ p.writeFailable .posting = true ∧ cause = .completionWrite
        ∧ (∃ x l, p.compl.fifo = x :: l ∧ id = x.reservation.val))
      ∨ (c = .adminCompletionWriteDone false ∧ p.writeFailable .adminPosting = true
        ∧ cause = .adminCompletionWrite ∧ id = 15)
      ∨ (c = .noticeEntryWriteDone false ∧ p.writeFailable .notices = true
        ∧ cause = .noticeWrite ∧ p.notices.write.isSome = true ∧ id = 14)) : p.FailsBy c cause id := by
  rcases h with ⟨h, rfl, f, hflight, rfl⟩ | ⟨h, rfl, rfl⟩ | ⟨rfl, hwrite, rfl, x, l, hfifo, rfl⟩ | ⟨rfl, hwrite, rfl, rfl⟩ |
    ⟨rfl, hwrite, rfl, hsome, rfl⟩
  · rcases h with ⟨rfl, hread⟩ | ⟨rfl, hread⟩
    · have hkeeps := p.forRead_keeps .ringFetch false
      have hworks' : (p.forRead .ringFetch false).engine.state.working = true := by rw [hkeeps.engine, hworks]
      have hflight' : (p.forRead .ringFetch false).fetch.flight = some f := by rw [hkeeps.fetch, hflight]
      refine ⟨_, Part.closed_keeps hkeeps, rfl, ?_⟩
      rw [← Part.submissionReadFails_eq (p := (p.forRead .ringFetch false).closeAccess) hflight']
      simp only [effect, Part.submissionRead, Option.isSome_none, Part.forRead_readOutstanding hread, Part.closeAccess_engine,
        hworks', if_true]
    · refine ⟨_, Part.closed_keeps (p.keeps_self _), rfl, ?_⟩
      rw [← Part.submissionReadFails_eq (p := p.closeAccess) hflight]
      exact if_pos hread
  · rcases h with ⟨rfl, hread⟩ | ⟨rfl, hread⟩
    · refine ⟨_, Part.closed_keeps (p.forRead_keeps .administration false), rfl, ?_⟩
      exact if_pos (Part.forRead_readOutstanding hread)
    · refine ⟨_, Part.closed_keeps (p.keeps_self _), rfl, ?_⟩
      exact (if_neg (by simp [Part.readOutstanding_of_other hread])).trans (if_pos hread)
  · have hkeeps := p.forWrite_keeps .posting false
    refine ⟨_, Part.closed_keeps hkeeps, rfl, ?_⟩
    have hfifo' : (p.forWrite .posting false).compl.fifo = x :: l := by rw [hkeeps.compl, hfifo]
    simp only [effect, Part.completionWritten, Part.forWrite_writeOutstanding hwrite, Part.closeAccess_compl, hfifo', if_true]
    rfl
  · refine ⟨_, Part.closed_keeps (p.forWrite_keeps .adminPosting false), rfl, ?_⟩
    simp only [effect, Part.adminWritten, Part.forWrite_writeOutstanding hwrite, if_true]
    rfl
  · have hkeeps := p.forWrite_keeps .notices false
    obtain ⟨w, hw⟩ := Option.isSome_iff_exists.1 hsome
    refine ⟨_, Part.closed_keeps hkeeps, rfl, ?_⟩
    have hw' : (p.forWrite .notices false).notices.write = some w := by rw [hkeeps.notices, hw]
    simp only [effect, Part.noticeWritten, Part.forWrite_writeOutstanding hwrite, Part.closeAccess_notices, hw', if_true]
    rfl

/-- Settles O21. -/
theorem fatalReportsEnterFailed : Obligations.FatalReportsEnterFailed := by
  intro s c cause id hworks h
  obtain ⟨q, hq, hnone, heffect⟩ := Part.failsBy_of hworks h
  have hfails := Part.enterFailed_fails (p := q) (by rw [hq.engine, hworks]) cause id
  set r := q.enterFailed cause id
  have hfailed : r.engine.state = .failed := by rw [hfails.engine]
  have hkeeps := hfails.keeps
  have hreact := (Part.nothingDue_of_failed hfailed).react_eq
  have hmoved : r.Keeps [.port] r.react := by
    rw [hreact]
    simp [Part.driveLevel]
  refine ⟨_, exec_of_effect heffect, ?_, ?_, fun x => ?_, ?_, fun hs => ?_, ?_, ?_, ?_, ?_, rfl⟩
  · rw [hmoved.engine, hfails.engine, hq.engine]
  · rw [hmoved.host, hfails.outstanding hnone]
  · rw [hmoved.request, hfails.waiting]
  · rw [hmoved.host, hfails.abandoned]
  · obtain ⟨hstate, hreq⟩ := hfails.port (by rwa [hq.port])
    have hstill : r.movePort = r := Part.movePort_eq_self_iff.2 (by rw [Part.portStill, hstate]; trivial)
    rw [hreact, hstill]
    refine ⟨hstate, hreq, ?_⟩
    exact if_neg (by rw [hreq]; simp)
  · rw [hmoved.fetch, hkeeps.fetch, hq.fetch]
  · rw [hmoved.compl, hkeeps.compl, hq.compl]
  · rw [hmoved.admin, hkeeps.admin, hq.admin]
  · rw [hmoved.out, hkeeps.out, hq.out]

end Sys2Proof.Machine
end

section
/-! Completions are handed over, written and counted (R14, R41, R42, R118 to R121, R124, R177): O50. -/

-- One declaration at a time: every further thread counts against the memory the check allows.
set_option Elab.async false

namespace Sys2Proof.Machine

variable {p q : Part} {c : Completion}

/-! ### What follows off the port and the notices -/

/-- What a change off the backplane and the notices brings at the same event stays there. -/
theorem Settled.react_posted (h : Settled p) (hq : p.Keeps [.host, .admin, .compl, .out] q) :
    p.Keeps [.host, .admin, .compl, .out] q.react := by
  have hport : q.react.port = p.port := (h.react_port (hq.mono (by simp)).sameBus).trans hq.port
  have hnotices : q.react.notices = p.notices := by
    refine (Part.react_notices_of_not_due ?_).trans hq.notices
    rw [hq.engine, hq.notices]
    exact fun hrunning hdue => h.nothingDue.notice ⟨hrunning, hdue⟩
  have hreact : p.Keeps [.notices, .port, .host, .admin, .compl, .out] q.react :=
    (Part.keeps_react (by simp)).2 (hq.mono (by simp))
  intro b hb
  by_cases hn : b = .notices
  · exact hn ▸ hnotices
  by_cases hp : b = .port
  · exact hp ▸ hport
  exact hreact b (by simp only [List.mem_cons] at hb ⊢; tauto)

/-- With the FIFO empty no entry is asked for (R121). -/
theorem Part.react_request_posting (h : p.compl.fifo = []) : p.react.request .posting = p.request .posting := by
  have hadmin (q : Part) : q.askAdminPosting.request .posting = q.request .posting := by
    unfold Part.askAdminPosting
    (repeat' split) <;> simp [Part.ask_request]
  have hnotice (q : Part) : q.askNotice.request .posting = q.request .posting := by
    simp only [Part.askNotice, Part.askNoticeEntry]
    (repeat' split) <;> simp [Part.ask_request]
  have hcommand (q : Part) : q.askCommand.request .posting = q.request .posting := by
    unfold Part.askCommand
    split <;> simp [Part.ask_request]
  have hkeeps : p.Keeps [.admin, .port] p.movePort.driveLevel.captureFlush := by simp [Part.driveLevel]
  have hstill : ¬p.movePort.driveLevel.captureFlush.postingDue := fun hd => hd.2.2 (by rw [hkeeps.compl, h])
  rw [Part.react, hcommand, hnotice, hadmin, Part.askPosting_eq_self_iff.2 hstill]
  exact hkeeps.request .posting

/-- While an entry waits, and no write of one is outstanding, one is asked for (R121). -/
theorem Part.react_asks_posting (hworks : p.engine.state.working = true) (hfifo : p.compl.fifo ≠ [])
    (hnone : p.host.outstanding = none) : (p.react.request .posting).isSome = true := by
  obtain ⟨-, -, -, hposting, -⟩ := settled_iff.1 (settled_react p)
  have hwaits : p.react.hasAccess .posting = true := by
    by_contra hno
    exact hposting ⟨by rwa [Part.react_engine], by simpa using hno, by rwa [Part.react_compl]⟩
  have hout : p.react.host.outstanding = none := by rw [Part.react_host_outstanding, hnone]
  rw [Part.hasAccess, Part.outstandingFor, hout] at hwaits
  simpa using hwaits

/-! ### What a written entry leaves (R119, R120, R124) -/

/-- The ring whose entry has been written. -/
def CompletionRing.written (r : CompletionRing) : CompletionRing := { r.posted with armed := false }

theorem Part.postingSignal_eq (p : Part) (c : Fin 8) : p.postingSignal c =
    if (p.cring c).armed then (p.modCring c fun r => { r with armed := false }).signal (p.cring c).vector else p := by
  rw [Part.signal_modCring]
  rfl

/-- The completion taken off the FIFO, its ring's entry counted, and its signal sent. -/
def Part.entryWritten (p : Part) (c : Completion) (rest : List Completion) : Part :=
  ((p.onCompl fun u => { u with fifo := rest }).modCring c.reservation CompletionRing.posted).postingSignal c.reservation

theorem Part.entryWritten_spec (p : Part) (c : Completion) (rest : List Completion) :
    p.Keeps [.host, .compl, .out] (p.entryWritten c rest) ∧ (p.entryWritten c rest).compl.fifo = rest
    ∧ (∀ d, (p.entryWritten c rest).cring d = if d = c.reservation then (p.cring d).written else p.cring d)
    ∧ p.Signals (p.entryWritten c rest)
      (if (p.cring c.reservation).armed then [(p.cring c.reservation).vector] else [])
    ∧ (p.entryWritten c rest).host.outstanding = p.host.outstanding
    ∧ (p.entryWritten c rest).request .posting = p.request .posting := by
  set q := (p.onCompl fun u => { u with fifo := rest }).modCring c.reservation CompletionRing.posted with hq
  have hring (d : Fin 8) : q.cring d = if d = c.reservation then (p.cring d).posted else p.cring d :=
    (Part.modCring_cring _ _ _ _).trans rfl
  have hself : q.cring c.reservation = (p.cring c.reservation).posted := (hring _).trans (if_pos rfl)
  have hkeeps : p.Keeps [.host, .compl, .out] q := by simp [hq]
  rw [Part.entryWritten, ← hq, Part.postingSignal_eq, hself]
  by_cases harmed : (p.cring c.reservation).armed = true
  · have harmed' : (p.cring c.reservation).posted.armed = true := harmed
    rw [if_pos harmed', if_pos harmed]
    set r := q.modCring c.reservation fun x => { x with armed := false } with hr
    have hsignal := r.signal_keeps (p.cring c.reservation).posted.vector
    refine ⟨?_, ?_, fun d => ?_, (r.signals_signal _).since rfl rfl, ?_, ?_⟩
    · have hboth : p.Keeps [.host, .compl, .out] r := by simpa [hr] using hkeeps
      exact hboth.trans (hsignal.mono (by simp))
    · rw [hsignal.compl]
      rfl
    · refine (hsignal.cring d).trans ((Part.modCring_cring _ _ _ _).trans ?_)
      rw [hring d]
      by_cases hd : d = c.reservation
      · rw [if_pos hd, if_pos hd, if_pos hd]
        rfl
      · rw [if_neg hd, if_neg hd, if_neg hd]
    · unfold Part.signal
      split <;> rfl
    · unfold Part.signal
      split <;> rfl
  · have harmed' : ¬(p.cring c.reservation).posted.armed = true := harmed
    rw [if_neg harmed', if_neg harmed]
    refine ⟨hkeeps, rfl, fun d => ?_, p.signals_nil.same rfl rfl rfl rfl, rfl, rfl⟩
    rw [hring d]
    by_cases hd : d = c.reservation
    · rw [if_pos hd, if_pos hd, hd, CompletionRing.written, ← Bool.eq_false_iff.2 harmed']
    · rw [if_neg hd, if_neg hd]

/-- The flush takes note of its entry, and perhaps ends (R20). -/
theorem Part.flushedWritten_compl (p : Part) (c : Completion) : (p.flushedWritten c).compl.fifo = p.compl.fifo
    ∧ ∀ d, (p.flushedWritten c).cring d = p.cring d := by
  unfold Part.flushedWritten
  dsimp only
  (repeat' split) <;> exact ⟨rfl, fun _ => rfl⟩

theorem effect_completionWritten {rest : List Completion} (hwrite : p.writeOutstanding .posting = true)
    (hfifo : p.compl.fifo = c :: rest) : effect (.completionEntryWriteDone true) p =
      ((p.closeAccess.entryWritten c rest).flushedWritten c).react := by
  simp only [effect, Part.completionWritten, Part.forWrite_of_outstanding hwrite, hwrite, Part.closeAccess_compl, hfifo, if_true]
  rfl

/-! ### What has waited longest enters the FIFO (R118) -/

theorem effect_handover {k : Fin 8} {rest : List Waiter} (halive : p.engine.state.alive = true)
    (hroom : p.compl.fifo.length < 8) (hwaits : p.sched.waiters = .slot k :: rest) :
    effect .postingHandover p =
      (((p.onSched fun u => { u with waiters := rest }).enterFifo (p.slot k).completion).freeSlot k).react := by
  simp only [effect, Part.handNext, hwaits]
  exact if_pos ⟨halive, hroom⟩

theorem effect_handover_flushed {rest : List Waiter} (halive : p.engine.state.alive = true)
    (hroom : p.compl.fifo.length < 8) (hwaits : p.sched.waiters = .flushed c :: rest) :
    effect .postingHandover p = ((p.onSched fun u => { u with waiters := rest }).enterFifo c).react := by
  simp only [effect, Part.handNext, hwaits]
  exact if_pos ⟨halive, hroom⟩

/-- The bytes of a completion entry, field by field (R177). -/
theorem completionEntry_layout (tag : BitVec 16) (ring : Nat) (st : Status) (index consumer bytes retries : Nat)
    (result : BitVec 32) (phase : Bool) (data : List Byte)
    (h : data = completionEntry tag ring st index consumer bytes retries result phase) :
    data.length = 32 ∧ (data.take 2 = leBytes 2 tag.toNat ∧ data[2]? = some (BitVec.ofNat 8 ring)
      ∧ data[3]? = some st.code ∧ (data.drop 4).take 2 = leBytes 2 index
      ∧ (data.drop 6).take 2 = leBytes 2 consumer
      ∧ (data.drop 8).take 2 = leBytes 2 bytes
      ∧ data[10]? = some (BitVec.ofNat 8 retries) ∧ data[11]? = some 0#8
      ∧ (data.drop 12).take 4 = leBytes 4 result.toNat
      ∧ (data.drop 16).take 15 = List.replicate 15 0#8
      ∧ data[31]? = some (BitVec.ofNat 8 phase.toNat)) := by
  subst h
  exact ⟨rfl, rfl, rfl, rfl, rfl, rfl, rfl, rfl, rfl, rfl, rfl, rfl⟩

/-- Settles O50. -/
theorem completionsAreHandedOverAndPosted : Obligations.CompletionsAreHandedOverAndPosted := by
  refine ⟨fun s k rest halive hroom hwaits => ?_, fun s c rest halive hroom hwaits => ?_, fun s hno => exec_of_effect ?_,
    fun s c rest hs hwrite hfifo => ?_, fun p c rest hworks hnone hfifo => ?_⟩
  · set q := ((s.part.onSched fun u => { u with waiters := rest }).enterFifo (s.part.slot k).completion).freeSlot k with hq
    have hkeeps : s.part.Keeps [.host, .fetch, .sched, .port, .admin, .notices, .compl] q := by simp [hq, Part.enterFifo]
    refine ⟨_, exec_of_effect (effect_handover halive hroom hwaits), ?_, ?_, fun j hj => ?_, ?_, fun r => ?_,
      onlyChanges_iff.2 ⟨rfl, (Part.keeps_react (by simp)).2 hkeeps⟩⟩
    · rw [Part.react_slot, Part.freeSlot_slot, if_pos rfl]
    · rw [Part.react_sched, Part.freeSlot_waiters]
      rfl
    · rw [Part.react_slot, Part.freeSlot_slot, if_neg hj]
      rfl
    · rw [Part.react_compl, (Part.freeSlot_keeps _ k).compl]
      simp [Part.enterFifo, Slot.completion]
    · rw [Part.react_ring, Part.freeSlot_ring]
      rfl
  · set q := (s.part.onSched fun u => { u with waiters := rest }).enterFifo c with hq
    have hkeeps : s.part.Keeps [.host, .sched, .port, .admin, .notices, .compl] q := by simp [hq, Part.enterFifo]
    refine ⟨_, exec_of_effect (effect_handover_flushed halive hroom hwaits), ?_, ?_,
      onlyChanges_iff.2 ⟨rfl, (Part.keeps_react (by simp)).2 hkeeps⟩⟩
    · rw [Part.react_compl]
      rfl
    · rw [Part.react_sched]
      rfl
  · simp only [effect, Part.handNext]
    rcases hno with h | h | h
    · exact if_neg fun hboth => by simp [h] at hboth
    · exact if_neg fun hboth => absurd hboth.2 (not_lt.2 h)
    · split
      · rw [h]
      · rfl
  · obtain ⟨hkeeps, hrest, hcring, hsignals, hnone, hrequest⟩ := s.part.closeAccess.entryWritten_spec c rest
    set q := s.part.closeAccess.entryWritten c rest
    have hflushed := q.flushedWritten_keeps c
    obtain ⟨hfifo', hcring'⟩ := q.flushedWritten_compl c
    set r := q.flushedWritten c
    have hclosed : s.part.Keeps [.host] s.part.closeAccess := by simp
    have hall : s.part.Keeps [.host, .admin, .compl, .out] r :=
      ((hclosed.mono (by simp)).trans (hkeeps.mono (by simp))).trans (hflushed.mono (by simp))
    have hfinal (d : Fin 8) : r.react.cring d = if d = c.reservation then (s.part.cring d).written else s.part.cring d := by
      rw [Part.react_cring, hcring', hcring]
      rfl
    refine ⟨_, exec_of_effect (effect_completionWritten hwrite hfifo), ?_, ?_, fun d hd => ?_, ?_, fun hworks hmore => ?_,
      fun hempty => ?_, onlyChanges_iff.2 ⟨rfl, hs.react_posted hall⟩⟩
    · rw [Part.react_compl, hfifo', hrest]
    · exact (hfinal _).trans (if_pos rfl)
    · exact (hfinal d).trans (if_neg hd)
    · have hclose : s.part.Signals s.part.closeAccess [] := s.part.signals_nil.same rfl rfl rfl rfl
      have hsent : s.part.Signals q (if (s.part.cring c.reservation).armed then [(s.part.cring c.reservation).vector] else []) :=
        hclose.trans hsignals
      exact ((hsent.same hflushed.out (by rw [hflushed.host]) (by rw [hflushed.host]) (by rw [hflushed.host])).react).signalled
    · exact Part.react_asks_posting (by rw [hall.engine, hworks]) (by rw [hfifo', hrest]; exact hmore)
        (by rw [hflushed.host, hnone]; rfl)
    · rw [Part.react_request_posting (by rw [hfifo', hrest, hempty]), hflushed.request, hrequest]
      rfl
  · refine ⟨p.entryOf c, ?_, completionEntry_layout _ _ _ _ _ _ _ _ _ _ rfl⟩
    have hasks : p.askPosting = p.ask .posting (.write ((p.cring c.reservation).base
        + BitVec.ofNat 64 (32 * (p.cring c.reservation).producer)) (p.entryOf c)) := by
      simp only [Part.askPosting, hworks, hnone, hfifo]
      rfl
    rw [hasks, Part.ask_request, if_pos rfl]

end Sys2Proof.Machine
end

section
/-! Admin completions and notice entries are posted, signalled and followed up (R127, R128, R138, R140, R143,
R148, R151): O51. -/

-- One declaration at a time: every further thread counts against the memory the check allows.
set_option Elab.async false

namespace Sys2Proof.Machine

variable {p q : Part}

/-! ### An admin completion is written (R127, R128, R148) -/

/-- The admin completion ring has the entry, with its signal sent, and the unit is IDLE. -/
def Part.adminEntryWritten (p : Part) : Part :=
  (((if p.compl.adminRing.armed then p.signal 0 else p).onCompl fun u =>
    { u with adminRing := u.adminRing.posted p.engine.areaSize, adminHeld := none }).onAdmin fun a => { a with state := .idle })

theorem Part.signals_if (p : Part) (c : Prop) [Decidable c] (v : Fin 16) :
    p.Signals (if c then p.signal v else p) (if c then [v] else []) := by
  by_cases h : c
  · rw [if_pos h, if_pos h]
    exact p.signals_signal v
  · rw [if_neg h, if_neg h]
    exact p.signals_nil

theorem Part.signalled_keeps (p : Part) (c : Prop) [Decidable c] (v : Fin 16) :
    p.Keeps [.host, .out] (if c then p.signal v else p) := by
  split
  · exact p.signal_keeps v
  · exact p.keeps_self _

theorem effect_adminWritten (hwrite : p.writeOutstanding .adminPosting = true) :
    effect (.adminCompletionWriteDone true) p = p.closeAccess.adminEntryWritten.react := by
  simp only [effect, Part.adminWritten, Part.forWrite_of_outstanding hwrite, hwrite, if_true]
  have hengine : (if p.closeAccess.compl.adminRing.armed then p.closeAccess.signal 0 else p.closeAccess).engine =
      p.closeAccess.engine := (p.closeAccess.signalled_keeps _ 0).engine
  rw [Part.adminEntryWritten, hengine]

theorem Part.adminEntryWritten_spec (p : Part) : p.Keeps [.host, .admin, .compl, .out] p.adminEntryWritten
    ∧ p.adminEntryWritten.admin = { p.admin with state := .idle }
    ∧ p.adminEntryWritten.compl = { p.compl with adminHeld := none, adminRing := p.compl.adminRing.posted p.engine.areaSize }
    ∧ p.Signals p.adminEntryWritten (if p.compl.adminRing.armed then [0] else [])
    ∧ ∀ x, p.adminEntryWritten.hasAccess x = p.hasAccess x := by
  have hkeeps := p.signalled_keeps (p.compl.adminRing.armed = true) 0
  have hsignals := p.signals_if (p.compl.adminRing.armed = true) 0
  have haccess (x : Source) : (if p.compl.adminRing.armed then p.signal 0 else p).hasAccess x = p.hasAccess x := by
    unfold Part.signal
    (repeat' split) <;> rfl
  unfold Part.adminEntryWritten
  generalize (if p.compl.adminRing.armed = true then p.signal 0 else p) = q at *
  refine ⟨?_, ?_, ?_, hsignals.same rfl rfl rfl rfl, haccess⟩
  · have hall : p.Keeps [.host, .admin, .compl, .out] q := hkeeps.mono (by simp)
    simpa using hall
  · exact congrArg (fun a : AdminUnit => { a with state := .idle }) hkeeps.admin
  · exact congrArg (fun u : CompletionUnit =>
      { u with adminHeld := none, adminRing := u.adminRing.posted p.engine.areaSize }) hkeeps.compl

/-- Of what follows an admin entry only the next command's fetch may be due (R148). -/
theorem Settled.react_adminEntryWritten (h : Settled p) (hwrite : p.writeOutstanding .adminPosting = true) :
    p.closeAccess.adminEntryWritten.react = p.closeAccess.adminEntryWritten.askCommand := by
  obtain ⟨hkeeps, hadmin, hcompl, -, haccess⟩ := p.closeAccess.adminEntryWritten_spec
  set q := p.closeAccess.adminEntryWritten
  have hclosed : p.Keeps [.host] p.closeAccess := by simp
  have hall : p.Keeps [.host, .admin, .compl, .out] q := (hclosed.mono (by simp)).trans hkeeps
  have hstill : q.askNotice = q := by
    rw [Part.askNotice_eq_self_iff, hall.engine, hall.notices]
    exact h.nothingDue.notice
  rw [h.react_eq (hall.mono (by simp)).sameBus ?_ ?_ ?_, hstill]
  · rintro ⟨f, hf, -⟩
    rw [hadmin] at hf
    cases hf
  · rintro ⟨hworks, hno, hfifo⟩
    rw [haccess] at hno
    refine h.nothingDue.posting ⟨hall.engine ▸ hworks, ?_, by rwa [hcompl] at hfifo⟩
    by_contra hasked
    rw [Part.closeAccess_hasAccess (Part.outstandingFor_of_write hwrite (by simp)) (by simpa using hasked)] at hno
    exact Bool.noConfusion hno
  · rintro ⟨-, -, hheld⟩
    rw [hcompl] at hheld
    exact hheld rfl

/-! ### A notice entry is written (R138, R140, R143) -/

/-- The signals that a written entry sends. -/
def NoticeRing.entrySignals (n : NoticeRing) (urgent : Bool) : List (Fin 16) :=
  (if n.normalArmed then [n.normalVector] else [])
    ++ (if urgent && n.urgentArmed && !(n.normalArmed && n.normalVector == n.urgentVector) then [n.urgentVector] else [])

theorem Part.noticeSignals_spec (h : p.engine.state.working = true) (urgent : Bool) :
    p.Signals (p.noticeSignals urgent) (p.notices.ring.entrySignals urgent)
    ∧ (p.noticeSignals urgent).notices = { p.notices with ring := { p.notices.ring with
        normalArmed := false, urgentArmed := p.notices.ring.urgentArmed && !urgent } } := by
  set n := p.notices.ring with hn
  have hnormal := p.signals_if (n.normalArmed = true) n.normalVector
  have hnormalKeeps := p.signalled_keeps (n.normalArmed = true) n.normalVector
  have heq : p.noticeSignals urgent =
      (if urgent && n.urgentArmed && !(n.normalArmed && n.normalVector == n.urgentVector) then
          (if n.normalArmed then p.signal n.normalVector else p).signal n.urgentVector
        else if n.normalArmed then p.signal n.normalVector else p).onNotices fun u => { u with
          ring := { u.ring with normalArmed := false, urgentArmed := n.urgentArmed && !(urgent && n.urgentArmed) } } :=
    if_pos h
  rw [heq]
  generalize (if n.normalArmed = true then p.signal n.normalVector else p) = q at *
  have hurgent := q.signals_if ((urgent && n.urgentArmed && !(n.normalArmed && n.normalVector == n.urgentVector)) = true)
    n.urgentVector
  have hurgentKeeps := q.signalled_keeps
    ((urgent && n.urgentArmed && !(n.normalArmed && n.normalVector == n.urgentVector)) = true) n.urgentVector
  refine ⟨(hnormal.trans hurgent).same rfl rfl rfl rfl, ?_⟩
  have harmed : (n.urgentArmed && !(urgent && n.urgentArmed)) = (n.urgentArmed && !urgent) := by
    cases n.urgentArmed <;> cases urgent <;> rfl
  rw [Part.onNotices_notices, hurgentKeeps.notices, hnormalKeeps.notices, harmed]

theorem EngineState.alive_of_working {x : EngineState} (h : x.working = true) : x.alive = true := by
  cases x with
  | running | quiescing => rfl
  | off | quiesced | failed => cases h

/-- The ring has the entry, and the buffer entry, where there is one, is FREE. -/
def Part.noticeEntryWritten (p : Part) (w : NoticeWrite) : Part :=
  let q := p.onNotices fun u => { u with ring := u.ring.posted w.urgent, write := none }
  match w.buffer with
  | some b => q.modEntry b fun _ => .empty
  | none => q

theorem Part.noticeEntryWritten_spec (p : Part) (w : NoticeWrite) : p.Keeps [.notices] (p.noticeEntryWritten w)
    ∧ (p.noticeEntryWritten w).notices.ring = p.notices.ring.posted w.urgent
    ∧ ∀ b, w.buffer = some b → (p.noticeEntryWritten w).entry b = .empty := by
  unfold Part.noticeEntryWritten
  cases hb : w.buffer with
  | none => exact ⟨by simp, rfl, nofun⟩
  | some b =>
    refine ⟨by simp, rfl, fun b' h => ?_⟩
    cases h
    rw [Part.modEntry_entry, if_pos rfl]

theorem effect_noticeWritten {w : NoticeWrite} (hwrite : p.writeOutstanding .notices = true)
    (hw : p.notices.write = some w) : effect (.noticeEntryWriteDone true) p =
      (((p.closeAccess.noticeEntryWritten w).noticeSignals w.urgent).finishNoticeRing).react := by
  simp only [effect, Part.noticeWritten, Part.forWrite_of_outstanding hwrite, hwrite, Part.closeAccess_notices, hw, if_true]
  rfl

/-- Settles O51. -/
theorem adminAndNoticeEntriesArePosted : Obligations.AdminAndNoticeEntriesArePosted := by
  refine ⟨fun s hs hwrite => ?_, fun s w n l hwrite hw hn hworks hl => ?_⟩
  · have heffect := effect_adminWritten hwrite
    rw [hs.react_adminEntryWritten hwrite] at heffect
    obtain ⟨hkeeps, hadmin, hcompl, hsignals, -⟩ := s.part.closeAccess.adminEntryWritten_spec
    set q := s.part.closeAccess.adminEntryWritten
    have hclosed : s.part.Keeps [.host] s.part.closeAccess := by simp
    have hall : s.part.Keeps [.host, .admin, .compl, .out] q := (hclosed.mono (by simp)).trans hkeeps
    have hasked : q.Keeps [.host, .admin] q.askCommand := by simp
    have hcompl' : q.askCommand.compl = q.compl := hasked.compl
    have hfree : q.askCommand.adminFree = q.adminFree := by rw [Part.adminFree, Part.adminFree, hasked.compl, hasked.engine]
    refine ⟨_, exec_of_effect heffect, ?_, ?_, fun hrunning hmore hroom => ?_, fun hno => ?_,
      onlyChanges_iff.2 ⟨rfl, hall.trans (hasked.mono (by simp))⟩⟩
    · rw [hcompl', hcompl]
      rfl
    · have hclose : s.part.Signals s.part.closeAccess [] := s.part.signals_nil.same rfl rfl rfl rfl
      refine ((hclose.trans hsignals).same hasked.out ?_ ?_ ?_).signalled <;> unfold Part.askCommand <;> split <;> rfl
    · have hdue : q.commandDue := by
        refine ⟨by rw [hall.engine, hrunning], by rw [hadmin], by rw [hadmin]; exact hmore, hfree ▸ hroom⟩
      rw [Part.askCommand_of_due hdue]
      refine ⟨?_, ?_⟩
      · change { q.admin with state := AdminState.fetching } = _
        rw [hadmin]
        rfl
      · refine (Part.ask_request q .administration .administration _).trans ((if_pos rfl).trans ?_)
        rw [hall.engine, hadmin]
        rfl
    · have hstill : ¬q.commandDue := by
        rintro ⟨hrunning, -, hmore, hroom⟩
        rw [hall.engine] at hrunning
        rw [hadmin] at hmore
        rcases hno with h | h | h
        · exact h hrunning
        · exact hmore h
        · exact absurd (hfree.symm.trans h) (by omega)
      rw [Part.askCommand_eq_self_iff.2 hstill, hadmin]
      rfl
  · have heffect := effect_noticeWritten hwrite hw
    obtain ⟨hkeeps, hring, hentry⟩ := s.part.closeAccess.noticeEntryWritten_spec w
    set q := s.part.closeAccess.noticeEntryWritten w
    have hclosed : s.part.Keeps [.host] s.part.closeAccess := by simp
    have hall : s.part.Keeps [.host, .notices] q := (hclosed.mono (by simp)).trans (hkeeps.mono (by simp))
    obtain ⟨hsignals, hnotices⟩ := Part.noticeSignals_spec (p := q) (by rw [hall.engine, hworks]) w.urgent
    have hsent := q.noticeSignals_keeps w.urgent
    set r := q.noticeSignals w.urgent
    have hlist : q.notices.ring.entrySignals w.urgent = l := by
      rw [hl, hring, hn]
      rfl
    have hfree (b : Fin 4) (hb : w.buffer = some b) : r.entry b = .empty := by
      rw [Part.entry, hnotices]
      exact hentry b hb
    have hsignalled : s.part.Signals r l := by
      have hclose : s.part.Signals q [] :=
        s.part.signals_nil.same hall.out (by rw [hkeeps.host]; rfl) (by rw [hkeeps.host]; rfl) (by rw [hkeeps.host]; rfl)
      exact hlist ▸ hclose.trans hsignals
    have hadmin : r.admin = s.part.admin := hsent.admin.trans hall.admin
    refine ⟨fun hno => ?_, fun base size normal urgent hwaits => ?_⟩
    · have hfinish : r.finishNoticeRing = r := by
        unfold Part.finishNoticeRing
        split
        · next base size normal urgent hstate => exact absurd (hadmin ▸ hstate) (hno base size normal urgent)
        · rfl
      rw [hfinish] at heffect
      refine ⟨_, exec_of_effect heffect, ?_, fun b hb => ?_, hsignalled.react.signalled⟩
      · rw [Part.react_notices_ring, hnotices, hring, hn]
        rfl
      · rw [Part.react_entry_of_ne_accepted (by rw [hfree b hb]; simp [BufferEntry.empty]), hfree b hb]
    · have hlive : r.engine.state.alive = true := by
        rw [hsent.engine, hall.engine]
        exact EngineState.alive_of_working hworks
      have hfinish : r.finishNoticeRing = (r.onNotices fun u =>
          { u with ring := .create base size normal urgent }).endCommand .success 0#32 := by
        simp only [Part.finishNoticeRing, hadmin, hwaits, hlive, if_true]
      rw [hfinish] at heffect
      set z := (r.onNotices fun u => { u with ring := .create base size normal urgent }).endCommand .success 0#32 with hz
      have hstate : z.admin.state = .completing := rfl
      have hdone : z.react.admin = z.admin := by
        refine Part.react_admin_of_not_due ?_ ?_
        · rintro ⟨f, hf, -⟩
          rw [hstate] at hf
          cases hf
        · rintro ⟨-, hidle, -⟩
          rw [hstate] at hidle
          cases hidle
      have hfreed (b : Fin 4) (hb : w.buffer = some b) : z.entry b = .empty := hfree b hb
      refine ⟨_, exec_of_effect heffect, ?_, fun b hb => ?_, ?_, ?_, ?_, ?_⟩
      · rw [Part.react_notices_ring]
        rfl
      · rw [Part.react_entry_of_ne_accepted (by rw [hfreed b hb]; simp [BufferEntry.empty]), hfreed b hb]
      · exact ((hsignalled.same rfl rfl rfl rfl : s.part.Signals z l).react).signalled
      · rw [hdone, hstate]
      · rw [hdone]
        change succIndex r.engine.areaSize r.admin.consumer = _
        rw [hadmin, hsent.engine, hall.engine]
      · rw [Part.react_compl]
        change some _ = _
        rw [← hadmin]
        rfl

end Sys2Proof.Machine
end

section
/-! The end of an admin command and its frame; SET_WINDOW, REOPEN_WINDOW and CLEAR_WINDOW (R78 to R81, R152, R156,
R157): O56 and O57. -/

-- One declaration at a time: every further thread counts against the memory the check allows.
set_option Elab.async false

namespace Sys2Proof.Machine

variable {p q : Part} {s : State} {rec : Block} {st : Status} {x : BitVec 32}

/-! ### What follows a command's effect -/

/-- Where the notices are as a settled part had them, no entry is due. -/
theorem Settled.react_quiet (h : Settled p) (hengine : q.engine = p.engine) (hnotices : q.notices = p.notices) :
    q.Keeps [.host, .admin, .port] q.react := by
  have hstill : q.react.notices = q.notices := by
    refine Part.react_notices_of_not_due ?_
    rw [hengine, hnotices]
    exact fun hrunning hdue => h.nothingDue.notice ⟨hrunning, hdue⟩
  intro b hb
  by_cases hn : b = .notices
  · exact hn ▸ hstill
  have hreact : q.Keeps [.host, .admin, .notices, .port] q.react := (Part.keeps_react (by simp)).2 (q.keeps_self _)
  exact hreact b (by simp only [List.mem_cons] at hb ⊢; tauto)

/-- And where the port sees what it saw, it makes no move either. -/
theorem Settled.react_still (h : Settled p) (hbus : p.SameBus q) (hengine : q.engine = p.engine)
    (hnotices : q.notices = p.notices) : q.Keeps [.host, .admin] q.react := by
  intro b hb
  by_cases hp : b = .port
  · exact hp ▸ h.react_port hbus
  exact h.react_quiet hengine hnotices b (by simp only [List.mem_cons] at hb ⊢; tauto)

/-- A command has ended where its record and its index are as at its arrival (R151). -/
theorem CommandEnds.of_end {i : Nat} (hconsumer : q.admin.consumer = s.part.admin.consumer)
    (hcommand : q.admin.command = some (rec, i)) (hengine : q.engine = s.part.engine)
    (hhost : q.host.outstanding = none) : CommandEnds s { s with part := (q.endCommand st x).react } rec st x := by
  have hadmin : (q.endCommand st x).react.admin = (q.endCommand st x).admin := Part.react_admin_of_no_flush nofun nofun
  have htag : q.admin.tag = cmdTag rec := by simp [AdminUnit.tag, hcommand]
  constructor
  · simp only [hadmin]
    rfl
  · simp only [hadmin]
    exact (congrArg₂ succIndex (congrArg Engine.areaSize hengine) hconsumer :)
  · simp only [hadmin]
    rfl
  · simp only [Part.react_compl]
    change some _ = some _
    rw [htag, hconsumer]
  · simp only [Part.react_host_outstanding]
    exact hhost

theorem Part.taken_keeps (p : Part) (rec : Block) : p.Keeps [.host, .admin] (p.taken rec) := by
  simp [Part.taken]

/-- The end of a command with status `st` and its effect `g` made where that is SUCCESS, off the port and the
notices. -/
theorem State.ended_frame {l : List Region} (hp : Settled s.part) (hq : (s.part.taken rec).Keeps l q)
    (hl : l ⊆ [.host, .admin, .sched, .windows, .fetch, .master, .compl, .stats, .out]) (hadmin : q.admin = (s.part.taken rec).admin)
    (hhost : q.host = (s.part.taken rec).host) (st : Status) :
    CommandEnds s (s.ended q st) rec st 0#32
      ∧ (q.endCommand st 0#32).Keeps [.host, .admin, .port] (s.ended q st).part := by
  have hengine : q.engine = s.part.engine := (hq.mono hl).engine
  have hnotices : q.notices = s.part.notices := (hq.mono hl).notices
  refine ⟨.of_end (by rw [hadmin]; rfl) (by rw [hadmin]; rfl) hengine (by rw [hhost]; rfl), ?_⟩
  exact hp.react_quiet (q := q.endCommand st 0#32) hengine hnotices

/-! ### The windows' commands -/

theorem cmdWindow_eq {w : Fin 16} (hw : cmdTarget rec = w.val) : cmdWindow rec = w := by
  simp [cmdWindow, hw]

theorem checkStatus_no_window (hw : 15 < cmdTarget rec) (checks : List (Bool × Status)) :
    checkStatus ((decide (cmdTarget rec < 16), .invalidField) :: checks) = .invalidField := by
  rw [checkStatus_cons, if_pos (decide_eq_false (Nat.not_lt.2 hw))]

theorem Part.overlapsWindow_iff (p : Part) (w : Fin 16) (base size : Nat) : p.overlapsWindow w base size = true ↔
    ∃ v, v ≠ w ∧ (p.window v).state ≠ .unused ∧ base < (p.window v).base.toNat + (p.window v).size
      ∧ (p.window v).base.toNat < base + size := by
  simp [Part.overlapsWindow, rangesOverlap, and_assoc]

/-- SET_WINDOW's checks in order (R156). -/
theorem checkStatus_setWindow {w : Fin 16} (hw : cmdTarget rec = w.val) (p : Part) :
    checkStatus (p.setWindowChecks rec) =
      if isPowerOfTwo 4096 (2 ^ 30) (wordAt rec 0x0C).toNat = false
          ∨ (wordAt rec 0x08).toNat % (wordAt rec 0x0C).toNat ≠ 0 then .invalidField
        else if 1 < cmdByte rec 0x10 ∨ cmdByte rec 0x11 ∉ [1, 2, 4]
          ∨ cmdByte rec 0x12 ∉ [1, 2, 4, 8] ∨ 2 < cmdByte rec 0x13 ∨ 3 < cmdByte rec 0x15
          ∨ 15 < cmdByte rec 0x16 then .invalidField
        else if cmdByte rec 0x10 = 1 ∧ (cmdHalf rec 0x18 ∉ [1024, 2048, 4096, 8192]
          ∨ cmdByte rec 0x1A ∉ [1, 2, 4]
          ∨ (wordAt rec 0x0C).toNat < cmdHalf rec 0x18 * cmdByte rec 0x1A
          ∨ 1 < cmdByte rec 0x1B ∨ cmdByte rec 0x1C < 1) then .invalidField
        else if (p.window w).state ≠ .unused then .inUse
        else if ∃ v, v ≠ w ∧ (p.window v).state ≠ .unused
          ∧ (wordAt rec 0x08).toNat < (p.window v).base.toNat + (p.window v).size
          ∧ (p.window v).base.toNat < (wordAt rec 0x08).toNat + (wordAt rec 0x0C).toNat
          then .overlap
        else .success := by
  have hcontains {n : Nat} {l : List Nat} : l.contains n = false ↔ n ∉ l := by simp
  have hpaged : (cmdByte rec 0x10 == 0) = false ↔ cmdByte rec 0x10 ≠ 0 := by simp
  simp only [Part.setWindowChecks, checkStatus_cons, checkStatus_nil, cmdWindow_eq hw, hw, w.isLt, decide_true,
    Bool.true_eq_false, if_false, Bool.and_eq_false_iff, Bool.or_eq_false_iff, beq_eq_false_iff_ne, Bool.not_eq_false',
    Part.overlapsWindow_iff, decide_eq_false_iff_not, not_le, or_assoc, hcontains, hpaged]
  refine ite_congr rfl (fun _ => rfl) fun _ => ite_congr rfl (fun _ => rfl) fun hfields => ?_
  have hkind : cmdByte rec 0x10 ≠ 0 ↔ cmdByte rec 0x10 = 1 := by
    have hlow : ¬1 < cmdByte rec 0x10 := fun h => hfields (.inl h)
    omega
  exact if_congr (and_congr hkind Iff.rfl) rfl rfl

/-- A SET_WINDOW that succeeds finds its entry UNUSED, a limit class of four and a policy of two (R156). -/
theorem checkStatus_setWindow_success {w : Fin 16} (hw : cmdTarget rec = w.val) {p : Part}
    (h : checkStatus (p.setWindowChecks rec) = .success) : (p.window w).state = .unused ∧ cmdByte rec 0x15 ≤ 3
      ∧ (cmdByte rec 0x10 = 1 → cmdByte rec 0x1B ≤ 1) := by
  rw [checkStatus_setWindow hw] at h
  split at h
  · cases h
  split at h
  · cases h
  next hfields =>
  split at h
  · cases h
  next hpaged =>
  split at h
  · cases h
  next hunused =>
  refine ⟨not_not.1 hunused, by omega, fun hkind => ?_⟩
  by_contra hpolicy
  exact hpaged ⟨hkind, .inr (.inr (.inr (.inl (not_le.1 hpolicy))))⟩

/-- The fields of the window that SET_WINDOW writes (R79, R156). -/
theorem windowOf_fields (hclass : cmdByte rec 0x15 ≤ 3) (hpolicy : cmdByte rec 0x10 = 1 → cmdByte rec 0x1B ≤ 1) :
    ((windowOf rec).access = .readWrite ↔ cmdByte rec 0x13 = 0) ∧ ((windowOf rec).access = .readOnly ↔ cmdByte rec 0x13 = 1)
    ∧ (windowOf rec).limitClass.val = cmdByte rec 0x15
    ∧ (cmdByte rec 0x10 = 0 → (windowOf rec).kind = .direct ∧ (windowOf rec).pageSize = 0 ∧ (windowOf rec).bankCount = 0
      ∧ (windowOf rec).openLimit = 0 ∧ (windowOf rec).banks = [])
    ∧ (cmdByte rec 0x10 = 1 → (windowOf rec).kind = .paged ∧ (windowOf rec).pageSize = cmdHalf rec 0x18
      ∧ (windowOf rec).bankCount = cmdByte rec 0x1A ∧ ((windowOf rec).policy = .close ↔ cmdByte rec 0x1B = 1)
      ∧ (windowOf rec).openLimit = cmdByte rec 0x1C
      ∧ (windowOf rec).banks = List.replicate (cmdByte rec 0x1A) .unknown) := by
  refine ⟨?_, ?_, ?_, fun h => ?_, fun h => ?_⟩
  · simp only [windowOf]
    split <;> simp_all
  · simp only [windowOf]
    split <;> simp_all
  · simp only [windowOf, Fin.val_ofNat]
    omega
  · simp [windowOf, h]
  · have hclose : cmdByte rec 0x1B = 0 ∨ cmdByte rec 0x1B = 1 := by
      have hlow := hpolicy h
      omega
    simp only [windowOf, h, ne_eq, one_ne_zero, not_false_eq_true, if_true, true_and]
    rcases hclose with hclose | hclose <;> simp [hclose]

/-- What a settled part shows at the end of a command that changed window `w` alone, by `f`. -/
structure State.WindowSet (s t : State) (rec : Block) (w : Fin 16) (f : Window → Window) (st : Status) : Prop where
  ends : CommandEnds s t rec st 0#32
  others : ∀ v, v ≠ w → t.part.window v = s.part.window v
  refused : st ≠ .success → OnlyChanges [.host, .admin, .compl] s t
  window : t.part.window w = if st = .success then f (s.part.window w) else s.part.window w
  changes : OnlyChanges [.host, .admin, .windows, .port, .compl] s t

/-- The part that a successful command on window `w` leaves before its end. -/
def Part.windowSet (p : Part) (w : Fin 16) (f : Window → Window) (st : Status) : Part :=
  if st = .success then p.modWindow w f else p

theorem State.windowSet (hp : Settled s.part) (w : Fin 16) (f : Window → Window) (st : Status) :
    s.WindowSet (s.ended ((s.part.taken rec).windowSet w f st) st) rec w f st := by
  by_cases hst : st = .success
  · rw [Part.windowSet, if_pos hst]
    have hq : (s.part.taken rec).Keeps [.windows] ((s.part.taken rec).modWindow w f) := by simp
    obtain ⟨hends, hframe⟩ := State.ended_frame (l := [.windows]) hp hq (by simp) rfl rfl st
    have hwindow (v : Fin 16) : (s.ended ((s.part.taken rec).modWindow w f) st).part.window v =
        if v = w then f (s.part.window v) else s.part.window v :=
      (hframe.window v).trans (Part.modWindow_window (s.part.taken rec) w v f)
    refine ⟨hends, fun v hv => (hwindow v).trans (if_neg hv), fun h => absurd hst h, ?_, onlyChanges_iff.2 ⟨rfl, ?_⟩⟩
    · rw [if_pos hst]
      exact (hwindow w).trans (if_pos rfl)
    · have hend : s.part.Keeps [.host, .admin, .windows, .port, .compl]
          (((s.part.taken rec).modWindow w f).endCommand st 0#32) := by
        have htaken := s.part.taken_keeps rec
        have hall : s.part.Keeps [.host, .admin, .windows, .port, .compl] (s.part.taken rec) := htaken.mono (by simp)
        simpa using hall
      exact hend.trans (hframe.mono (by simp))
  · rw [Part.windowSet, if_neg hst]
    obtain ⟨hends, honly⟩ := State.ended_taken (rec := rec) hp st
    obtain ⟨hpending, hkeeps⟩ := onlyChanges_iff.1 honly
    exact ⟨hends, fun v _ => hkeeps.window v, fun _ => honly, by rw [if_neg hst]; exact hkeeps.window w,
      onlyChanges_iff.2 ⟨hpending, hkeeps.mono (by simp)⟩⟩

theorem execSetWindow_eq (ha : Arrives s.part) {w : Fin 16} (hw : cmdWindow rec = w) {st : Status}
    (hst : checkStatus (s.part.setWindowChecks rec) = st) : exec (.setWindow rec) s =
      .next (s.ended ((s.part.taken rec).windowSet w (fun _ => windowOf rec) st) st) := by
  subst hw
  exact State.andThen_checked ha (by simp [Part.setWindowChecks]) hst
    (f := fun p => (p.modWindow (cmdWindow rec) fun _ => windowOf rec).endCommand .success 0#32)
    (g := fun p => p.modWindow (cmdWindow rec) fun _ => windowOf rec) fun _ => rfl

/-- The window that REOPEN_WINDOW leaves (R78). -/
def Window.reopened (x : Window) : Window := { x with state := .opened, timeouts := 0 }

theorem execReopenWindow_eq (ha : Arrives s.part) {w : Fin 16} (hw : cmdWindow rec = w) {st : Status}
    (hst : checkStatus (s.part.reopenWindowChecks rec) = st) : exec (.reopenWindow rec) s =
      .next (s.ended ((s.part.taken rec).windowSet w Window.reopened st) st) := by
  subst hw
  exact State.andThen_checked ha (by simp [Part.reopenWindowChecks]) hst
    (f := fun p => (p.modWindow (cmdWindow rec) Window.reopened).endCommand .success 0#32)
    (g := fun p => p.modWindow (cmdWindow rec) Window.reopened) fun _ => rfl

/-- A new window reads as the UNUSED one did for every slot (R28), so the port sees no change. -/
theorem Settled.windowSet_port (hp : Settled s.part) {w : Fin 16} {st : Status}
    (hstate : st = .success → (s.part.window w).state = .unused) :
    (s.ended ((s.part.taken rec).windowSet w (fun _ => windowOf rec) st) st).part.port = s.part.port := by
  have hbus : s.part.SameBus (((s.part.taken rec).windowSet w (fun _ => windowOf rec) st).endCommand st 0#32) := by
    have hkeeps : s.part.Keeps [.host, .admin, .windows, .compl]
        (((s.part.taken rec).windowSet w (fun _ => windowOf rec) st).endCommand st 0#32) := by
      have hall : s.part.Keeps [.host, .admin, .windows, .compl] (s.part.taken rec) := (s.part.taken_keeps rec).mono (by simp)
      unfold Part.windowSet
      split <;> simpa using hall
    refine ⟨⟨Part.settleView_congr (by rw [hkeeps.engine]) hkeeps.sched (fun r => by rw [hkeeps.ring r]) fun v => ?_,
      by rw [hkeeps.fetch], by rw [hkeeps.fetch], by rw [hkeeps.master], by rw [hkeeps.port], fun _ => by rw [hkeeps.port],
      by rw [hkeeps.port], by rw [hkeeps.port]⟩, by rw [hkeeps.port], by rw [hkeeps.port]⟩
    unfold Part.windowSet
    split
    · next hst =>
      refine (congrArg Window.readsFenced (Part.modWindow_window (s.part.taken rec) w v _)).trans ?_
      by_cases hv : v = w
      · subst hv
        rw [if_pos rfl]
        have hunused : (s.part.window v).readsFenced = false := by simp [Window.readsFenced, hstate hst]
        rw [hunused]
        rfl
      · rw [if_neg hv]
        rfl
    · rfl
  refine (hp.react_port hbus).trans ?_
  unfold Part.windowSet
  split <;> rfl

/-- Settles O56. -/
theorem windowsAreSetAndReopened : Obligations.WindowsAreSetAndReopened := by
  refine ⟨fun s rec c hs ha hw hc => ?_, fun s rec w hs ha hw => ⟨?_, ?_⟩⟩
  · obtain ⟨hends, honly⟩ := State.ended_taken (rec := rec) hs .invalidField
    refine ⟨_, ?_, hends, honly⟩
    rcases hc with rfl | rfl | rfl
    · exact State.andThen_refused ha (checks := (Part.setWindowChecks · rec)) (checkStatus_no_window hw _) (by simp) _
    · exact State.andThen_refused ha (checks := (Part.clearWindowChecks · rec)) (checkStatus_no_window hw _) (by simp) _
    · exact State.andThen_refused ha (checks := (Part.reopenWindowChecks · rec)) (checkStatus_no_window hw _) (by simp) _
  · have hstatus := checkStatus_setWindow hw s.part
    obtain ⟨hends, hothers, hrefused, hwindow, hchanges⟩ := State.windowSet (rec := rec) hs w (fun _ => windowOf rec)
      (checkStatus (s.part.setWindowChecks rec))
    refine ⟨_, _, execSetWindow_eq ha (cmdWindow_eq hw) rfl, hstatus, hends, ?_, hothers, fun hst => ?_, fun hst => ?_⟩
    · have hport := hs.windowSet_port (rec := rec) (w := w) (st := checkStatus (s.part.setWindowChecks rec)) fun hst =>
        (checkStatus_setWindow_success hw hst).1
      exact hchanges.erase (x := .port) hport
    · rw [hwindow, if_neg hst]
    · rw [hwindow, if_pos hst]
      obtain ⟨-, hlow, hpolicy⟩ := checkStatus_setWindow_success hw hst
      obtain ⟨hwrites, hreads, hclass, hdirect, hpaged⟩ := windowOf_fields hlow hpolicy
      exact ⟨rfl, rfl, rfl, rfl, rfl, rfl, hwrites, hreads, rfl, hclass, rfl, rfl, rfl, hdirect, hpaged⟩
  · obtain ⟨hends, hothers, hrefused, hwindow, hchanges⟩ := State.windowSet (rec := rec) hs w Window.reopened
      (checkStatus (s.part.reopenWindowChecks rec))
    refine ⟨_, _, execReopenWindow_eq ha (cmdWindow_eq hw) rfl, ?_, hends, hchanges, hothers, hwindow⟩
    simp only [Part.reopenWindowChecks, checkStatus_cons, checkStatus_nil, cmdWindow_eq hw, hw, w.isLt, decide_true,
      Bool.true_eq_false, if_false, beq_eq_false_iff_ne]
    split <;> simp_all

end Sys2Proof.Machine
end

section
/-! CLEAR_WINDOW and the end of draining (R80, R81, R152, R157): O57. -/

-- One declaration at a time: every further thread counts against the memory the check allows.
set_option Elab.async false

namespace Sys2Proof.Machine

variable {p q : Part} {s : State} {rec : Block} {w : Fin 16}

/-! ### A window drains -/

/-- A DRAINING window, read as FENCED where it was (R80). -/
def Window.draining (x : Window) : Window :=
  { x with
    state := .draining
    drain := if x.state = .fenced then .fenced else .run }

/-- Draining leaves how the window is read as it was (R80). -/
theorem Window.draining_readsFenced {x : Window} (h : x.state = .opened ∨ x.state = .fenced) :
    x.draining.readsFenced = x.readsFenced := by
  rcases h with h | h <;> simp only [Window.readsFenced, Window.draining, h] <;> rfl

theorem Part.drainingEnds_iff : p.drainingEnds w = true ↔ (p.window w).state = .draining
    ∧ (p.window w).inFlight = 0 ∧ p.closingWindow w = false := by
  simp [Part.drainingEnds, and_assoc]

/-- CLEAR_WINDOW's window drains, and the command waits (R157). -/
def Part.drains (p : Part) (w : Fin 16) : Part := (p.modWindow w Window.draining).waitFor (.clearWindow w)

theorem Part.drains_window (p : Part) (w v : Fin 16) : (p.drains w).window v =
    if v = w then (p.window v).draining else p.window v := Part.modWindow_window p w v _

theorem Part.drains_keeps (p : Part) (w : Fin 16) : p.Keeps [.admin, .windows] (p.drains w) := by
  simp [Part.drains]

theorem Part.drains_ends : (p.drains w).drainingEnds w = true ↔
    (p.window w).inFlight = 0 ∧ p.closingWindow w = false := by
  have hwindow : (p.drains w).window w = (p.window w).draining := (p.drains_window w w).trans (if_pos rfl)
  rw [Part.drainingEnds_iff, hwindow]
  exact ⟨fun h => h.2, fun h => ⟨rfl, h⟩⟩

theorem Part.clearWindow_eq (hw : cmdWindow rec = w) : p.clearWindow rec =
    if (p.drains w).drainingEnds w then
      ((p.drains w).modWindow w fun _ => .unused).endCommand .success 0#32
    else p.drains w := by
  subst hw
  unfold Part.clearWindow Part.endDraining
  dsimp only
  split
  · next h => exact (if_pos h).symm ▸ if_pos rfl
  · next h => exact (if_neg h).symm

theorem Part.clearWindowChecks_eq (hw : cmdTarget rec = w.val) : checkStatus (p.clearWindowChecks rec) =
    if (p.window w).state = .opened ∨ (p.window w).state = .fenced then .success else .wrongState := by
  have hlt : cmdTarget rec < 16 := hw ▸ w.isLt
  simp [Part.clearWindowChecks, checkStatus_cons, checkStatus_nil, cmdWindow_eq hw, hlt, ← not_or, ite_not]

theorem exec_clearWindow (ha : Arrives s.part) (hw : cmdTarget rec = w.val)
    (hstate : (s.part.window w).state = .opened ∨ (s.part.window w).state = .fenced) :
    exec (.clearWindow rec) s = .next { s with part := ((s.part.taken rec).clearWindow rec).react } :=
  State.andThen_accepted ha (checks := (Part.clearWindowChecks · rec)) (by simp [Part.clearWindowChecks])
    ((Part.clearWindowChecks_eq hw).trans (if_pos hstate)) _

theorem Part.taken_drains_keeps (p : Part) (rec : Block) (w : Fin 16) :
    p.Keeps [.host, .admin, .windows] ((p.taken rec).drains w) :=
  ((p.taken_keeps rec).mono (by simp)).trans (((p.taken rec).drains_keeps w).mono (by simp))

/-- A window that nothing uses is cleared at once (R80, R157). -/
theorem State.windowCleared (hs : Settled s.part) (ha : Arrives s.part) (hw : cmdTarget rec = w.val)
    (hstate : (s.part.window w).state = .opened ∨ (s.part.window w).state = .fenced)
    (hzero : (s.part.window w).inFlight = 0) (hno : s.part.closingWindow w = false) :
    ∃ t, exec (.clearWindow rec) s = .next t ∧ CommandEnds s t rec .success 0#32
      ∧ t.part.window w = .unused
      ∧ (∀ v, v ≠ w → t.part.window v = s.part.window v)
      ∧ OnlyChanges [.host, .admin, .windows, .port, .compl] s t := by
  have hexec := exec_clearWindow ha hw hstate
  rw [Part.clearWindow_eq (cmdWindow_eq hw), if_pos ((Part.drains_ends (p := s.part.taken rec)).2 ⟨hzero, hno⟩)] at hexec
  have hall := s.part.taken_drains_keeps rec w
  set q := ((s.part.taken rec).drains w).modWindow w fun _ => .unused with hq
  have hframe := hs.react_quiet (q := q.endCommand .success 0#32) rfl rfl
  have hwindow (v : Fin 16) : (q.endCommand .success 0#32).react.window v =
      if v = w then .unused else s.part.window v := by
    refine (hframe.window v).trans ((Part.modWindow_window ((s.part.taken rec).drains w) w v _).trans ?_)
    by_cases hv : v = w
    · rw [if_pos hv, if_pos hv]
    · rw [if_neg hv, if_neg hv]
      exact ((s.part.taken rec).drains_window w v).trans (if_neg hv)
  have hend : s.part.Keeps [.host, .admin, .windows, .port, .compl] (q.endCommand .success 0#32) := by
    simpa [hq] using Part.Keeps.mono (l' := [.host, .admin, .windows, .port, .compl]) hall (by simp)
  exact ⟨_, hexec, .of_end rfl rfl rfl rfl, (hwindow w).trans (if_pos rfl), fun v hv => (hwindow v).trans (if_neg hv),
    onlyChanges_iff.2 ⟨rfl, hend.trans (hframe.mono (by simp))⟩⟩

/-- A window in use drains, and the command waits for the end of draining (R80, R157). -/
theorem State.windowDrains (hs : Settled s.part) (ha : Arrives s.part) (hw : cmdTarget rec = w.val)
    (hstate : (s.part.window w).state = .opened ∨ (s.part.window w).state = .fenced)
    (hbusy : (s.part.window w).inFlight ≠ 0 ∨ s.part.closingWindow w = true) :
    ∃ t, exec (.clearWindow rec) s = .next t
      ∧ t.part.window w = (s.part.window w).draining
      ∧ (∀ v, v ≠ w → t.part.window v = s.part.window v)
      ∧ t.part.admin.state = .waiting (.clearWindow w)
      ∧ t.part.admin.command = some (rec, s.part.admin.consumer)
      ∧ OnlyChanges [.host, .admin, .windows] s t := by
  have hexec := exec_clearWindow ha hw hstate
  have hstill : ¬((s.part.taken rec).drains w).drainingEnds w = true := by
    rw [Part.drains_ends]
    rintro ⟨hzero, hno⟩
    rcases hbusy with h | h
    · exact h hzero
    · exact Bool.noConfusion (hno.symm.trans h)
  rw [Part.clearWindow_eq (cmdWindow_eq hw), if_neg hstill] at hexec
  have hall := s.part.taken_drains_keeps rec w
  set q := (s.part.taken rec).drains w with hq
  have hbus : s.part.SameBus q := by
    refine ⟨⟨Part.settleView_congr rfl rfl (fun _ => rfl) fun v => ?_, rfl, rfl, rfl, rfl, fun _ => rfl, rfl, rfl⟩,
      rfl, rfl⟩
    rw [hq, Part.drains_window]
    split
    · next hv => exact hv ▸ Window.draining_readsFenced hstate
    · rfl
  have hframe := hs.react_still hbus rfl rfl
  have hadmin : q.react.admin = q.admin := Part.react_admin_of_no_flush nofun nofun
  have hwindow (v : Fin 16) : q.react.window v = if v = w then (s.part.window v).draining else s.part.window v :=
    (hframe.window v).trans ((s.part.taken rec).drains_window w v)
  exact ⟨_, hexec, (hwindow w).trans (if_pos rfl), fun v hv => (hwindow v).trans (if_neg hv), by rw [hadmin]; rfl,
    by rw [hadmin]; rfl, onlyChanges_iff.2 ⟨rfl, hall.trans (hframe.mono (by simp))⟩⟩

/-! ### The end of draining -/

/-- Of the positions that meet a test the lowest is found first. -/
theorem find?_finRange {n : Nat} {f : Fin n → Bool} {k : Fin n} (hk : f k = true) (hfirst : ∀ j, j < k → f j = false) :
    (List.finRange n).find? f = some k := by
  refine find?_of_first (List.mem_finRange k) hk fun j _ hj => ?_
  simp only [List.idxOf_finRange, Fin.val_fin_le]
  by_contra hlt
  rw [hfirst j (not_le.1 hlt)] at hj
  exact Bool.noConfusion hj

theorem Part.drainingDue_eq (halive : p.engine.state.alive = true) (hends : p.drainingEnds w = true)
    (hfirst : ∀ v, v < w → p.drainingEnds v = false) : p.drainingDue = some w :=
  (if_pos halive).trans (find?_finRange hends hfirst)

theorem Part.drainingDue_none (h : p.engine.state.alive = false ∨ ∀ v, p.drainingEnds v = false) :
    p.drainingDue = none := by
  unfold Part.drainingDue
  split
  · next halive =>
    rcases h with h | h
    · exact Bool.noConfusion (h.symm.trans halive)
    · exact List.find?_eq_none.2 fun v _ => by simp [h v]
  · rfl

theorem Part.endDraining_of_waiting (h : p.admin.state = .waiting (.clearWindow w)) :
    p.endDraining w = (p.modWindow w fun _ => .unused).endCommand .success 0#32 := if_pos h

/-- The end of draining clears the window, and may end a command. -/
theorem Part.endDraining_clears (p : Part) (w : Fin 16) :
    (p.modWindow w fun _ => .unused).Keeps [.admin, .compl] (p.endDraining w) := by
  unfold Part.endDraining
  dsimp only
  split
  · simp
  · exact Part.keeps_self _ _

/-- A command that ends leaves the unit completing, whatever follows. -/
theorem Part.react_endCommand_admin (p : Part) (st : Status) (x : BitVec 32) :
    (p.endCommand st x).react.admin = (p.endCommand st x).admin := Part.react_admin_of_no_flush nofun nofun

/-- Settles O57: the command clears the window or drains it, and the lowest window due is cleared at its end. -/
theorem windowsDrainBeforeTheyClear : Obligations.WindowsDrainBeforeTheyClear := by
  refine ⟨fun s rec w hs ha hw => ⟨fun hopen hfenced => ?_, fun hstate =>
      ⟨State.windowCleared hs ha hw hstate, State.windowDrains hs ha hw hstate⟩⟩,
    fun s w halive hends hfirst => ?_, fun p w => Part.drainingEnds_iff, fun s hno => ?_⟩
  · obtain ⟨hends, honly⟩ := State.ended_taken (rec := rec) hs .wrongState
    refine ⟨_, State.andThen_refused ha (checks := (Part.clearWindowChecks · rec)) ?_ (by simp) _, hends, honly⟩
    exact (Part.clearWindowChecks_eq hw).trans (if_neg (not_or.2 ⟨hopen, hfenced⟩))
  · have heffect : effect .endOfDraining s.part = (s.part.endDraining w).react := by
      simp only [effect, Part.finishDraining, Part.drainingDue_eq halive hends hfirst]
    have hkeeps := s.part.endDraining_clears w
    have hwindow (v : Fin 16) : (s.part.endDraining w).react.window v = if v = w then .unused else s.part.window v :=
      ((Part.react_window _ v).trans (hkeeps.window v)).trans (Part.modWindow_window s.part w v _)
    refine ⟨_, exec_of_effect heffect, (hwindow w).trans (if_pos rfl), fun v hv => (hwindow v).trans (if_neg hv),
      fun hwaiting => ?_, (Part.react_sched _).trans hkeeps.sched, (Part.react_master _).trans hkeeps.master⟩
    simp only [Part.endDraining_of_waiting hwaiting, Part.react_endCommand_admin, Part.react_compl]
    exact ⟨rfl, rfl, rfl⟩
  · refine exec_of_effect ?_
    simp only [effect, Part.finishDraining, Part.drainingDue_none hno]

end Sys2Proof.Machine
end

section
/-! ATTACH and DETACH (R95, R106, R152, R160, R161): O59. -/

-- One declaration at a time: every further thread counts against the memory the check allows.
set_option Elab.async false

namespace Sys2Proof.Machine

variable {p q : Part} {s : State} {rec : Block}

/-! ### ATTACH -/

/-- The port begins its join (R95). -/
def Port.joins (x : Port) : Port :=
  { x with state := .joining, errorCount := 0, mark := .none, joinTimer := 32 }

theorem Part.attachChecks_eq (p : Part) : checkStatus p.attachChecks =
    if p.port.state ≠ .detached then .wrongState
    else if p.notices.nodeId = none ∨ p.notices.ring.present = false then .notReady
    else if p.port.clockPresent = false ∨ p.port.rst = true then .wrongState else .success := by
  simp only [Part.attachChecks, checkStatus_cons, checkStatus_nil, beq_eq_false_iff_ne, Bool.and_eq_false_iff,
    Option.isSome_eq_false_iff, Option.isNone_iff_eq_none, Bool.not_eq_false']

/-- A port that need not move stays, with LVL as it was, where the most urgent class is what a settled part saw. -/
theorem Settled.react_port_of_still (hs : Settled p) (hlevel : q.requestLevel = p.requestLevel) (hstill : q.portStill)
    (hreq : q.port.req = p.port.req) (hlvl : q.port.lvl = p.port.lvl) : q.react.port = q.port := by
  obtain ⟨-, hdriven, -⟩ := settled_iff.1 hs
  have hdrive : q.driveLevel = q := by
    rw [Part.driveLevel_eq_self_iff, hreq, hlvl, hlevel]
    exact hdriven
  rw [Part.react_port, Part.movePort_eq_self_iff.2 hstill, hdrive]

/-- ATTACH ends at once, its effect made where its checks pass (R95, R160). -/
def Part.attached (p : Part) : Part := if checkStatus p.attachChecks = .success then p.onPort Port.joins else p

theorem exec_attach (ha : Arrives s.part) : exec (.attach rec) s =
    .next (s.ended (s.part.taken rec).attached (checkStatus s.part.attachChecks)) := by
  refine (State.andThen_checked ha (checks := fun p => p.attachChecks) (st := checkStatus s.part.attachChecks)
    (by simp [Part.attachChecks]) rfl (g := fun p => p.onPort Port.joins) fun p => rfl).trans ?_
  rfl

theorem Part.attached_port (p : Part) : p.attached.port =
    if checkStatus p.attachChecks = .success then p.port.joins else p.port := by
  unfold Part.attached
  split <;> rfl

theorem Part.attached_keeps (p : Part) : p.Keeps [.port] p.attached := by
  unfold Part.attached
  split <;> simp

theorem Settled.attached_port (hs : Settled s.part) (st : Status) :
    (s.ended (s.part.taken rec).attached st).part.port =
      if checkStatus s.part.attachChecks = .success then s.part.port.joins else s.part.port := by
  have hkeeps : (s.part.taken rec).Keeps [.port] (s.part.taken rec).attached := (s.part.taken rec).attached_keeps
  have hport : (s.part.taken rec).attached.port =
      if checkStatus s.part.attachChecks = .success then s.part.port.joins else s.part.port :=
    (s.part.taken rec).attached_port
  by_cases hst : checkStatus s.part.attachChecks = .success
  · rw [if_pos hst] at hport ⊢
    have hall : s.part.Keeps [.host, .admin, .port, .compl] ((s.part.taken rec).attached.endCommand st 0#32) := by
      simpa using ((s.part.taken_keeps rec).mono (l' := [.host, .admin, .port, .compl]) (by simp)).trans
        (hkeeps.mono (by simp))
    refine (hs.react_port_of_still (q := (s.part.taken rec).attached.endCommand st 0#32)
      (Part.requestLevel_congr (hall.mono (by simp)).settleView) ?_ (congrArg Port.req hport :)
      (congrArg Port.lvl hport :)).trans hport
    have hjoins : ((s.part.taken rec).attached.endCommand st 0#32).port.state = .joining := congrArg Port.state hport
    unfold Part.portStill
    rw [hjoins]
    trivial
  · rw [if_neg hst] at hport ⊢
    have hsame : (s.part.taken rec).attached = s.part.taken rec := if_neg hst
    rw [hsame]
    exact (onlyChanges_iff.1 (State.ended_taken hs rec st).2).2.port

/-! ### DETACH -/

/-- The port that owns the backplane is marked, and leaves the rest of its tenure to the release (R106). -/
def Part.marked (p : Part) : Part := p.onPort fun x =>
  { x with
    mark := .command, chainHold := none
    state := if x.state ≠ .owner then x.state else if p.master.state = .idle then .releasing else .yielding }

theorem Part.detachCommand_of_owner
    (h : p.port.state = .owner ∨ p.port.state = .yielding ∨ p.port.state = .releasing) :
    p.detachCommand = p.marked.waitFor .detach := by
  unfold Part.detachCommand Part.marked
  rcases h with h | h | h <;> simp [h, Part.onPort, Part.endHold, Part.waitFor, Part.onAdmin]

theorem Part.marked_portStill (hp : p.portStill)
    (h : p.port.state = .owner ∨ p.port.state = .yielding ∨ p.port.state = .releasing) :
    (p.marked.waitFor .detach).portStill := by
  have hmaster : (p.marked.waitFor .detach).master.state = p.master.state := rfl
  have hstate : (p.marked.waitFor .detach).port.state =
    if p.port.state ≠ .owner then p.port.state else if p.master.state = .idle then .releasing else .yielding := rfl
  unfold Part.portStill at hp ⊢
  rw [hstate, hmaster]
  rcases h with h | h | h <;> by_cases hidle : p.master.state = .idle <;> simp_all

theorem Part.detachCommand_of_waiting
    (h : p.port.state = .joining ∨ p.port.state = .idle ∨ p.port.state = .requesting) :
    p.detachCommand = (p.endHold.waitFor .detach).detach .command := by
  have hstate : (p.endHold.waitFor .detach).port.state = p.port.state := rfl
  unfold Part.detachCommand
  rcases h with h | h | h <;> simp only [hstate, h]

/-- The detachment ends a DETACH that waits, with its cause as the result (R106). -/
theorem Part.detach_of_waiting (halive : p.engine.state.alive = true) (h : p.admin.state = .waiting .detach) :
    p.detach .command = (p.portDetached.pendDetached .command).endCommand .success 1#32 := by
  have hpend : p.portDetached.Keeps [.notices, .stats] (p.portDetached.pendDetached .command) := by simp
  exact if_pos ⟨by rw [hpend.engine]; exact halive, by rw [hpend.admin]; exact h⟩

theorem exec_detach (ha : Arrives s.part) (h : s.part.port.state ≠ .detached) :
    exec (.detach rec) s = .next { s with part := (s.part.taken rec).detachCommand.react } :=
  State.andThen_accepted ha (checks := fun p => [(p.port.state != .detached, .wrongState)]) (by simp)
    (by simp [checkStatus_cons, checkStatus_nil, Part.taken, h]) _

/-- Settles O59: ATTACH begins the join, and DETACH leaves at once or marks the port that owns the backplane. -/
theorem attachAndDetach : Obligations.AttachAndDetach := by
  refine fun s rec hs ha => ⟨⟨_, _, exec_attach ha, Part.attachChecks_eq _, ?_⟩, fun hdetached => ?_,
    fun hwaits => ?_, fun howns => ?_⟩
  · have hkeeps : (s.part.taken rec).Keeps [.port] (s.part.taken rec).attached := (s.part.taken rec).attached_keeps
    set st := checkStatus s.part.attachChecks
    refine ⟨.of_end (by rw [hkeeps.admin]; rfl) (by rw [hkeeps.admin]; rfl) hkeeps.engine (by rw [hkeeps.host]; rfl),
      onlyChanges_iff.2 ⟨rfl, ?_⟩, hs.attached_port st⟩
    have hall : s.part.Keeps [.host, .admin, .port, .compl] ((s.part.taken rec).attached.endCommand st 0#32) := by
      simpa using ((s.part.taken_keeps rec).mono (l' := [.host, .admin, .port, .compl]) (by simp)).trans
        (hkeeps.mono (by simp))
    exact hall.trans ((hs.react_quiet (q := (s.part.taken rec).attached.endCommand st 0#32) hkeeps.engine
      hkeeps.notices).mono (by simp))
  · obtain ⟨hends, honly⟩ := State.ended_taken (rec := rec) hs .wrongState
    refine ⟨_, State.andThen_refused ha (checks := fun p => [(p.port.state != .detached, .wrongState)]) ?_ (by simp) _,
      hends, honly⟩
    simp [checkStatus_cons, Part.taken, hdetached]
  · have halive : (s.part.taken rec).engine.state.alive = true := EngineState.alive_of_working ha.1
    have hexec := exec_detach (rec := rec) ha (by rcases hwaits with h | h | h <;> simp [h])
    obtain ⟨htold, hwrite⟩ := Part.detach_told (p := (s.part.taken rec).endHold.waitFor .detach) halive .command
    rw [Part.detachCommand_of_waiting (p := s.part.taken rec) hwaits] at hexec
    rw [Part.detach_of_waiting (p := (s.part.taken rec).endHold.waitFor .detach) halive rfl] at hexec htold hwrite
    set p := ((s.part.taken rec).endHold.waitFor .detach).portDetached with hp
    have hpend : p.Keeps [.notices, .stats] (p.pendDetached .command) := by simp
    have hport : ((p.pendDetached .command).endCommand .success 1#32).port = p.port := hpend.port
    refine ⟨_, hexec, .of_end (by rw [hpend.admin]; rfl) (by rw [hpend.admin]; rfl) (by rw [hpend.engine]; rfl)
      (by rw [hpend.host]; rfl), ?_, 
      DetachTold.of_react (t := { s with part := _ }) htold hwrite rfl, (Part.react_sched _).trans hpend.sched⟩
    refine (Part.react_port_low (by rw [hport]; rfl) (by rw [hport]; rfl)).trans ?_
    rw [hport]
    rfl
  · have hexec := exec_detach (rec := rec) ha (by rcases howns with h | h | h <;> simp [h])
    rw [Part.detachCommand_of_owner (p := s.part.taken rec) howns] at hexec
    set q := (s.part.taken rec).marked.waitFor .detach with hq
    have hall : s.part.Keeps [.host, .admin, .port] q := by
      simpa [hq, Part.marked] using (s.part.taken_keeps rec).mono (l' := [.host, .admin, .port]) (by simp)
    have hstill : q.portStill := Part.marked_portStill (p := s.part.taken rec) (settled_iff.1 hs).1 howns
    have hport := hs.react_port_of_still (Part.requestLevel_congr (hall.mono (by simp)).settleView) hstill rfl rfl
    have hadmin : q.react.admin = q.admin := Part.react_admin_of_no_flush nofun nofun
    exact ⟨_, hexec, hport, by rw [hadmin]; rfl, by rw [hadmin]; rfl,
      onlyChanges_iff.2 ⟨rfl, hall.trans ((hs.react_quiet (q := q) rfl rfl).mono (by simp))⟩⟩

end Sys2Proof.Machine
end

section
/-! QUERY, its report records and their write (R151, R162, R163, R169): O60. -/

-- One declaration at a time: every further thread counts against the memory the check allows.
set_option Elab.async false

namespace Sys2Proof.Machine

variable {p q : Part} {s : State} {rec : Block}

/-! ### The report records, field by field (10) -/

/-- In a row of records of `n` bytes the record at place `i` begins at byte `n * i`. -/
theorem flatMap_record {α : Type} {n : Nat} {f : α → List Byte} (hf : ∀ a, (f a).length = n) {l : List α} {i : Nat}
    {a : α} (h : l[i]? = some a) (r : List Byte) : ((l.flatMap f ++ r).drop (n * i)).take n = f a := by
  induction l generalizing i with
  | nil => simp at h
  | cons b l ih =>
    cases i with
    | zero =>
      obtain rfl : b = a := by simpa using h
      rw [List.flatMap_cons, List.append_assoc, Nat.mul_zero, List.drop_zero, List.take_left' (hf b)]
    | succ i =>
      rw [List.flatMap_cons, List.append_assoc, Nat.mul_succ, Nat.add_comm, ← List.drop_drop, List.drop_left' (hf b)]
      exact ih (by simpa using h)

/-- The counters of the STATISTICS report, in its order. -/
def Stats.counters (c : Stats) : List (BitVec 32) :=
  [c.admitted, c.evictions, c.returns, c.bursts, c.pageHits, c.pageMisses, c.retries, c.timeouts, c.targetFaults,
    c.busErrors, c.accepted, c.urgent, c.rejected, c.refused, c.merged]

theorem statisticsReport_counter (p : Part) {i : Nat} {x : BitVec 32} (h : p.stats.counters[i]? = some x) :
    ((statisticsReport p).drop (4 * i)).take 4 = leBytes 4 x.toNat := by
  simp only [statisticsReport, List.append_assoc]
  exact flatMap_record (f := fun c : BitVec 32 => leBytes 4 c.toNat) (fun _ => rfl) h _

theorem statisticsReport_port (p : Part) : (statisticsReport p).length = 64
    ∧ (statisticsReport p)[0x3C]? = some (BitVec.ofNat 8 p.port.state.code)
    ∧ (statisticsReport p)[0x3D]? = some (BitVec.ofNat 8 p.port.errorCount)
    ∧ (statisticsReport p)[0x3E]? = some (0#6 ++ BitVec.ofBool p.port.rst ++ BitVec.ofBool p.port.clockPresent)
    ∧ (statisticsReport p)[0x3F]? = some 0#8 := by
  have hlines : (statisticsReport p)[0x3E]? =
    some (BitVec.ofNat 8 (p.port.clockPresent.toNat + 2 * p.port.rst.toNat)) := rfl
  refine ⟨rfl, rfl, rfl, hlines.trans (congrArg some ?_), rfl⟩
  cases p.port.clockPresent <;> cases p.port.rst <;> rfl

/-- The record of bank `k` in a WINDOW report, or of its absence. -/
def Window.bankRecord (w : Window) (k : Nat) : List Byte :=
  match w.banks[k]? with
  | some b => bankReport b
  | none => 0xFF#8 :: List.replicate 7 0#8

theorem leBytes_one (v : Nat) : leBytes 1 v = [BitVec.ofNat 8 v] := rfl

/-- The bytes of a WINDOW report before its banks' records, its codes spelled out. -/
def Window.reportHead (w : Window) : List Byte :=
  [if w.state = .unused then 0#8 else if w.state = .opened then 1#8 else if w.state = .fenced then 2#8 else 3#8,
    if w.drain = .run then 0#8 else 1#8, BitVec.ofNat 8 w.inFlight, BitVec.ofNat 8 w.timeouts]
  ++ List.replicate 4 0#8 ++ leBytes 4 w.base.toNat ++ leBytes 4 w.size
  ++ [if w.kind = .direct then 0#8 else 1#8, BitVec.ofNat 8 w.portWidth, BitVec.ofNat 8 w.maxBurst,
    if w.access = .readWrite then 0#8 else if w.access = .readOnly then 1#8 else 2#8,
    if w.lockPermitted then 1#8 else 0#8, BitVec.ofNat 8 w.limitClass.val, BitVec.ofNat 8 w.fenceLimit, 0#8]
  ++ leBytes 2 w.pageSize
  ++ [BitVec.ofNat 8 w.bankCount, if w.policy = .keep then 0#8 else 1#8, BitVec.ofNat 8 w.openLimit] ++ List.replicate 3 0#8

theorem windowReport_eq (w : Window) : windowReport w = w.reportHead ++ (List.range 4).flatMap w.bankRecord := by
  have hstate : BitVec.ofNat 8 w.state.code = if w.state = .unused then 0#8 else if w.state = .opened then 1#8
    else if w.state = .fenced then 2#8 else 3#8 := by cases w.state <;> rfl
  have hdrain : BitVec.ofNat 8 (match w.drain with | .run => 0 | .fenced => 1) =
    if w.drain = .run then 0#8 else 1#8 := by cases w.drain <;> rfl
  have hkind : BitVec.ofNat 8 (match w.kind with | .direct => 0 | .paged => 1) =
    if w.kind = .direct then 0#8 else 1#8 := by cases w.kind <;> rfl
  have haccess : BitVec.ofNat 8 (match w.access with | .readWrite => 0 | .readOnly => 1 | .writeOnly => 2) =
    if w.access = .readWrite then 0#8 else if w.access = .readOnly then 1#8 else 2#8 := by cases w.access <;> rfl
  have hlock : BitVec.ofNat 8 w.lockPermitted.toNat = if w.lockPermitted then 1#8 else 0#8 := by
    cases w.lockPermitted <;> rfl
  have hpolicy : BitVec.ofNat 8 (match w.policy with | .keep => 0 | .close => 1) =
    if w.policy = .keep then 0#8 else 1#8 := by cases w.policy <;> rfl
  unfold Window.reportHead windowReport
  simp only [leBytes_one, List.append_assoc, List.cons_append, List.nil_append]
  congr 40

theorem Window.bankRecord_length (w : Window) (k : Nat) : (w.bankRecord k).length = 8 := by
  unfold Window.bankRecord
  split <;> rfl

theorem windowReport_length (w : Window) : (windowReport w).length = 64 := by
  rw [windowReport_eq, List.length_append, List.length_flatMap]
  simp only [Window.bankRecord_length]
  rfl

theorem windowReport_bank (w : Window) {k : Nat} (hk : k < 4) :
    ((windowReport w).drop (0x20 + 8 * k)).take 8 = w.bankRecord k := by
  rw [windowReport_eq, ← List.drop_drop, List.drop_left' (show w.reportHead.length = 0x20 from rfl),
    ← List.append_nil (List.flatMap _ _)]
  exact flatMap_record w.bankRecord_length (by simp [hk]) _

theorem bankReport_eq (b : Bank) : bankReport b =
    [if b.state = .closed then 0#8 else if b.state = .opened then 1#8 else 2#8, if b.dueToClose then 1#8 else 0#8, 0#8, 0#8]
      ++ leBytes 4 (if b.state = .opened then b.page else 0) := by
  unfold bankReport
  cases b.state <;> cases b.dueToClose <;> rfl

/-! ### The command and the end of its write -/

theorem checkStatus_query (rec : Block) : checkStatus (queryChecks rec) =
    if 1 < cmdByte rec 0x10 then .invalidField
    else if cmdByte rec 0x10 = 1 ∧ 15 < cmdTarget rec then .invalidField
    else if (longAt rec 0x08).toNat % 64 ≠ 0 then .invalidField else .success := by
  have haligned : ((longAt rec 0x08).extractLsb' 0 6 == 0#6) = false ↔ (longAt rec 0x08).toNat % 64 ≠ 0 := by
    simp [BitVec.toNat_eq]
  have hwindow (hlow : ¬1 < cmdByte rec 0x10) : (cmdByte rec 0x10 == 0 || decide (cmdTarget rec < 16)) = false ↔
      cmdByte rec 0x10 = 1 ∧ 15 < cmdTarget rec := by
    simp only [Bool.or_eq_false_iff, beq_eq_false_iff_ne, decide_eq_false_iff_not]
    omega
  simp only [queryChecks, checkStatus_cons, checkStatus_nil, haligned, decide_eq_false_iff_not, not_le]
  by_cases hlow : 1 < cmdByte rec 0x10
  · rw [if_pos hlow, if_pos hlow]
  · rw [if_neg hlow, if_neg hlow]
    simp only [hwindow hlow]

/-- QUERY clears the counters where a STATISTICS query asks for it (R163). -/
def Part.cleared (p : Part) (rec : Block) : Part :=
  if cmdByte rec 0x10 = 0 ∧ (byteAt rec 0x11).getLsbD 0 = true then p.onStats fun _ => .zero else p

theorem Part.cleared_stats (p : Part) (rec : Block) : (p.cleared rec).stats =
    if cmdByte rec 0x10 = 0 ∧ (byteAt rec 0x11).getLsbD 0 = true then Stats.zero else p.stats := by
  unfold Part.cleared
  split <;> rfl

theorem Part.cleared_keeps (p : Part) (rec : Block) : p.Keeps [.stats] (p.cleared rec) := by
  unfold Part.cleared
  split <;> simp

theorem Part.query_eq (p : Part) (rec : Block) : p.query rec =
    ((p.cleared rec).ask .administration (.write (longAt rec 0x08)
      (if cmdByte rec 0x10 = 0 then statisticsReport p else windowReport (p.window (cmdWindow rec))))).onAdmin
        fun a => { a with state := .writing } := rfl

/-- With no command to fetch, none is asked for (R148). -/
theorem Part.react_request_administration (h : p.admin.state ≠ .idle) :
    p.react.request .administration = p.request .administration := by
  have hposting (q : Part) : q.askPosting.request .administration = q.request .administration := by
    unfold Part.askPosting
    (repeat' split) <;> simp [Part.ask_request]
  have hadmin (q : Part) : q.askAdminPosting.request .administration = q.request .administration := by
    unfold Part.askAdminPosting
    (repeat' split) <;> simp [Part.ask_request]
  have hnotice (q : Part) : q.askNotice.request .administration = q.request .administration := by
    simp only [Part.askNotice, Part.askNoticeEntry]
    (repeat' split) <;> simp [Part.ask_request]
  have hkeeps : p.Keeps [.admin, .port] p.movePort.driveLevel.captureFlush := by simp [Part.driveLevel]
  have hidle : p.movePort.driveLevel.captureFlush.admin.state ≠ .idle := by
    unfold Part.captureFlush
    (repeat' split) <;> simp_all [Part.waitFor]
  have hstill : ¬p.movePort.driveLevel.captureFlush.askPosting.askAdminPosting.askNotice.commandDue := fun hd =>
    hidle (by simpa using hd.2.1)
  rw [Part.react, Part.askCommand_eq_self_iff.2 hstill, hnotice, hadmin, hposting]
  exact hkeeps.request .administration

/-- Settles O60: the checks and the snapshot at arrival, the end of the write, and the layout of both reports. -/
theorem queryWritesItsReport : Obligations.QueryWritesItsReport := by
  refine ⟨fun s rec st hs ha hst => ?_, fun s rec i done hs hworks hwriting hwrite hcommand => ?_, fun p c hc => ?_,
    fun w data hdata => ?_⟩
  · rw [← checkStatus_query] at hst
    refine ⟨fun hne => ?_, fun hsuccess => ?_⟩
    · obtain ⟨hends, honly⟩ := State.ended_taken (rec := rec) hs st
      exact ⟨_, State.andThen_refused ha (checks := fun _ => queryChecks rec) hst.symm hne _, hends, honly⟩
    · have hexec : exec (.query rec) s = .next { s with part := ((s.part.taken rec).query rec).react } :=
        State.andThen_accepted ha (checks := fun _ => queryChecks rec) (by simp [queryChecks]) (hst.symm.trans hsuccess) _
      rw [Part.query_eq] at hexec
      have hcleared : s.part.Keeps [.host, .admin, .stats] ((s.part.taken rec).cleared rec) :=
        ((s.part.taken_keeps rec).mono (by simp)).trans (((s.part.taken rec).cleared_keeps rec).mono (by simp))
      have hstats := (s.part.taken rec).cleared_stats rec
      have hadmin : ((s.part.taken rec).cleared rec).admin = (s.part.taken rec).admin :=
        ((s.part.taken rec).cleared_keeps rec).admin
      generalize (s.part.taken rec).cleared rec = r at *
      generalize hdata : (if cmdByte rec 0x10 = 0 then statisticsReport (s.part.taken rec)
        else windowReport ((s.part.taken rec).window (cmdWindow rec))) = data at *
      set q := (r.ask .administration (.write (longAt rec 0x08) data)).onAdmin fun a => { a with state := .writing } with hq
      have hall : s.part.Keeps [.host, .admin, .stats] q := by simpa [hq] using hcleared
      have hreact := hs.react_still (hall.mono (by simp)).sameBus hall.engine hall.notices
      have hwriting : q.react.admin = q.admin := Part.react_admin_of_no_flush nofun nofun
      refine ⟨_, data, hexec, ?_, ?_, ?_, hdata.symm, ?_, onlyChanges_iff.2 ⟨rfl, hall.trans (hreact.mono (by simp))⟩⟩
      · rw [hwriting]
        rfl
      · rw [hwriting]
        exact (congrArg AdminUnit.command hadmin :)
      · refine (Part.react_request_administration (p := q) nofun).trans ?_
        exact (Part.ask_request _ _ _ _).trans (if_pos rfl)
      · exact hreact.stats.trans hstats
  · obtain ⟨q, hq, houtstanding⟩ : ∃ q : Part, q = s.part.forWrite .administration done
        ∧ q.writeOutstanding .administration = true := by
      refine ⟨_, rfl, ?_⟩
      rcases hwrite with h | ⟨rfl, h⟩
      · rwa [Part.forWrite_of_outstanding h]
      · exact Part.forWrite_writeOutstanding h
    have hkeeps : s.part.Keeps [.host] q.closeAccess := by simp [hq]
    have hready : q.closeAccess.engine.state.working = true ∧ q.closeAccess.admin.state = .writing :=
      ⟨by rw [hkeeps.engine]; exact hworks, by rw [hkeeps.admin]; exact hwriting⟩
    have heffect : effect (.queryReportWriteDone done) s.part = (q.closeAccess.endCommand
        (if done then .success else .hostWriteError) (if done then 64#32 else 0#32)).react := by
      simp only [effect, Part.reportWritten, ← hq, houtstanding, if_true, if_pos hready]
      cases done <;> rfl
    refine ⟨_, exec_of_effect heffect, .of_end (by rw [hkeeps.admin]) ((congrArg _ hkeeps.admin).trans hcommand)
      hkeeps.engine rfl, onlyChanges_iff.2 ⟨rfl, ?_⟩⟩
    have hall : s.part.Keeps [.host, .admin, .compl] (q.closeAccess.endCommand
        (if done then .success else .hostWriteError) (if done then 64#32 else 0#32)) := by
      simpa using Part.Keeps.mono (l' := [.host, .admin, .compl]) hkeeps (by simp)
    exact hall.trans ((hs.react_still (hall.mono (by simp)).sameBus hall.engine hall.notices).mono (by simp))
  · obtain ⟨hlength, hstate, herror, hlines, hzero⟩ := statisticsReport_port p
    subst hc
    exact ⟨hlength, fun i x => statisticsReport_counter p, hstate, herror, hlines, hzero⟩
  · have hlength := windowReport_length w
    have hbank := fun k (hk : k < 4) => windowReport_bank w hk
    rw [hdata]
    clear hdata
    rw [windowReport_eq] at hlength hbank ⊢
    generalize (List.range 4).flatMap w.bankRecord = banks at *
    refine ⟨hlength, rfl, rfl, rfl, rfl, rfl, rfl, rfl, rfl, rfl, rfl, rfl, rfl, rfl, rfl, rfl, rfl, rfl, rfl, rfl, rfl,
      fun k hk => ⟨fun b hb => ?_, fun hb => ?_⟩⟩
    · rw [hbank k hk, Window.bankRecord, hb]
      exact bankReport_eq b
    · rw [hbank k hk, Window.bankRecord, hb]

end Sys2Proof.Machine
end

section
/-! What the slots and the port see of a ring command, and what a ring gives back under one (R16, R34, R43, R93). -/

-- One declaration at a time: every further thread counts against the memory the check allows.
set_option Elab.async false

namespace Sys2Proof.Machine

variable {p q u : Part} {s t : State} {r : Fin 8}

/-! ### What decides what a slot waits for -/

/-- Every slot in use sees in `q` what it saw in `p`: engine, queue, fenced windows, and its ring's order and C. -/
structure Part.SeenSame (p q : Part) : Prop where
  engine : q.engine = p.engine
  sched : q.sched = p.sched
  windows : ∀ w, (q.window w).readsFenced = (p.window w).readsFenced
  rings : ∀ k, (p.slot k).state = .free ∨ (q.ring (p.slot k).ring).order = (p.ring (p.slot k).ring).order
    ∧ (q.ring (p.slot k).ring).consumer = (p.ring (p.slot k).ring).consumer

theorem Part.SeenSame.slot (h : p.SeenSame q) (k : Fin 8) : q.slot k = p.slot k := by
  rw [Part.slot, Part.slot, h.sched]

theorem Part.SeenSame.orderMet (h : p.SeenSame q) (k : Fin 8) : q.orderMet (p.slot k) = p.orderMet (p.slot k) := by
  rcases h.rings k with hfree | ⟨horder, hconsumer⟩
  · simp only [Part.orderMet, hfree]
    rfl
  · simp only [Part.orderMet, horder, hconsumer]

theorem Part.SeenSame.settleStatus (h : p.SeenSame q) (k : Fin 8) :
    q.settleStatus (p.slot k) = p.settleStatus (p.slot k) := by
  have hfenced : q.slotFenced (p.slot k) = p.slotFenced (p.slot k) := by
    unfold Part.slotFenced
    split
    · exact h.windows _
    · rfl
  simp only [Part.settleStatus, h.orderMet k, hfenced]

theorem Part.SeenSame.reportedSet (h : p.SeenSame q) : q.reportedSet = p.reportedSet := by
  have hbus (k : Fin 8) : q.busEligible (q.slot k) = p.busEligible (p.slot k) := by
    simp only [Part.busEligible, h.slot k, h.orderMet k, h.settleStatus k]
  simp only [Part.reportedSet, Part.busSet, h.engine, h.sched, hbus]

theorem Part.SeenSame.requestLevel (h : p.SeenSame q) : q.requestLevel = p.requestLevel := by
  simp only [Part.requestLevel, Part.mostUrgent, h.reportedSet, h.slot]

theorem Part.SeenSame.settleNext (h : p.SeenSame q) : q.settleNext = p.settleNext := by
  simp only [Part.settleNext, h.sched, h.slot, h.settleStatus]

/-! ### The port where no settlement is to come that could move it -/

theorem Part.settlesInto_last {f : Part → Bool} (h : p.settleNext = none) (n : Nat) : p.settlesInto f n = f p := by
  cases n with
  | zero => rfl
  | succ n => simp [Part.settlesInto, h]

theorem Part.setStaysEmpty_of_full (h : p.reportedSet ≠ []) : p.setStaysEmpty = false := by
  by_contra hempty
  exact h (Part.reportedSet_of_setStaysEmpty (by simpa using hempty))

theorem Part.setStaysEmpty_of_last (h : p.settleNext = none) : p.setStaysEmpty = p.reportedSet.isEmpty := by
  rw [Part.setStaysEmpty, Part.settlesInto_last (by rw [p.settleView_settleNext, h]), p.settleView_reportedSet, Bool.not_not]

theorem Part.noHoldComes_of_last (h : p.settleNext = none) : p.noHoldComes = p.port.chainHold.isNone := by
  have hview : p.holdView.settleNext = none := p.settleView_settleNext.trans h
  rw [Part.noHoldComes, Part.settlesInto_last hview]
  cases hhold : p.port.chainHold <;> simp [Part.holdView, hhold]

/-- Where nothing is to settle, or the set is not empty anyway, the port that has not changed stays still. -/
theorem Part.portStill.of_seen (h : p.portStill) (hseen : p.SeenSame q) (hport : q.port = p.port)
    (hmaster : q.master = p.master) (hlast : p.settleNext = none ∨ p.reportedSet ≠ []) : q.portStill := by
  have hset := hseen.reportedSet
  have hstays : q.setStaysEmpty = p.setStaysEmpty := by
    rcases hlast with hlast | hfull
    · rw [Part.setStaysEmpty_of_last hlast, Part.setStaysEmpty_of_last (hseen.settleNext.trans hlast), hset]
    · rw [Part.setStaysEmpty_of_full hfull, Part.setStaysEmpty_of_full (by rwa [hset])]
  unfold Part.portStill at *
  rw [hport, hmaster, hset, hstays]
  split at h
  case h_3 =>
    refine fun ⟨hidle, hempty, hno⟩ => h ⟨hidle, hempty, ?_⟩
    rcases hlast with hlast | hfull
    · rwa [Part.noHoldComes_of_last (hseen.settleNext.trans hlast), hport, ← Part.noHoldComes_of_last hlast] at hno
    · exact absurd (Part.reportedSet_of_setStaysEmpty hempty) hfull
  all_goals exact h

/-- And so does the whole port of a settled part. -/
theorem Settled.react_port_of_seen (hs : Settled p) (hseen : p.SeenSame q) (hport : q.port = p.port)
    (hmaster : q.master = p.master) (hlast : p.settleNext = none ∨ p.reportedSet ≠ []) : q.react.port = p.port :=
  (hs.react_port_of_still hseen.requestLevel ((settled_iff.1 hs).1.of_seen hseen hport hmaster hlast) (by rw [hport])
    (by rw [hport])).trans hport

/-! ### What a ring gives back, from the part before the command -/

/-- `p` is `s` as a ring command finds it: the record taken, and ring `r` in its new state with halted-at `h`. -/
structure State.RingSet (s : State) (r : Fin 8) (x : RingState) (h : Option Nat) (p : Part) : Prop where
  flush : p.NoFlush
  keeps : s.part.Keeps [.host, .admin, .fetch] p
  rings : ∀ i, p.ring i = if i = r then { s.part.ring r with state := x, haltedAt := h } else s.part.ring i
  admission : p.fetch.admission = s.part.fetch.admission
  flight : p.fetch.flight = s.part.fetch.flight

theorem State.ringSet (ha : Arrives s.part) (rec : Block) {x : RingState} {h : Option Nat}
    {f : SubmissionRing → SubmissionRing} (hf : f (s.part.ring r) = { s.part.ring r with state := x, haltedAt := h }) :
    s.RingSet r x h ((s.part.taken rec).modRing r f) where
  flush f hf := by
    have hwaits : s.part.admin.state = .waiting (.flushRing f) := hf
    exact AdminState.noConfusion (ha.2.1.symm.trans hwaits)
  keeps := by simp [Part.taken]
  rings i := by
    rw [Part.modRing_ring, ← hf]
    by_cases hi : i = r
    · subst hi
      rfl
    · rw [if_neg hi, if_neg hi]
      rfl
  admission := rfl
  flight := rfl

theorem State.RingSet.heldSlots {x : RingState} {h : Option Nat} (hp : s.RingSet r x h p) : p.heldSlots r =
    (List.finRange 8).filter fun k => (s.part.slot k).state == .held && (s.part.slot k).ring == r := by
  simp only [Part.heldSlots, hp.keeps.slot]

/-- What every return of a ring's HELD slots leaves (R16, R43), the ring `u` itself going back or not. -/
theorem State.RingSet.returnsHeld {x : RingState} {h : Option Nat} (hp : s.RingSet r x h p)
    (hu : (p.returnAll r).Keeps [.fetch] u) (hadmission : u.fetch.admission = p.fetch.admission)
    (hflight : u.fetch.flight = p.fetch.flight) (hrings : ∀ i, i ≠ r → u.ring i = (p.returnAll r).ring i)
    (ht : ((u.discardAdmission r).markFlight r).Keeps [.host, .admin, .fetch, .compl, .port] t.part)
    (htrings : ∀ i, i ≠ r → t.part.ring i = ((u.discardAdmission r).markFlight r).ring i)
    (htadmission : t.part.fetch.admission = ((u.discardAdmission r).markFlight r).fetch.admission)
    (htflight : t.part.fetch.flight = ((u.discardAdmission r).markFlight r).fetch.flight)
    (hcrings : ∀ c, t.part.cring c = ((u.discardAdmission r).markFlight r).cring c) :
    ReturnsHeld s t r (p.heldSlots r) := by
  have hflush : u.NoFlush := hp.flush.of_admin (hu.admin.trans (hp.flush.returned_admin _))
  have hdiscard := Part.discardAdmission_keeps u r
  have hsched : t.part.sched = (p.returnAll r).sched := ht.sched.trans (hdiscard.sched.trans hu.sched)
  have hslot (k : Fin 8) : t.part.slot k = if k ∈ p.heldSlots r then .empty else s.part.slot k := by
    rw [Part.slot, hsched]
    refine (p.returned_slot (p.heldSlots r) k).trans ?_
    rw [hp.keeps.slot k]
  refine ⟨fun k hk => (hslot k).trans (if_pos hk), fun k hk => (hslot k).trans (if_neg hk), ?_, ?_, fun w => ?_, fun c => ?_,
    fun i hi => ?_, ?_, ?_, ?_⟩
  · rw [hsched, p.returnAll_eq, p.returned_age, hp.keeps.sched]
  · rw [hsched, p.returnAll_eq, p.returned_sequence, p.returned_waiters, hp.keeps.sched]
    exact ⟨rfl, rfl⟩
  · have hwindow : t.part.window w = (p.returned (p.heldSlots r)).window w :=
      (ht.window w).trans ((hdiscard.window w).trans (hu.window w))
    rw [hwindow, p.returned_window (p.heldSlots_nodup r), hp.keeps.window w]
    simp only [hp.keeps.slot]
  · have hcring : u.cring c = (p.returned (p.heldSlots r)).cring c := hu.cring c
    have hlast : ((u.discardAdmission r).markFlight r).cring c = (u.discardAdmission r).cring c := rfl
    rw [hcrings, hlast, hflush.discardAdmission_cring, hcring, hp.flush.returned_cring (p.heldSlots_nodup r), hadmission,
      hp.admission, hp.keeps.cring c]
    simp only [hp.keeps.slot]
  · rw [htrings i hi, Part.markFlight_ring, Part.discardAdmission_ring, hrings i hi, p.returnAll_ring, if_neg hi, hp.rings i,
      if_neg hi]
  · have hstats : t.part.stats = (p.returned (p.heldSlots r)).stats := ht.stats.trans (hdiscard.stats.trans hu.stats)
    rw [hstats, p.returned_stats, hp.keeps.stats]
  · rw [htadmission, Part.markFlight_admission, Part.discardAdmission_fetch, hadmission, hp.admission]
  · rw [htflight, Part.markFlight_flight, Part.discardAdmission_fetch, hflight, hp.flight]

/-- And what the positions of the ring then are. -/
theorem State.RingSet.positionsReturned {x : RingState} {h : Option Nat} (hp : s.RingSet r x h p)
    (ht : ∃ f b, t.part.ring r = { p.ringReturned r with fetchIndex := f, evictionBar := b }) :
    PositionsReturned s t r (p.heldSlots r) := by
  obtain ⟨f, b, ht⟩ := ht
  have hring : p.ring r = { s.part.ring r with state := x, haltedAt := h } := (hp.rings r).trans (if_pos rfl)
  have htaken : p.ringReturned r = _ := p.takenBack_eq (p.heldSlots r) (p.ring r)
  have hmark (i : Nat) : (t.part.ring r).spanMark i =
      if ∃ k ∈ p.heldSlots r, (s.part.ring r).spanOffset i = (s.part.ring r).spanOffset (s.part.slot k).index then .notAdmitted
      else (s.part.ring r).spanMark i := by
    have hsame : (t.part.ring r).spanMark i = (p.ringReturned r).spanMark i := by
      rw [ht]
      rfl
    rw [hsame, Part.ringReturned, p.takenBack_spanMark, hring]
    simp only [hp.keeps.slot]
    rfl
  refine ⟨fun k hk => (hmark _).trans (if_pos ⟨k, hk, rfl⟩), fun i hi => (hmark i).trans (if_neg ?_), ?_, ?_, ?_⟩
  · rintro ⟨k, hk, hsame⟩
    exact hi k hk hsame
  · rw [ht, htaken, hring]
  · rw [ht, htaken, hring]
  · rw [ht, htaken, hring]

end Sys2Proof.Machine
end

section
/-! CREATE_SRING, HALT_SRING and RESUME_SRING (R1, R14, R16, R18, R19, R43, R154, R155): O53. -/

-- One declaration at a time: every further thread counts against the memory the check allows.
set_option Elab.async false

namespace Sys2Proof.Machine

variable {p q : Part} {s t : State} {r : Fin 8} {rec : Block}

/-! ### The checks -/

theorem checkStatus_createSring (hr : cmdTarget rec = r.val) (p : Part) : checkStatus (p.createSringChecks rec) =
    if isPowerOfTwo 16 4096 (cmdHalf rec 0x10) = false
        ∨ (longAt rec 0x08).toNat % 4096 ≠ 0 ∨ 3 < cmdByte rec 0x12
        ∨ cmdByte rec 0x13 < 1 ∨ 8 < cmdByte rec 0x13 ∨ 1 < cmdByte rec 0x14
        ∨ 15 < cmdByte rec 0x15 ∨ 1 < cmdByte rec 0x16 ∨ 7 < cmdByte rec 0x17 then .invalidField
    else if (p.cring (Fin.ofNat 8 (cmdByte rec 0x17))).present = false then .notFound
    else if (p.ring r).state ≠ .absent then .alreadyExists
    else .success := by
  simp only [Part.createSringChecks, checkStatus_cons, checkStatus_nil, cmdRing_eq hr, hr, r.isLt, decide_true,
    Bool.true_eq_false, if_false, Bool.and_eq_false_iff, pageAligned_eq_false_iff, decide_eq_false_iff_not,
    beq_eq_false_iff_ne, not_and_or, not_le, or_assoc]

theorem checkStatus_stateChecks (hr : cmdTarget rec = r.val) (p : Part) (needed : RingState) :
    checkStatus (p.stateChecks rec needed) =
      if (p.ring r).state = .absent then .notFound else if (p.ring r).state ≠ needed then .wrongState else .success := by
  simp only [Part.stateChecks, checkStatus_cons, checkStatus_nil, cmdRing_eq hr, hr, r.isLt, decide_true,
    Bool.true_eq_false, if_false, bne_eq_false_iff_eq, beq_eq_false_iff_ne]

/-- A ring command with no such ring ends with INVALID_FIELD, whatever it is (R154). -/
theorem exec_no_sring (ha : Arrives s.part) (hr : 7 < cmdTarget rec) {c : Instr}
    (hc : c = .createSring rec ∨ c = .deleteSring rec ∨ c = .haltSring rec ∨ c = .resumeSring rec ∨ c = .flushSring rec) :
    exec c s = .next (s.ended (s.part.taken rec) .invalidField) := by
  rcases hc with rfl | rfl | rfl | rfl | rfl
  · exact State.andThen_refused ha (checks := (Part.createSringChecks · rec)) (checkStatus_no_cring hr _) (by simp) _
  · exact State.andThen_refused ha (checks := (Part.deleteSringChecks · rec)) (checkStatus_no_cring hr _) (by simp) _
  · exact State.andThen_refused ha (checks := (Part.stateChecks · rec .active)) (checkStatus_no_cring hr _) (by simp) _
  · exact State.andThen_refused ha (checks := (Part.stateChecks · rec .halted)) (checkStatus_no_cring hr _) (by simp) _
  · exact State.andThen_refused ha (checks := (Part.stateChecks · rec .halted)) (checkStatus_no_cring hr _) (by simp) _

/-! ### CREATE_SRING (R1, R14, R154) -/

/-- The ring that CREATE_SRING makes of its record. -/
def sringOf (rec : Block) : SubmissionRing :=
  { SubmissionRing.absent with
    state := .active
    base := longAt rec 0x08
    size := cmdHalf rec 0x10
    cls := Fin.ofNat 4 (cmdByte rec 0x12)
    quota := cmdByte rec 0x13
    order := if cmdByte rec 0x14 = 0 then .ordered else .relaxed
    retryLimit := cmdByte rec 0x15
    policy := if cmdByte rec 0x16 = 0 then .continue else .halt
    bound := Fin.ofNat 8 (cmdByte rec 0x17) }

/-- The effect of CREATE_SRING where its checks pass. -/
def Part.sringCreated (p : Part) (r : Fin 8) (rec : Block) (st : Status) : Part :=
  if st = .success then (p.modRing r fun _ => sringOf rec).clearBars else p

theorem Part.sringCreated_ring (p : Part) (r i : Fin 8) (rec : Block) (st : Status) :
    (p.sringCreated r rec st).ring i = if st = .success then
      { (if i = r then sringOf rec else p.ring i) with evictionBar := false } else p.ring i := by
  unfold Part.sringCreated
  split
  · rw [Part.clearBars_ring, Part.modRing_ring]
  · rfl

theorem Part.sringCreated_keeps (p : Part) (r : Fin 8) (rec : Block) (st : Status) :
    p.Keeps [.fetch] (p.sringCreated r rec st) := by
  unfold Part.sringCreated
  split <;> simp

theorem Part.sringCreated_fetch (p : Part) (r : Fin 8) (rec : Block) (st : Status) :
    (p.sringCreated r rec st).fetch = { p.fetch with rings := (p.sringCreated r rec st).fetch.rings } := by
  unfold Part.sringCreated
  split <;> rfl

theorem exec_createSring (ha : Arrives s.part) (hr : cmdTarget rec = r.val) : exec (.createSring rec) s =
    .next (s.ended ((s.part.taken rec).sringCreated r rec (checkStatus (s.part.createSringChecks rec)))
      (checkStatus (s.part.createSringChecks rec))) :=
  State.andThen_checked ha (checks := (Part.createSringChecks · rec)) (by simp [Part.createSringChecks]) rfl
    (g := fun p => (p.modRing r fun _ => sringOf rec).clearBars) fun p => by rw [Part.createSring, cmdRing_eq hr, sringOf]

/-- No slot in use looks at the ring that is created (R1). -/
theorem Part.seenSame_sringCreated (hfree : ∀ k, (p.slot k).ring = r → (p.slot k).state = .free)
    (hq : p.Keeps [.host, .admin, .fetch, .compl] q) (hrings : ∀ i, i ≠ r → (q.ring i).order = (p.ring i).order
      ∧ (q.ring i).consumer = (p.ring i).consumer) : p.SeenSame q where
  engine := hq.engine
  sched := hq.sched
  windows w := by rw [hq.window w]
  rings k := by
    by_cases hk : (p.slot k).ring = r
    · exact .inl (hfree k hk)
    · exact .inr (hrings _ hk)

/-- CREATE_SRING, its checks made. -/
theorem State.sringCreated (hs : Settled s.part) (ha : Arrives s.part) (hr : cmdTarget rec = r.val) {st : Status}
    (hst : checkStatus (s.part.createSringChecks rec) = st) :
    ∃ t, exec (.createSring rec) s = .next t
      ∧ CommandEnds s t rec st 0#32 ∧ OnlyChanges [.host, .admin, .fetch, .port, .compl] s t
      ∧ (st ≠ .success → OnlyChanges [.host, .admin, .compl] s t)
      ∧ ((∀ k, (s.part.slot k).ring = r → (s.part.slot k).state = .free) →
          s.part.settleNext = none ∨ s.part.reportedSet ≠ [] → t.part.port = s.part.port)
      ∧ t.part.fetch = { s.part.fetch with rings := t.part.fetch.rings }
      ∧ (∀ i, t.part.ring i = if st = .success then
          { (if i = r then sringOf rec else s.part.ring i) with evictionBar := false } else s.part.ring i) := by
  have hexec := exec_createSring (rec := rec) ha hr
  rw [hst] at hexec
  have hkeeps := (s.part.taken rec).sringCreated_keeps r rec st
  have hring (i : Fin 8) := (s.part.taken rec).sringCreated_ring r i rec st
  have hfetch := (s.part.taken rec).sringCreated_fetch r rec st
  have hrefused : st ≠ .success → (s.part.taken rec).sringCreated r rec st = s.part.taken rec := fun h => if_neg h
  set q := (s.part.taken rec).sringCreated r rec st
  obtain ⟨hends, hframe⟩ := State.ended_frame hs hkeeps (by simp) hkeeps.admin hkeeps.host st
  have hall : s.part.Keeps [.host, .admin, .fetch, .compl] (q.endCommand st 0#32) := by
    simpa using ((s.part.taken_keeps rec).mono (l' := [.host, .admin, .fetch, .compl]) (by simp)).trans (hkeeps.mono (by simp))
  refine ⟨_, hexec, hends, onlyChanges_iff.2 ⟨rfl, (hall.mono (by simp)).trans (hframe.mono (by simp))⟩, fun hne => ?_,
    fun hfree hlast => ?_, ?_, fun i => ?_⟩
  · rw [hrefused hne]
    exact (State.ended_taken hs rec st).2
  · refine hs.react_port_of_seen (q := q.endCommand st 0#32)
      (Part.seenSame_sringCreated hfree hall fun i hi => ?_) hall.port hall.master hlast
    have hi' : (q.endCommand st 0#32).ring i = _ := hring i
    rw [hi', if_neg hi]
    split <;> exact ⟨rfl, rfl⟩
  · have hafter : (s.ended q st).part.fetch = q.fetch := hframe.fetch
    rw [hafter]
    exact hfetch
  · exact (hframe.ring i).trans (hring i)

/-! ### RESUME_SRING (R19, R155) -/

theorem exec_resumeSring (ha : Arrives s.part) (hr : cmdTarget rec = r.val)
    (hst : checkStatus (s.part.stateChecks rec .halted) = .success) : exec (.resumeSring rec) s =
    .next { s with part := (((s.part.taken rec).modRing r fun y => { y with state := .active, haltedAt := none }).endCommand
      .success (match (s.part.ring r).haltedAt with
        | some i => BitVec.ofNat 32 i
        | none => 0xFFFFFFFF#32)).react } := by
  refine (State.andThen_accepted ha (checks := (Part.stateChecks · rec .halted)) (by simp [Part.stateChecks]) hst _).trans ?_
  rw [Part.resumeSring, cmdRing_eq hr]
  rfl

/-- RESUME_SRING, its checks made. -/
theorem State.sringResumed (hs : Settled s.part) (ha : Arrives s.part) (hr : cmdTarget rec = r.val) {st : Status}
    (hst : checkStatus (s.part.stateChecks rec .halted) = st) :
    ∃ t, exec (.resumeSring rec) s = .next t
      ∧ CommandEnds s t rec st (if st = .success then
          (match (s.part.ring r).haltedAt with
            | some i => BitVec.ofNat 32 i
            | none => 0xFFFFFFFF#32) else 0#32)
      ∧ OnlyChanges [.host, .admin, .fetch, .port, .compl] s t
      ∧ (st ≠ .success → OnlyChanges [.host, .admin, .compl] s t)
      ∧ (s.part.settleNext = none ∨ s.part.reportedSet ≠ [] → t.part.port = s.part.port)
      ∧ t.part.fetch = { s.part.fetch with rings := t.part.fetch.rings }
      ∧ ∀ i, t.part.ring i = if i = r ∧ st = .success then { s.part.ring r with state := .active, haltedAt := none }
          else s.part.ring i := by
  by_cases hok : st = .success
  · subst hok
    have hset := State.ringSet (r := r) (f := fun y => { y with state := .active, haltedAt := none }) ha rec rfl
    have hfetch : ((s.part.taken rec).modRing r fun y => { y with state := .active, haltedAt := none }).fetch =
        { s.part.fetch with rings := ((s.part.taken rec).modRing r fun y =>
          { y with state := .active, haltedAt := none }).fetch.rings } := rfl
    refine ⟨_, exec_resumeSring ha hr hst, ?_⟩
    set q := (s.part.taken rec).modRing r fun y => { y with state := .active, haltedAt := none } with hq
    generalize (match (s.part.ring r).haltedAt with
      | some i => BitVec.ofNat 32 i
      | none => 0xFFFFFFFF#32) = x
    have hall : s.part.Keeps [.host, .admin, .fetch, .compl] (q.endCommand .success x) := by
      simpa using Part.Keeps.mono (l' := [.host, .admin, .fetch, .compl]) hset.keeps (by simp)
    have hframe := hs.react_quiet (q := q.endCommand .success x) rfl rfl
    have hring (i : Fin 8) : (q.endCommand .success x).react.ring i =
        if i = r then { s.part.ring r with state := .active, haltedAt := none } else s.part.ring i :=
      (hframe.ring i).trans (hset.rings i)
    have honly : s.part.Keeps [.host, .admin, .fetch, .port, .compl] (q.endCommand .success x).react :=
      (hall.mono (by simp)).trans (hframe.mono (by simp))
    rw [if_pos rfl]
    refine ⟨.of_end rfl rfl rfl rfl, onlyChanges_iff.2 ⟨rfl, honly⟩, fun hne => absurd rfl hne, fun hlast => ?_, ?_, fun i => ?_⟩
    · refine hs.react_port_of_seen ⟨hall.engine, hall.sched, fun w => by rw [hall.window w], fun k => .inr ?_⟩ hall.port
        hall.master hlast
      have hsame : (q.endCommand .success x).ring (s.part.slot k).ring = _ := hset.rings (s.part.slot k).ring
      rw [hsame]
      split
      · next hk =>
        rw [hk]
        exact ⟨rfl, rfl⟩
      · exact ⟨rfl, rfl⟩
    · have hafter : (q.endCommand .success x).react.fetch = q.fetch := hframe.fetch
      rw [hafter]
      exact hfetch
    · rw [hring i]
      simp only [and_true]
  · obtain ⟨hends, honly⟩ := State.ended_taken (rec := rec) hs st
    rw [if_neg hok]
    refine ⟨_, State.andThen_refused ha (checks := (Part.stateChecks · rec .halted)) hst hok _, hends, ?_, fun _ => honly,
      fun _ => (onlyChanges_iff.1 honly).2.port, ?_, fun i => ?_⟩
    · exact onlyChanges_iff.2 ⟨rfl, (onlyChanges_iff.1 honly).2.mono (by simp)⟩
    · rw [(onlyChanges_iff.1 honly).2.fetch]
    · rw [if_neg fun h => hok h.2]
      exact (onlyChanges_iff.1 honly).2.ring i

/-! ### HALT_SRING (R16, R18, R155) -/

theorem exec_haltSring (ha : Arrives s.part) (hr : cmdTarget rec = r.val)
    (hst : checkStatus (s.part.stateChecks rec .active) = .success) : exec (.haltSring rec) s =
    .next { s with part := ((((s.part.taken rec).modRing r fun y => { y with state := .halted, haltedAt := none }).haltReturns
      r).endCommand .success (BitVec.ofNat 32 (s.part.heldSlots r).length)).react } := by
  refine (State.andThen_accepted ha (checks := (Part.stateChecks · rec .active)) (by simp [Part.stateChecks]) hst _).trans ?_
  rw [Part.haltSring, cmdRing_eq hr]
  rfl

/-- HALT_SRING, its checks passed. -/
theorem State.sringHalted (hs : Settled s.part) (ha : Arrives s.part) (hr : cmdTarget rec = r.val)
    (hst : checkStatus (s.part.stateChecks rec .active) = .success) {l : List (Fin 8)}
    (hl : l = ((List.finRange 8).filter fun k => (s.part.slot k).state == .held && (s.part.slot k).ring == r)) :
    ∃ t, exec (.haltSring rec) s = .next t ∧ CommandEnds s t rec .success (BitVec.ofNat 32 l.length)
      ∧ (t.part.ring r).state = .halted ∧ (t.part.ring r).haltedAt = none
      ∧ ReturnsHeld s t r l ∧ PositionsReturned s t r l
      ∧ OnlyChanges [.host, .admin, .fetch, .sched, .windows, .port, .compl, .stats] s t
      ∧ (l = [] → (t.part.ring r).fetchIndex = (s.part.ring r).fetchIndex)
      ∧ (∀ k ∈ l,
        (∀ j ∈ l, (s.part.ring r).spanOffset (s.part.slot k).index
            ≤ (s.part.ring r).spanOffset (s.part.slot j).index) →
        (t.part.ring r).fetchIndex = (SubmissionRing.skipFetch { t.part.ring r with
          fetchIndex := ((s.part.ring r).consumer
            + (s.part.ring r).spanOffset (s.part.slot k).index) % (s.part.ring r).size
            }).fetchIndex) := by
  have hset := State.ringSet (r := r) (f := fun y => { y with state := .halted, haltedAt := none }) ha rec rfl
  have hexec := exec_haltSring ha hr hst
  have hengine : ((s.part.taken rec).modRing r fun y => { y with state := .halted, haltedAt := none }).admin =
      (s.part.taken rec).admin := rfl
  have hfree : ((s.part.taken rec).modRing r fun y => { y with state := .halted, haltedAt := none }).host.outstanding =
      none := rfl
  have hlength : (s.part.heldSlots r).length = l.length := by rw [hl]; rfl
  rw [hlength] at hexec
  generalize ((s.part.taken rec).modRing r fun y => { y with state := .halted, haltedAt := none }) = p at *
  have hheld : p.heldSlots r = l := hset.heldSlots.trans hl.symm
  have hpring : p.ring r = { s.part.ring r with state := .halted, haltedAt := none } := (hset.rings r).trans (if_pos rfl)
  have hkeeps := p.haltReturns_keeps r
  have hadmin : (p.haltReturns r).admin = (s.part.taken rec).admin := (hset.flush.haltReturns_admin r).trans hengine
  set q := p.haltReturns r with hq
  have hframe := hs.react_quiet (q := q.endCommand .success (BitVec.ofNat 32 l.length)) (hkeeps.engine.trans hset.keeps.engine)
    (hkeeps.notices.trans hset.keeps.notices)
  set t := (q.endCommand .success (BitVec.ofNat 32 l.length)).react with ht
  have hring : t.ring r = q.ring r := hframe.ring r
  have hself : q.ring r = _ := p.haltReturns_ring_self r
  rw [hheld, hpring] at hself
  have hpart : q.Keeps [.host, .admin, .compl, .port] t := by
    have hend : q.Keeps [.host, .admin, .compl, .port] (q.endCommand .success (BitVec.ofNat 32 l.length)) := by simp
    exact hend.trans (hframe.mono (by simp))
  have hall : s.part.Keeps [.host, .admin, .fetch, .sched, .windows, .port, .compl, .stats] t :=
    ((hset.keeps.mono (by simp)).trans (hkeeps.mono (by simp))).trans (hpart.mono (by simp))
  obtain ⟨hstill, hback⟩ := p.haltReturns_fetchIndex r
  rw [hheld, hpring] at hstill hback
  refine ⟨_, hexec, .of_end (by rw [hadmin]; rfl) (by rw [hadmin]; rfl) (hkeeps.engine.trans hset.keeps.engine) ?_, ?_, ?_,
    ?_, ?_, ?_, fun hnone => ?_, fun k hk hleast => ?_⟩
  · rw [hkeeps.host]
    exact hfree
  · rw [hring, hself]
  · rw [hring, hself]
  · rw [← hheld]
    refine hset.returnsHeld (u := p.wentBack r) (by simp [Part.wentBack]) (p.wentBack_admission r) (p.returned_flight _)
      (fun i hi => ?_) (hpart.mono (by simp)) (fun i _ => hpart.ring i) (congrArg FetchUnit.admission hpart.fetch)
      (congrArg FetchUnit.flight hpart.fetch) fun c => Part.react_cring _ c
    rw [Part.wentBack, Part.modRing_ring, if_neg hi]
  · rw [← hheld]
    refine hset.positionsReturned ⟨((p.ringReturned r).rewind (p.lowestHeld r)).fetchIndex,
      (p.ring r).evictionBar && (p.heldSlots r).isEmpty, ?_⟩
    have hrewound := (p.ringReturned r).rewind_eq (p.lowestHeld r)
    exact hring.trans ((p.haltReturns_ring r r).trans (by rw [if_pos rfl, hrewound]))
  · exact onlyChanges_iff.2 ⟨rfl, hall⟩
  · rw [hring]
    exact hstill hnone
  · rw [hring]
    have hslot (j : Fin 8) : p.slot j = s.part.slot j := hset.keeps.slot j
    have hlast := hback k hk fun j hj => by
      rw [hslot, hslot]
      exact hleast j hj
    have hconsumer : (q.ring r).consumer = (s.part.ring r).consumer := by rw [hself]
    rw [hslot, ← hq, hconsumer] at hlast
    exact hlast

/-- Settles O53: each command's checks, and its effect where they pass. -/
theorem submissionRingCommands : Obligations.SubmissionRingCommands := by
  refine fun s rec hs ha => ⟨fun hno c hc => ?_, fun r hr => ⟨?_, ?_, ?_⟩⟩
  · obtain ⟨hends, honly⟩ := State.ended_taken (rec := rec) hs .invalidField
    exact ⟨_, exec_no_sring ha hno hc, hends, honly⟩
  · obtain ⟨t, hexec, hends, honly, hrefused, hport, hfetch, hring⟩ := State.sringCreated hs ha hr rfl
    refine ⟨t, _, hexec, checkStatus_createSring hr _, hends, honly, hrefused, hport, hfetch, fun i hi => ?_, fun hst => ?_⟩
    · rw [hring i, if_neg hi]
    · rw [hring r, if_pos hst, if_pos rfl]
      rfl
  · by_cases hst : checkStatus (s.part.stateChecks rec .active) = .success
    · obtain ⟨t, hexec, hends, hshows⟩ := State.sringHalted hs ha hr hst rfl
      refine ⟨t, .success, _, hexec, hst.symm.trans (checkStatus_stateChecks hr s.part .active), rfl, ?_, fun hne => absurd rfl hne,
        fun _ => hshows⟩
      rwa [if_pos rfl]
    · obtain ⟨hends, honly⟩ := State.ended_taken (rec := rec) hs (checkStatus (s.part.stateChecks rec .active))
      refine ⟨_, _, _, State.andThen_refused ha (checks := (Part.stateChecks · rec .active)) rfl hst _,
        checkStatus_stateChecks hr s.part .active, rfl, ?_, fun _ => honly, fun hok => absurd hok hst⟩
      rw [if_neg hst]
      exact hends
  · obtain ⟨t, hexec, hends, honly, hrefused, hport, hfetch, hring⟩ := State.sringResumed hs ha hr rfl
    refine ⟨t, _, hexec, checkStatus_stateChecks hr _ _, hends, honly, hrefused, hport, hfetch, fun i hi => ?_, ?_⟩
    · rw [hring i, if_neg fun h => hi h.1]
    · rw [hring r]
      simp only [true_and]

end Sys2Proof.Machine
end

section
/-! DELETE_SRING and the end of a deletion (R16, R21, R43, R152, R154): O54. -/

-- One declaration at a time: every further thread counts against the memory the check allows.
set_option Elab.async false

namespace Sys2Proof.Machine

variable {p q : Part} {s t : State} {r : Fin 8} {rec : Block}

/-! ### A deletion ends (R21) -/

theorem Part.deletionEnds_iff : p.deletionEnds r = true ↔ (p.ring r).state = .deleting ∧ (p.ring r).heldCount = 0
    ∧ p.awaitsPosting r = false ∧ p.fetching r = false := by
  simp [Part.deletionEnds, and_assoc]

theorem Part.deletionDue_eq (halive : p.engine.state.alive = true) (hends : p.deletionEnds r = true)
    (hfirst : ∀ i, i < r → p.deletionEnds i = false) : p.deletionDue = some r :=
  (if_pos halive).trans (find?_finRange hends hfirst)

theorem Part.deletionDue_none (h : p.engine.state.alive = false ∨ ∀ i, p.deletionEnds i = false) :
    p.deletionDue = none := by
  unfold Part.deletionDue
  split
  · next halive =>
    rcases h with h | h
    · exact Bool.noConfusion (h.symm.trans halive)
    · exact List.find?_eq_none.2 fun i _ => by simp [h i]
  · rfl

theorem Part.endDeletion_of_waiting (h : p.admin.state = .waiting (.deleteRing r)) :
    p.endDeletion r = (p.modRing r fun _ => .absent).endCommand .success p.admin.result := if_pos h

/-- The end of a deletion makes the ring ABSENT, and may end a command. -/
theorem Part.endDeletion_clears (p : Part) (r : Fin 8) :
    (p.modRing r fun _ => .absent).Keeps [.admin, .compl] (p.endDeletion r) := by
  unfold Part.endDeletion
  dsimp only
  split
  · simp
  · exact Part.keeps_self _ _

theorem Part.endDeletion_crings (p : Part) (r : Fin 8) : (p.endDeletion r).compl.rings = p.compl.rings := by
  unfold Part.endDeletion
  dsimp only
  split <;> rfl

/-! ### DELETE_SRING (R16, R21, R154) -/

/-- What DELETE_SRING gives back: F stays where it was (the model's choice, notes/assumptions/33.md). -/
def Part.gaveBack (p : Part) (r : Fin 8) : Part := ((p.returnAll r).discardAdmission r).markFlight r

/-- DELETE_SRING waits for its ring to drain, the number returned as its result. -/
def Part.deletes (p : Part) (r : Fin 8) (n : Nat) : Part :=
  (p.onAdmin fun a => { a with result := BitVec.ofNat 32 n }).waitFor (.deleteRing r)

theorem Part.deletes_keeps (p : Part) (r : Fin 8) (n : Nat) : p.Keeps [.admin] (p.deletes r n) := by
  simp [Part.deletes]

theorem checkStatus_deleteSring (hr : cmdTarget rec = r.val) (p : Part) : checkStatus (p.deleteSringChecks rec) =
    if (p.ring r).state = .absent then .notFound else if (p.ring r).state = .deleting then .wrongState else .success := by
  simp only [Part.deleteSringChecks, checkStatus_cons, checkStatus_nil, cmdRing_eq hr, hr, r.isLt, decide_true,
    Bool.true_eq_false, if_false, bne_eq_false_iff_eq]

/-- The part as DELETE_SRING leaves it before its end is looked for. -/
def Part.deleting (p : Part) (r : Fin 8) : Part :=
  ((p.modRing r fun x => { x with state := .deleting }).gaveBack r).deletes r (p.heldSlots r).length

theorem Part.deleteSring_eq (hr : cmdRing rec = r) (p : Part) : p.deleteSring rec =
    if (p.deleting r).deletionEnds r then ((p.deleting r).modRing r fun _ => .absent).endCommand .success
      (BitVec.ofNat 32 (p.heldSlots r).length) else p.deleting r := by
  subst hr
  unfold Part.deleteSring
  refine (if_congr Iff.rfl (Part.endDeletion_of_waiting rfl) rfl).trans rfl

theorem exec_deleteSring (ha : Arrives s.part) (hr : cmdTarget rec = r.val)
    (hstate : (s.part.ring r).state = .active ∨ (s.part.ring r).state = .halted) : exec (.deleteSring rec) s =
    .next { s with part := (if ((s.part.taken rec).deleting r).deletionEnds r then
      (((s.part.taken rec).deleting r).modRing r fun _ => .absent).endCommand .success
        (BitVec.ofNat 32 (s.part.heldSlots r).length) else (s.part.taken rec).deleting r).react } := by
  have hst : checkStatus ((s.part.taken rec).deleteSringChecks rec) = .success := by
    have hring : (s.part.taken rec).ring r = s.part.ring r := rfl
    rw [checkStatus_deleteSring hr, hring]
    rcases hstate with h | h <;> simp [h]
  refine (State.andThen_accepted ha (checks := (Part.deleteSringChecks · rec)) (by simp [Part.deleteSringChecks]) hst _).trans ?_
  rw [Part.deleteSring_eq (cmdRing_eq hr)]
  rfl

theorem Part.gaveBack_keeps (p : Part) (r : Fin 8) :
    p.Keeps [.admin, .fetch, .sched, .windows, .port, .compl, .stats] (p.gaveBack r) := by
  simp [Part.gaveBack]

theorem Part.gaveBack_sched (p : Part) (r : Fin 8) : (p.gaveBack r).sched = (p.returnAll r).sched :=
  (Part.discardAdmission_keeps (p.returnAll r) r).sched

theorem Part.gaveBack_slot (p : Part) (r k : Fin 8) :
    (p.gaveBack r).slot k = if k ∈ p.heldSlots r then .empty else p.slot k := by
  rw [Part.slot, p.gaveBack_sched r]
  exact p.returned_slot (p.heldSlots r) k

/-- Only HELD slots go, so what awaits posting stays. -/
theorem Part.gaveBack_awaitsPosting (h : ∀ k, Waiter.slot k ∈ p.sched.waiters → (p.slot k).state = .posting) (i : Fin 8) :
    (p.gaveBack r).awaitsPosting i = p.awaitsPosting i := by
  have hfifo : (p.gaveBack r).compl.fifo = p.compl.fifo :=
    (Part.discardAdmission_fifo (p.returnAll r) r).trans (p.returned_fifo _)
  have hwaiters : (p.gaveBack r).sched.waiters = p.sched.waiters := by
    rw [p.gaveBack_sched r]
    exact p.returned_waiters _
  have hstays {k : Fin 8} (hk : Waiter.slot k ∈ p.sched.waiters) : (p.gaveBack r).slot k = p.slot k := by
    rw [p.gaveBack_slot, if_neg]
    intro hheld
    exact SlotState.noConfusion ((h k hk).symm.trans (Part.mem_heldSlots.1 hheld).1)
  unfold Part.awaitsPosting
  rw [hfifo, hwaiters]
  congr 1
  rw [Bool.eq_iff_iff, List.any_eq_true, List.any_eq_true]
  refine exists_congr fun w => and_congr_right fun hw => ?_
  cases w with
  | slot k => simp only [hstays hw]
  | flushed c => exact Iff.rfl

/-- A fetch in flight is marked, and still in flight. -/
theorem Part.gaveBack_fetching (p : Part) (r i : Fin 8) : (p.gaveBack r).fetching i = p.fetching i := by
  have hflight : ((p.returnAll r).discardAdmission r).fetch.flight = p.fetch.flight := by
    rw [Part.discardAdmission_fetch]
    exact p.returned_flight _
  unfold Part.fetching
  rw [Part.gaveBack, Part.markFlight_flight, hflight]
  cases p.fetch.flight <;> rfl

theorem Part.NoFlush.gaveBack_admin (h : p.NoFlush) (r : Fin 8) : (p.gaveBack r).admin = p.admin := by
  have hreturned : (p.returnAll r).admin = p.admin := h.returned_admin (p.heldSlots r)
  have hflush : (p.returnAll r).NoFlush := h.of_admin hreturned
  exact (hflush.discardAdmission_admin r).trans hreturned

theorem Part.gaveBack_ring (p : Part) (r i : Fin 8) : (p.gaveBack r).ring i =
    { (if i = r then p.ringReturned r else p.ring i) with
      evictionBar := (p.ring i).evictionBar && (p.heldSlots r).isEmpty } := by
  rw [Part.gaveBack, Part.markFlight_ring, Part.discardAdmission_ring, Part.returnAll_ring]

theorem State.RingSet.gaveBack_ring_self {x : RingState} {h : Option Nat} (hp : s.RingSet r x h p) :
    ((p.gaveBack r).ring r).state = x ∧ ((p.gaveBack r).ring r).fetchIndex = (s.part.ring r).fetchIndex
      ∧ ((p.gaveBack r).ring r).heldCount = (s.part.ring r).heldCount - (p.heldSlots r).length := by
  have hring : p.ring r = { s.part.ring r with state := x, haltedAt := h } := (hp.rings r).trans (if_pos rfl)
  have htaken : p.ringReturned r = _ := p.takenBack_eq (p.heldSlots r) (p.ring r)
  rw [p.gaveBack_ring, if_pos rfl, htaken, hring]
  exact ⟨rfl, rfl, rfl⟩

/-- The deletion ends at once where the ring held nothing but what it has given back, and nothing else is on its way. -/
theorem State.RingSet.gaveBack_ends {h : Option Nat} (hp : s.RingSet r .deleting h p)
    (hwaiters : ∀ k, Waiter.slot k ∈ s.part.sched.waiters → (s.part.slot k).state = .posting)
    (hfifo : p.compl.fifo = s.part.compl.fifo) : (p.gaveBack r).deletionEnds r = true ↔
      (s.part.ring r).heldCount ≤ (p.heldSlots r).length ∧ s.part.awaitsPosting r = false ∧ s.part.fetching r = false := by
  obtain ⟨hstate, -, hheld⟩ := hp.gaveBack_ring_self
  have hposting : p.awaitsPosting r = s.part.awaitsPosting r := by
    simp only [Part.awaitsPosting, hfifo, hp.keeps.sched, hp.keeps.slot]
  have hfetching : p.fetching r = s.part.fetching r := by rw [Part.fetching, Part.fetching, hp.flight]
  rw [Part.deletionEnds_iff, hstate, hheld, p.gaveBack_fetching, hfetching,
    p.gaveBack_awaitsPosting (by rwa [hp.keeps.sched, funext hp.keeps.slot]), hposting]
  simp only [true_and, Nat.sub_eq_zero_iff_le]

/-- What DELETE_SRING shows whether it waits or ends at once. -/
theorem State.RingSet.gaveBack_shows {x : RingState} {h : Option Nat} (hp : s.RingSet r x h p)
    (ht : (p.gaveBack r).Keeps [.host, .admin, .fetch, .compl, .port] t.part)
    (htrings : ∀ i, i ≠ r → t.part.ring i = (p.gaveBack r).ring i)
    (htfetch : t.part.fetch = { (p.gaveBack r).fetch with rings := t.part.fetch.rings })
    (hcrings : t.part.compl.rings = (p.gaveBack r).compl.rings) (hpending : t.pending = s.pending) :
    ReturnsHeld s t r (p.heldSlots r)
      ∧ OnlyChanges [.host, .admin, .fetch, .sched, .windows, .port, .compl, .stats] s t := by
  refine ⟨hp.returnsHeld (u := p.returnAll r) (Part.keeps_self _ _) (p.returned_admission _) (p.returned_flight _)
    (fun _ _ => rfl) ht htrings (by rw [htfetch]; rfl) (by rw [htfetch]; rfl) fun c => ?_, onlyChanges_iff.2 ⟨hpending, ?_⟩⟩
  · rw [Part.cring, hcrings]
    rfl
  · exact ((hp.keeps.mono (by simp)).trans ((p.gaveBack_keeps r).mono (by simp))).trans (ht.mono (by simp))

/-- DELETE_SRING of an ACTIVE or HALTED ring (R21, R154). -/
theorem State.sringDeleted (hs : Settled s.part) (ha : Arrives s.part) (hr : cmdTarget rec = r.val)
    (hwaiters : ∀ k, Waiter.slot k ∈ s.part.sched.waiters → (s.part.slot k).state = .posting)
    (hstate : (s.part.ring r).state = .active ∨ (s.part.ring r).state = .halted) :
    ∃ t, exec (.deleteSring rec) s = .next t
      ∧ ReturnsHeld s t r (s.part.heldSlots r)
      ∧ OnlyChanges [.host, .admin, .fetch, .sched, .windows, .port, .compl, .stats] s t
      ∧ ((s.part.ring r).heldCount ≤ (s.part.heldSlots r).length → s.part.awaitsPosting r = false →
          s.part.fetching r = false →
          t.part.ring r = .absent ∧ CommandEnds s t rec .success (BitVec.ofNat 32 (s.part.heldSlots r).length))
      ∧ ((s.part.heldSlots r).length < (s.part.ring r).heldCount ∨ s.part.awaitsPosting r = true
          ∨ s.part.fetching r = true →
          (t.part.ring r).state = .deleting
          ∧ (t.part.ring r).fetchIndex = (s.part.ring r).fetchIndex
          ∧ PositionsReturned s t r (s.part.heldSlots r)
          ∧ t.part.admin.state = .waiting (.deleteRing r)
          ∧ t.part.admin.result = BitVec.ofNat 32 (s.part.heldSlots r).length
          ∧ t.part.admin.consumer = s.part.admin.consumer) := by
  have hset := State.ringSet (r := r) (f := fun x => { x with state := .deleting }) ha rec
    (x := .deleting) (h := (s.part.ring r).haltedAt) rfl
  have hexec := exec_deleteSring (rec := rec) ha hr hstate
  have hdeleting : (s.part.taken rec).deleting r =
    (((s.part.taken rec).modRing r fun x => { x with state := .deleting }).gaveBack r).deletes r
      (s.part.heldSlots r).length := rfl
  rw [hdeleting] at hexec
  have hfacts : ((s.part.taken rec).modRing r fun x => { x with state := .deleting }).admin = (s.part.taken rec).admin
    ∧ ((s.part.taken rec).modRing r fun x => { x with state := .deleting }).host.outstanding = none
    ∧ ((s.part.taken rec).modRing r fun x => { x with state := .deleting }).compl.fifo = s.part.compl.fifo := ⟨rfl, rfl, rfl⟩
  generalize ((s.part.taken rec).modRing r fun x => { x with state := .deleting }) = p at *
  obtain ⟨hadmin, hfree, hfifo⟩ := hfacts
  have hheld : p.heldSlots r = s.part.heldSlots r := hset.heldSlots
  have hkeeps := p.gaveBack_keeps r
  have hends := hset.gaveBack_ends hwaiters hfifo
  rw [hheld] at hends
  have hgave : (p.gaveBack r).admin = (s.part.taken rec).admin := (hset.flush.gaveBack_admin r).trans hadmin
  have hengine : (p.gaveBack r).engine = s.part.engine := hkeeps.engine.trans hset.keeps.engine
  have hnotices : (p.gaveBack r).notices = s.part.notices := hkeeps.notices.trans hset.keeps.notices
  have hhost : (p.gaveBack r).host.outstanding = none := by rw [hkeeps.host, hfree]
  have hshows (t : State) := hset.gaveBack_shows (t := t)
  have hpositions (t : State) (ht : t.part.ring r = (p.gaveBack r).ring r) : PositionsReturned s t r (p.heldSlots r) := by
    refine hset.positionsReturned ⟨(p.ringReturned r).fetchIndex, (p.ring r).evictionBar && (p.heldSlots r).isEmpty, ?_⟩
    rw [ht, p.gaveBack_ring, if_pos rfl]
  obtain ⟨hstate', hfetch', -⟩ := hset.gaveBack_ring_self
  rw [hheld] at hpositions
  simp only [hheld] at hshows
  generalize p.gaveBack r = d at *
  generalize s.part.heldSlots r = l at *
  have hsame : (d.deletes r l.length).deletionEnds r = d.deletionEnds r := rfl
  by_cases hdone : d.deletionEnds r = true
  · rw [hsame, if_pos hdone] at hexec
    obtain ⟨hcount, hposting, hfetching⟩ := hends.1 hdone
    set q := (d.deletes r l.length).modRing r fun _ => .absent with hq
    have hframe := hs.react_quiet (q := q.endCommand .success (BitVec.ofNat 32 l.length)) hengine hnotices
    set t := (q.endCommand .success (BitVec.ofNat 32 l.length)).react with ht
    have hring (i : Fin 8) : t.ring i = if i = r then .absent else d.ring i :=
      (hframe.ring i).trans (Part.modRing_ring (d.deletes r l.length) r i _)
    have hafter : d.Keeps [.host, .admin, .fetch, .compl, .port] t := by
      have hq' : d.Keeps [.host, .admin, .fetch, .compl, .port] (q.endCommand .success (BitVec.ofNat 32 l.length)) := by
        simp [hq, Part.deletes]
      exact hq'.trans (hframe.mono (by simp))
    have htfetch : t.fetch = q.fetch := hframe.fetch
    obtain ⟨hreturns, honly⟩ := hshows { s with part := t } hafter (fun i hi => (hring i).trans (if_neg hi))
      (by rw [htfetch]; rfl) (congrArg CompletionUnit.rings hframe.compl :) rfl
    refine ⟨_, hexec, hreturns, honly, fun _ _ _ => ⟨(hring r).trans (if_pos rfl), .of_end (i := s.part.admin.consumer) ?_ ?_ hengine hhost⟩,
      fun hbusy => ?_⟩
    · exact (congrArg AdminUnit.consumer hgave :)
    · exact (congrArg AdminUnit.command hgave :)
    · rcases hbusy with h | h | h
      · omega
      · exact absurd (hposting.symm.trans h) (by simp)
      · exact absurd (hfetching.symm.trans h) (by simp)
  · rw [hsame, if_neg hdone] at hexec
    set q := d.deletes r l.length with hq
    have hframe := hs.react_quiet (q := q) hengine hnotices
    have hwaits : q.react.admin = q.admin := Part.react_admin_of_no_flush nofun nofun
    have hafter : d.Keeps [.host, .admin, .fetch, .compl, .port] q.react := by
      have hq' : d.Keeps [.host, .admin, .fetch, .compl, .port] q := by simp [hq, Part.deletes]
      exact hq'.trans (hframe.mono (by simp))
    have hring (i : Fin 8) : q.react.ring i = d.ring i := hframe.ring i
    have htfetch : q.react.fetch = d.fetch := hframe.fetch
    obtain ⟨hreturns, honly⟩ := hshows { s with part := q.react } hafter (fun i _ => hring i) (by rw [htfetch])
      (congrArg CompletionUnit.rings hframe.compl) rfl
    refine ⟨_, hexec, hreturns, honly, fun hcount hposting hfetching => absurd (hends.2 ⟨hcount, hposting, hfetching⟩) hdone,
      fun _ => ⟨?_, ?_, hpositions _ (hring r), ?_, ?_, ?_⟩⟩
    · rw [hring, hstate']
    · rw [hring, hfetch']
    · rw [hwaits]
      rfl
    · rw [hwaits]
      rfl
    · rw [hwaits]
      exact (congrArg AdminUnit.consumer hgave :)

/-- Settles O54: the command gives the slots back and waits or ends, and the lowest ring due ends its deletion. -/
theorem deletionWaitsForTheRingToDrain : Obligations.DeletionWaitsForTheRingToDrain := by
  refine ⟨fun s rec r l n hs ha hr hwaiters hl hn => ⟨fun hstate => ?_, fun hstate => ?_⟩,
    fun s r halive hdeleting hheld hposting hfetching hfirst => ?_, fun s hno => ?_⟩
  · obtain ⟨hends, honly⟩ := State.ended_taken (rec := rec) hs
      (if (s.part.ring r).state = .absent then .notFound else .wrongState)
    refine ⟨_, State.andThen_refused ha (checks := (Part.deleteSringChecks · rec)) ?_ (by split <;> simp) _, hends, honly⟩
    have hring : (s.part.taken rec).ring r = s.part.ring r := rfl
    rw [checkStatus_deleteSring hr, hring]
    rcases hstate with h | h <;> simp [h]
  · obtain rfl : l = s.part.heldSlots r := hl
    subst hn
    exact State.sringDeleted hs ha hr hwaiters hstate
  · have hends : s.part.deletionEnds r = true := Part.deletionEnds_iff.2 ⟨hdeleting, hheld, hposting, hfetching⟩
    have heffect : effect .sringDeletionEnd s.part = (s.part.endDeletion r).react := by
      simp only [effect, Part.finishDeletion, Part.deletionDue_eq halive hends hfirst]
    have hkeeps := s.part.endDeletion_clears r
    have hring (i : Fin 8) : (s.part.endDeletion r).react.ring i = if i = r then .absent else s.part.ring i :=
      ((Part.react_ring _ i).trans (hkeeps.ring i)).trans (Part.modRing_ring s.part r i _)
    refine ⟨_, exec_of_effect heffect, (hring r).trans (if_pos rfl), fun i hi => (hring i).trans (if_neg hi),
      fun hwaiting => ?_, (Part.react_sched _).trans hkeeps.sched, ?_⟩
    · simp only [Part.endDeletion_of_waiting hwaiting, Part.react_endCommand_admin, Part.react_compl]
      exact ⟨rfl, rfl, rfl⟩
    · rw [Part.react_compl, Part.endDeletion_crings]
  · refine exec_of_effect ?_
    simp only [effect, Part.finishDeletion, Part.deletionDue_none hno]

end Sys2Proof.Machine
end

section
/-! FLUSH_SRING, its walk and its end (R4, R20, R25, R115, R118, R155): O55. -/

-- One declaration at a time: every further thread counts against the memory the check allows.
set_option Elab.async false

namespace Sys2Proof.Machine

variable {p q : Part} {s t : State} {r : Fin 8} {rec : Block} {f : Flush} {stop : Nat} {x : SubmissionRing}

/-! ### What F and C pass (R4, R20) -/

theorem SubmissionRing.passBoth_eq (x : SubmissionRing) (n : Nat) : (x.passBoth n).consumer = (x.consumer + n) % x.size
    ∧ (x.passBoth n).fetchIndex = (x.passBoth n).consumer ∧ (x.passBoth n).state = x.state
    ∧ (x.passBoth n).haltedAt = x.haltedAt ∧ (x.passBoth n).size = x.size := ⟨rfl, rfl, rfl, rfl, rfl⟩

/-- Behind a position that is passed come the DONE ones after it, and none beyond the span. -/
theorem SubmissionRing.passFlushed_doneRun (x : SubmissionRing) : x.passFlushed.doneRun =
    ((x.span.drop 1).takeWhile fun m => m == .done).length := by
  have hspan : x.passFlushed.span = x.span.drop 1 ++ [.notAdmitted] := rfl
  rw [SubmissionRing.doneRun, hspan, List.takeWhile_append]
  split
  · next hall =>
    rw [hall]
    simp
  · rfl

/-- The ring has passed what it could, F and C together. -/
structure SubmissionRing.Passes (x y : SubmissionRing) (c : Nat) : Prop where
  consumer : y.consumer = c
  fetchIndex : y.fetchIndex = c
  state : y.state = x.state
  haltedAt : y.haltedAt = x.haltedAt

theorem SubmissionRing.passDone_passes (x : SubmissionRing) (stop : Nat) : x.Passes (x.passDone stop)
    ((x.consumer + min x.doneRun (distance x.size x.consumer stop)) % x.size) := ⟨rfl, rfl, rfl, rfl⟩

theorem SubmissionRing.passFlushed_passes (x : SubmissionRing) (stop : Nat) : x.Passes (x.passFlushed.passDone stop)
    ((succIndex x.size x.consumer + min ((x.span.drop 1).takeWhile fun m => m == .done).length
      (distance x.size (succIndex x.size x.consumer) stop)) % x.size) := by
  have hpasses := x.passFlushed.passDone_passes stop
  have hconsumer : x.passFlushed.consumer = succIndex x.size x.consumer := rfl
  have hsize : x.passFlushed.size = x.size := rfl
  have hstate : x.passFlushed.state = x.state := rfl
  have hhalted : x.passFlushed.haltedAt = x.haltedAt := rfl
  rw [x.passFlushed_doneRun, hconsumer, hsize] at hpasses
  exact ⟨hpasses.consumer, hpasses.fetchIndex, hpasses.state.trans hstate, hpasses.haltedAt.trans hhalted⟩

/-- A link before the span is left only by a DONE position that is passed after the flushed one. -/
theorem SubmissionRing.passFlushed_linkBefore (h : (x.span.drop 1).head? ≠ some .done) (stop : Nat) :
    (x.passFlushed.passDone stop).linkBefore = .none := by
  have hrun : x.passFlushed.doneRun = 0 := by
    rw [x.passFlushed_doneRun]
    cases hspan : x.span.drop 1 with
    | nil => rfl
    | cons m l =>
      rw [hspan] at h
      have hm : (m == SpanMark.done) = false := by simpa using h
      simp [hm]
  rw [SubmissionRing.passDone, hrun, Nat.zero_min]
  rfl

/-! ### Where the walk stands -/

/-- The completion with which the command in progress ends (R151). -/
def endedWith (st : Status) (n : BitVec 32) (a : AdminUnit) : Option AdminCompletion :=
  some { tag := a.tag, index := a.consumer, status := st, result := n }

theorem Part.react_waitFor_flush (h : f.stop = some stop) :
    (p.waitFor (.flushRing f)).react.admin = (p.waitFor (.flushRing f)).admin := by
  refine Part.react_admin_of_not_due ?_ ?_
  · rintro ⟨g, hg, hnone, -⟩
    obtain rfl : f = g := by
      have hstate : Waiting.flushRing f = .flushRing g := AdminState.waiting.inj hg
      exact Waiting.flushRing.inj hstate
    rw [h] at hnone
    simp at hnone
  · rintro ⟨-, hidle, -⟩
    exact AdminState.noConfusion hidle

theorem Part.walked_of_end (h : (p.ring f.ring).fetchIndex = stop) : p.walked f stop = p.finishWalk f := if_pos h

theorem Part.walked_of_on (h : (p.ring f.ring).fetchIndex ≠ stop) : p.walked f stop = p.waitFor (.flushRing f) := if_neg h

theorem Part.finishWalk_of_written (h : f.unwritten = 0) : p.finishWalk f =
    (p.modRing f.ring SubmissionRing.flushed).endCommand .success (BitVec.ofNat 32 f.made) := if_pos h

theorem Part.finishWalk_of_unwritten (h : f.unwritten ≠ 0) : p.finishWalk f =
    (p.modRing f.ring SubmissionRing.flushed).waitFor (.flushRing { f with walked := true }) := if_neg h

theorem Part.finishWalk_ring (p : Part) (f : Flush) : (p.finishWalk f).ring f.ring = (p.ring f.ring).flushed := by
  unfold Part.finishWalk
  dsimp only
  split <;> exact (Part.modRing_ring p f.ring f.ring _).trans (if_pos rfl)

theorem Part.walked_linkBefore (p : Part) (f : Flush) (stop : Nat) :
    ((p.walked f stop).ring f.ring).linkBefore = (p.ring f.ring).linkBefore := by
  by_cases h : (p.ring f.ring).fetchIndex = stop
  · rw [Part.walked_of_end h, p.finishWalk_ring f]
    rfl
  · rw [Part.walked_of_on h]
    rfl

theorem Part.walked_crings (p : Part) (f : Flush) (stop : Nat) :
    (p.walked f stop).compl.fifo = p.compl.fifo ∧ ∀ c, (p.walked f stop).cring c = p.cring c := by
  unfold Part.walked Part.finishWalk
  dsimp only
  (repeat' split) <;> exact ⟨rfl, fun _ => rfl⟩

/-- A step of the walk from a part in which the ring stands where it has come to. -/
theorem WalkGoesOn.of_walked {c : Nat} (hstop : f.stop = some stop) (hadmin : p.admin = s.part.admin)
    (hengine : p.engine = s.part.engine) (hpasses : x.Passes (p.ring f.ring) c) (ht : t.part = (p.walked f stop).react) :
    WalkGoesOn s t f x stop ∧ (t.part.ring f.ring).consumer = c := by
  obtain ⟨hconsumer, hfetch, hstate, hhalted⟩ := hpasses
  by_cases hend : c = stop
  · rw [Part.walked_of_end (hfetch.trans hend)] at ht
    have hring : t.part.ring f.ring = (p.ring f.ring).flushed := by
      rw [ht, Part.react_ring, Part.finishWalk_ring]
    refine ⟨⟨?_, fun _ => ?_, fun _ hdone => ?_, fun _ hmore => ?_, fun hon => ?_⟩, ?_⟩
    · rw [hring]
      exact hfetch.trans hconsumer.symm
    · rw [hring]
      exact ⟨rfl, rfl, rfl, rfl⟩
    · rw [Part.finishWalk_of_written hdone] at ht
      rw [ht, Part.react_endCommand_admin, Part.react_compl]
      refine ⟨rfl, rfl, ?_, ?_⟩
      · exact (congrArg₂ succIndex (congrArg Engine.areaSize hengine) (congrArg AdminUnit.consumer hadmin) :)
      · exact (congrArg (endedWith .success (BitVec.ofNat 32 f.made)) hadmin :)
    · rw [Part.finishWalk_of_unwritten hmore] at ht
      rw [ht, Part.react_waitFor_flush (f := { f with walked := true }) hstop]
      exact (congrArg (fun a : AdminUnit => { a with state := .waiting (.flushRing { f with walked := true }) }) hadmin :)
    · rw [hring] at hon
      exact absurd (hconsumer.trans hend) hon
    · rw [hring]
      exact hconsumer
  · rw [Part.walked_of_on (fun h => hend (hfetch.symm.trans h))] at ht
    have hring : t.part.ring f.ring = p.ring f.ring := by
      rw [ht, Part.react_ring]
      rfl
    have hnot : (t.part.ring f.ring).consumer ≠ stop := by rwa [hring, hconsumer]
    refine ⟨⟨?_, fun h => absurd h hnot, fun h => absurd h hnot, fun h => absurd h hnot, fun _ => ⟨?_, ?_, ?_⟩⟩, ?_⟩
    · rw [hring, hfetch, hconsumer]
    · rw [ht, Part.react_waitFor_flush hstop]
      exact (congrArg (fun a : AdminUnit => { a with state := .waiting (.flushRing f) }) hadmin :)
    · rw [hring, hstate]
    · rw [hring, hhalted]
    · rw [hring, hconsumer]

/-! ### The steps of the walk (R20) -/

theorem effect_flushWalk (halive : p.engine.state.alive = true) (hwaits : p.admin.state = .waiting (.flushRing f))
    (hstop : f.stop = some stop) (hwalked : f.walked = false) : effect .flushWalk p = p.walkStep f stop := by
  simp only [effect, Part.flushWalk, hwaits, hstop]
  exact if_pos ⟨halive, hwalked⟩

theorem Part.walkStep_of_end (h : (p.ring f.ring).fetchIndex = stop) : p.walkStep f stop = (p.walked f stop).react := by
  rw [Part.walked_of_end h]
  exact if_pos h

theorem Part.walkStep_of_done (h : (p.ring f.ring).fetchIndex ≠ stop)
    (hdone : (p.ring f.ring).spanMark (p.ring f.ring).fetchIndex = .done) : p.walkStep f stop =
      ((p.modRing f.ring fun y => y.passDone stop).walked f stop).react := (if_neg h).trans (if_pos hdone)

/-- The part with a FLUSHED completion handed over, on its reservation, and passed. -/
def Part.flushesOne (p : Part) (f : Flush) (stop : Nat) : Part :=
  ((p.reserveFlushed f (p.ring f.ring).bound).handOverFlushed ((p.ring f.ring).flushedCompletion f.ring)).modRing f.ring
    fun y => y.passFlushed.passDone stop

theorem Part.walkStep_of_flushed (h : (p.ring f.ring).fetchIndex ≠ stop)
    (hdone : (p.ring f.ring).spanMark (p.ring f.ring).fetchIndex ≠ .done)
    (hentry : (f.granted = true ∨ 1 ≤ (p.cring (p.ring f.ring).bound).freeEntries) ∧ p.flushedWaits = false) :
    p.walkStep f stop = ((p.flushesOne f stop).walked
      { f with made := f.made + 1, unwritten := f.unwritten + 1, granted := false } stop).react :=
  (if_neg h).trans ((if_neg hdone).trans (if_pos hentry))

theorem Part.walkStep_of_waiting (h : (p.ring f.ring).fetchIndex ≠ stop)
    (hdone : (p.ring f.ring).spanMark (p.ring f.ring).fetchIndex ≠ .done)
    (hentry : ¬((f.granted = true ∨ 1 ≤ (p.cring (p.ring f.ring).bound).freeEntries) ∧ p.flushedWaits = false)) :
    p.walkStep f stop = p := (if_neg h).trans ((if_neg hdone).trans (if_neg hentry))

theorem Part.flushesOne_ring (p : Part) (f : Flush) (stop : Nat) :
    (p.flushesOne f stop).ring f.ring = (p.ring f.ring).passFlushed.passDone stop := by
  refine (Part.modRing_ring _ _ _ _).trans ((if_pos rfl).trans ?_)
  have hkeeps : p.Keeps [.sched, .compl] ((p.reserveFlushed f (p.ring f.ring).bound).handOverFlushed
    ((p.ring f.ring).flushedCompletion f.ring)) := by simp
  rw [hkeeps.ring]

theorem Part.flushesOne_keeps (p : Part) (f : Flush) (stop : Nat) : p.Keeps [.fetch, .sched, .compl] (p.flushesOne f stop) := by
  simp [Part.flushesOne]

theorem Part.reserveFlushed_cring (p : Part) (f : Flush) (c d : Fin 8) : (p.reserveFlushed f c).cring d =
    { p.cring d with reserved := (p.cring d).reserved + (if d = c ∧ f.granted = false then 1 else 0) } := by
  unfold Part.reserveFlushed
  split
  · next h => simp [h]
  · next h =>
    refine (Part.modCring_cring p c d _).trans ?_
    by_cases hd : d = c
    · rw [if_pos hd, if_pos ⟨hd, by simpa using h⟩]
    · rw [if_neg hd, if_neg fun hh => hd hh.1]
      rfl

theorem Part.reserveFlushed_fifo (p : Part) (f : Flush) (c : Fin 8) : (p.reserveFlushed f c).compl.fifo = p.compl.fifo
    ∧ (p.reserveFlushed f c).sched = p.sched := by
  unfold Part.reserveFlushed
  split <;> exact ⟨rfl, rfl⟩

/-- Its completion goes into the FIFO, or waits for room (R118), and it takes a reservation but on one granted (R115). -/
theorem Part.flushesOne_hands (p : Part) (f : Flush) (stop : Nat) :
    (p.fifoOpen = true → (p.flushesOne f stop).compl.fifo = p.compl.fifo ++ [(p.ring f.ring).flushedCompletion f.ring]
      ∧ (p.flushesOne f stop).sched = p.sched)
    ∧ (p.fifoOpen = false → (p.flushesOne f stop).compl.fifo = p.compl.fifo ∧ (p.flushesOne f stop).sched =
      { p.sched with waiters := p.sched.waiters ++ [.flushed ((p.ring f.ring).flushedCompletion f.ring)] })
    ∧ ∀ d, (p.flushesOne f stop).cring d = { p.cring d with reserved := (p.cring d).reserved
      + (if d = (p.ring f.ring).bound ∧ f.granted = false then 1 else 0) } := by
  have hcring (d : Fin 8) := p.reserveFlushed_cring f (p.ring f.ring).bound d
  obtain ⟨hfifo, hsched⟩ := p.reserveFlushed_fifo f (p.ring f.ring).bound
  have hopen : (p.reserveFlushed f (p.ring f.ring).bound).fifoOpen = p.fifoOpen := by
    rw [Part.fifoOpen, Part.fifoOpen, hfifo, hsched]
  unfold Part.flushesOne
  generalize p.reserveFlushed f (p.ring f.ring).bound = q at *
  generalize (p.ring f.ring).flushedCompletion f.ring = c
  refine ⟨fun h => ?_, fun h => ?_, fun d => ?_⟩
  · have hhands : q.handOverFlushed c = q.enterFifo c := if_pos (hopen.trans h)
    rw [hhands, ← hfifo, ← hsched]
    exact ⟨rfl, rfl⟩
  · have hhands : q.handOverFlushed c = q.onSched fun u => { u with waiters := u.waiters ++ [.flushed c] } :=
      if_neg (by rw [hopen, h]; exact Bool.false_ne_true)
    rw [hhands, ← hfifo, ← hsched]
    exact ⟨rfl, rfl⟩
  · refine Eq.trans ?_ (hcring d)
    unfold Part.handOverFlushed
    split <;> rfl

/-! ### FLUSH_SRING (R20, R155) -/

/-- The flush as its command begins it, P taken as its end where nothing is held. -/
def SubmissionRing.newFlush (x : SubmissionRing) (r : Fin 8) : Flush :=
  { ring := r, stop := if x.heldCount = 0 then some x.producer else none, made := 0, unwritten := 0, walked := false,
    granted := false }

theorem Part.flushSring_eq (hr : cmdRing rec = r) (p : Part) : p.flushSring rec =
    if (p.ring r).heldCount = 0 ∧ (p.ring r).producer = (p.ring r).fetchIndex then
      (p.modRing r SubmissionRing.flushed).endCommand .success 0#32
    else p.waitFor (.flushRing ((p.ring r).newFlush r)) := by
  subst hr
  rfl

theorem exec_flushSring (ha : Arrives s.part) (hr : cmdTarget rec = r.val) (hhalted : (s.part.ring r).state = .halted) :
    exec (.flushSring rec) s = .next { s with part :=
      (if (s.part.ring r).heldCount = 0 ∧ (s.part.ring r).producer = (s.part.ring r).fetchIndex then
        ((s.part.taken rec).modRing r SubmissionRing.flushed).endCommand .success 0#32
      else (s.part.taken rec).waitFor (.flushRing ((s.part.ring r).newFlush r))).react } := by
  have hst : checkStatus ((s.part.taken rec).stateChecks rec .halted) = .success := by
    have hring : (s.part.taken rec).ring r = s.part.ring r := rfl
    rw [checkStatus_stateChecks hr, hring, hhalted]
    rfl
  refine (State.andThen_accepted ha (checks := (Part.stateChecks · rec .halted)) (by simp [Part.stateChecks]) hst _).trans ?_
  rw [Part.flushSring_eq (cmdRing_eq hr)]
  rfl

/-- With nothing to walk the command ends at once. -/
theorem State.flushedAtOnce (hs : Settled s.part) (ha : Arrives s.part) (hr : cmdTarget rec = r.val)
    (hhalted : (s.part.ring r).state = .halted) (hheld : (s.part.ring r).heldCount = 0)
    (hproducer : (s.part.ring r).producer = (s.part.ring r).fetchIndex) :
    ∃ t, exec (.flushSring rec) s = .next t ∧ CommandEnds s t rec .success 0#32
      ∧ t.part.ring r = (s.part.ring r).flushed ∧ (∀ q, q ≠ r → t.part.ring q = s.part.ring q)
      ∧ (s.part.settleNext = none ∨ s.part.reportedSet ≠ [] → t.part.port = s.part.port)
      ∧ OnlyChanges [.host, .admin, .fetch, .port, .compl] s t := by
  have hexec := exec_flushSring ha hr hhalted
  rw [if_pos ⟨hheld, hproducer⟩] at hexec
  set q := (s.part.taken rec).modRing r SubmissionRing.flushed with hq
  have hqring (i : Fin 8) : q.ring i = if i = r then (s.part.ring r).flushed else s.part.ring i := by
    refine (Part.modRing_ring (s.part.taken rec) r i _).trans ?_
    by_cases hi : i = r
    · subst hi
      rfl
    · rw [if_neg hi, if_neg hi]
      rfl
  have hall : s.part.Keeps [.host, .admin, .fetch, .compl] (q.endCommand .success 0#32) := by
    simp [hq, Part.taken]
  have hframe := hs.react_quiet (q := q.endCommand .success 0#32) rfl rfl
  have hring (i : Fin 8) : (q.endCommand .success 0#32).react.ring i = _ := (hframe.ring i).trans (hqring i)
  refine ⟨_, hexec, .of_end rfl rfl rfl rfl, (hring r).trans (if_pos rfl), fun i hi => (hring i).trans (if_neg hi),
    fun hlast => ?_, onlyChanges_iff.2 ⟨rfl, (hall.mono (by simp)).trans (hframe.mono (by simp))⟩⟩
  refine hs.react_port_of_seen ⟨hall.engine, hall.sched, fun w => by rw [hall.window w], fun k => .inr ?_⟩ hall.port
    hall.master hlast
  have hsame : (q.endCommand .success 0#32).ring (s.part.slot k).ring = _ := hqring (s.part.slot k).ring
  rw [hsame]
  split
  · next hk =>
    rw [hk]
    exact ⟨rfl, rfl⟩
  · exact ⟨rfl, rfl⟩

/-- Otherwise it waits for its walk. -/
theorem State.flushWaits (hs : Settled s.part) (ha : Arrives s.part) (hr : cmdTarget rec = r.val)
    (hhalted : (s.part.ring r).state = .halted)
    (hmore : (s.part.ring r).heldCount ≠ 0 ∨ (s.part.ring r).producer ≠ (s.part.ring r).fetchIndex) :
    ∃ t, exec (.flushSring rec) s = .next t ∧ t.part.admin.state = .waiting (.flushRing ((s.part.ring r).newFlush r))
      ∧ t.part.admin.command = some (rec, s.part.admin.consumer) ∧ OnlyChanges [.host, .admin] s t := by
  have hexec := exec_flushSring ha hr hhalted
  rw [if_neg (by tauto)] at hexec
  set q := (s.part.taken rec).waitFor (.flushRing ((s.part.ring r).newFlush r)) with hq
  have hall : s.part.Keeps [.host, .admin] q := by simp [hq, Part.taken]
  have hframe := hs.react_still (q := q) (hall.mono (by simp)).sameBus rfl rfl
  have hadmin : q.react.admin = q.admin := by
    refine Part.react_admin_of_not_due ?_ ?_
    · rintro ⟨g, hg, hnone, hheld, -⟩
      obtain rfl : (s.part.ring r).newFlush r = g := Waiting.flushRing.inj (AdminState.waiting.inj hg)
      have hheld' : (s.part.ring r).heldCount = 0 := hheld
      simp [SubmissionRing.newFlush, hheld'] at hnone
    · rintro ⟨-, hidle, -⟩
      exact AdminState.noConfusion hidle
  refine ⟨_, hexec, ?_, ?_, onlyChanges_iff.2 ⟨rfl, hall.trans hframe⟩⟩
  · rw [hadmin]
    rfl
  · rw [hadmin]
    rfl

/-! ### An entry of the flush is written (R20) -/

theorem Part.flushedWritten_of_last {c : Completion} (hwaits : p.admin.state = .waiting (.flushRing f))
    (hc : c.status = .flushed ∧ c.ring = f.ring) (hwalked : f.walked = true) (hlast : f.unwritten ≤ 1) :
    p.flushedWritten c = p.endCommand .success (BitVec.ofNat 32 f.made) := by
  simp only [Part.flushedWritten, hwaits, if_pos hc]
  exact if_pos ⟨hwalked, by omega⟩

theorem Part.flushedWritten_of_more {c : Completion} (hwaits : p.admin.state = .waiting (.flushRing f))
    (hc : c.status = .flushed ∧ c.ring = f.ring) (hmore : f.walked = false ∨ 2 ≤ f.unwritten) :
    p.flushedWritten c = p.waitFor (.flushRing { f with unwritten := f.unwritten - 1 }) := by
  simp only [Part.flushedWritten, hwaits, if_pos hc]
  refine if_neg ?_
  rintro ⟨hwalked, hlast⟩
  rcases hmore with h | h
  · exact Bool.noConfusion (h.symm.trans hwalked)
  · omega

/-- Settles O55: the command ends or waits, each step of its walk passes what it can, and its last entry ends it. -/
theorem flushWalksToItsEnd : Obligations.FlushWalksToItsEnd := by
  refine ⟨fun s rec r hs ha hr => ⟨fun hnot => ?_, State.flushedAtOnce hs ha hr, State.flushWaits hs ha hr⟩,
    fun s f stop x halive hwaits hstop hwalked hx htogether => ⟨fun hend => ?_, fun hon hdone => ?_,
      fun hon hdone hentry hflushed c hc => ?_, fun hon hdone hno => ?_⟩, fun s hno => exec_of_effect ?_,
    fun s f c rest hworks hwrite hfifo hwaits hstop hstatus hring => ?_⟩
  · obtain ⟨hends, honly⟩ := State.ended_taken (rec := rec) hs
      (if (s.part.ring r).state = .absent then .notFound else .wrongState)
    refine ⟨_, State.andThen_refused ha (checks := (Part.stateChecks · rec .halted)) ?_ (by split <;> simp) _, hends, honly⟩
    have hring : (s.part.taken rec).ring r = s.part.ring r := rfl
    rw [checkStatus_stateChecks hr, hring, if_pos hnot]
  · subst hx
    have heffect := (effect_flushWalk halive hwaits hstop hwalked).trans (Part.walkStep_of_end hend)
    obtain ⟨hfifo, hcrings⟩ := s.part.walked_crings f stop
    obtain ⟨hgoes, hconsumer⟩ := WalkGoesOn.of_walked (t := { s with part := (s.part.walked f stop).react })
      (p := s.part) hstop rfl rfl ⟨rfl, htogether, rfl, rfl⟩ rfl
    refine ⟨_, exec_of_effect heffect, hgoes, hconsumer, ?_, ?_, fun d => ?_⟩
    · rw [Part.react_compl, hfifo]
    · rw [Part.react_sched, (s.part.walked_keeps f stop).sched]
    · rw [Part.react_cring, hcrings]
  · subst hx
    have heffect := (effect_flushWalk halive hwaits hstop hwalked).trans (Part.walkStep_of_done hon hdone)
    set q := s.part.modRing f.ring fun y => y.passDone stop
    have hqring : q.ring f.ring = (s.part.ring f.ring).passDone stop := (Part.modRing_ring _ _ _ _).trans (if_pos rfl)
    obtain ⟨hfifo, hcrings⟩ := q.walked_crings f stop
    obtain ⟨hgoes, hconsumer⟩ := WalkGoesOn.of_walked (s := s) (t := { s with part := (q.walked f stop).react })
      (x := s.part.ring f.ring) (p := q) hstop rfl rfl (by rw [hqring]; exact SubmissionRing.passDone_passes _ stop) rfl
    refine ⟨_, exec_of_effect heffect, hgoes, hconsumer, ?_, ?_, fun d => ?_⟩
    · rw [Part.react_compl, hfifo]
      rfl
    · rw [Part.react_sched, (q.walked_keeps f stop).sched]
      rfl
    · rw [Part.react_cring, hcrings]
      rfl
  · subst hx
    have hentry' : (f.granted = true ∨ 1 ≤ (s.part.cring (s.part.ring f.ring).bound).freeEntries)
      ∧ s.part.flushedWaits = false := ⟨hentry, hflushed⟩
    have heffect := (effect_flushWalk halive hwaits hstop hwalked).trans (Part.walkStep_of_flushed hon hdone hentry')
    obtain ⟨hopen, hfull, hreserved⟩ := s.part.flushesOne_hands f stop
    have hqring := s.part.flushesOne_ring f stop
    have hqkeeps := s.part.flushesOne_keeps f stop
    obtain rfl : c = (s.part.ring f.ring).flushedCompletion f.ring := hc
    set g : Flush := { f with made := f.made + 1, unwritten := f.unwritten + 1, granted := false }
    generalize s.part.flushesOne f stop = q at *
    obtain ⟨hfifo, hcrings⟩ := q.walked_crings g stop
    obtain ⟨hgoes, hconsumer⟩ := WalkGoesOn.of_walked (f := g) (s := s) (t := { s with part := (q.walked g stop).react })
      (x := s.part.ring f.ring) hstop hqkeeps.admin hqkeeps.engine
      (by rw [hqring]; exact SubmissionRing.passFlushed_passes _ stop) rfl
    have hsched : (q.walked g stop).react.sched = q.sched := (Part.react_sched _).trans (q.walked_keeps g stop).sched
    refine ⟨_, exec_of_effect heffect, hgoes, hconsumer, fun hlink => ?_, fun h => ?_, fun h => ?_, fun d => ?_⟩
    · have hlast := q.walked_linkBefore g stop
      rw [Part.react_ring]
      refine hlast.trans ?_
      rw [hqring]
      exact SubmissionRing.passFlushed_linkBefore hlink stop
    · rw [Part.react_compl, hfifo, hsched]
      exact hopen h
    · rw [Part.react_compl, hfifo, hsched]
      exact hfull h
    · rw [Part.react_cring, hcrings, hreserved]
  · subst hx
    refine exec_of_effect ((effect_flushWalk halive hwaits hstop hwalked).trans (Part.walkStep_of_waiting hon hdone ?_))
    rintro ⟨hentry, hflushed⟩
    rcases hno with ⟨hgranted, hfree⟩ | hno
    · rcases hentry with h | h
      · exact Bool.noConfusion (hgranted.symm.trans h)
      · omega
    · exact Bool.noConfusion (hflushed.symm.trans hno)
  · simp only [effect, Part.flushWalk]
    split
    · next f hf =>
      split
      · next stop hstop =>
        refine if_neg ?_
        rintro ⟨halive, hwalked⟩
        rcases hno with h | h
        · exact Bool.noConfusion (h.symm.trans halive)
        · rcases h f hf with h | h
          · exact absurd (hstop.symm.trans h) (Option.some_ne_none stop)
          · exact Bool.noConfusion (hwalked.symm.trans h)
      · rfl
    · rfl
  · have heffect := effect_completionWritten hwrite hfifo
    obtain ⟨hkeeps, hrest, -⟩ := s.part.closeAccess.entryWritten_spec c rest
    have hclosed : s.part.Keeps [.host] s.part.closeAccess := by simp
    set q := s.part.closeAccess.entryWritten c rest
    have hadmin : q.admin = s.part.admin := hkeeps.admin.trans hclosed.admin
    have hengine : q.engine = s.part.engine := hkeeps.engine.trans hclosed.engine
    have hwaits' : q.admin.state = .waiting (.flushRing f) := by rw [hadmin, hwaits]
    obtain ⟨stop, hstop⟩ := Option.isSome_iff_exists.1 hstop
    refine ⟨_, exec_of_effect heffect, ?_, fun hwalked hlast => ?_, fun hmore => ?_⟩
    · rw [Part.react_compl, (q.flushedWritten_compl c).1, hrest]
    · rw [Part.flushedWritten_of_last hwaits' ⟨hstatus, hring⟩ hwalked hlast, Part.react_endCommand_admin, Part.react_compl]
      refine ⟨rfl, rfl, ?_, ?_⟩
      · exact (congrArg₂ succIndex (congrArg Engine.areaSize hengine) (congrArg AdminUnit.consumer hadmin) :)
      · exact (congrArg (endedWith .success (BitVec.ofNat 32 f.made)) hadmin :)
    · rw [Part.flushedWritten_of_more hwaits' ⟨hstatus, hring⟩ hmore,
        Part.react_waitFor_flush (f := { f with unwritten := f.unwritten - 1 }) hstop]
      exact (congrArg (fun a : AdminUnit => { a with state := .waiting (.flushRing { f with unwritten := f.unwritten - 1 }) })
        hadmin :)

end Sys2Proof.Machine
end

section
/-! The counts of the queue (O8): the law does not bound the end that a flush keeps, and a walk to an end
outside the ring stops at a position DONE. -/

-- One declaration at a time: every further thread counts against the memory the check allows.
set_option Elab.async false

namespace Sys2Proof.Machine

/-- A HALTED ring of 16 entries with nothing held, C and F at 0 and the position after them DONE. -/
def SubmissionRing.doneAfterFetch : SubmissionRing :=
  { SubmissionRing.absent with
    state := .halted, size := 16, producer := 17
    span := .notAdmitted :: .done :: List.replicate 62 .notAdmitted }

/-- That ring is flushed to index 17, which no entry of it has, with its completion ring all free. -/
def flushPastRing : State :=
  { pending := [.flushWalk]
    part :=
      { Part.reset with
        engine := { Engine.reset with state := .running }
        admin :=
          { AdminUnit.reset with
            state := .waiting (.flushRing
              { ring := 0, stop := some 17, made := 0, unwritten := 0, walked := false,
                granted := false }) }
        fetch := { FetchUnit.reset with rings := FetchUnit.reset.rings.set 0 .doneAfterFetch }
        compl :=
          { CompletionUnit.reset with
            rings := CompletionUnit.reset.rings.set 0
              { CompletionRing.absent with present := true, size := 16 } } } }

theorem flushPastRing_ring_eq (r : Fin 8) :
    flushPastRing.part.ring r = if r = 0 then .doneAfterFetch else .absent := by
  revert r
  decide

theorem SubmissionRing.doneAfterFetch_getD {i : Nat} (h : SubmissionRing.doneAfterFetch.spanLimit ≤ i) :
    SubmissionRing.doneAfterFetch.span.getD i .notAdmitted = .notAdmitted := by
  obtain ⟨j, rfl⟩ : ∃ j, i = j + 2 := ⟨i - 2, (Nat.sub_add_cancel (Nat.le_trans (by decide) h)).symm⟩
  simp only [doneAfterFetch, List.getD_eq_getElem?_getD, List.getElem?_cons_succ, List.getElem?_replicate]
  split <;> rfl

/-- No slot is in use and nothing awaits posting, so every count is 0. -/
theorem flushPastRing_queueLaw : QueueLaw flushPastRing.part where
  held := by decide
  marks := by decide
  inFlight := by decide
  entries := by decide
  rings := by decide
  span r := by
    rw [flushPastRing_ring_eq]
    split
    · exact ⟨rfl, fun i => SubmissionRing.doneAfterFetch_getD⟩
    · simpa using queueLaw_reset.span r
  positions := by decide
  fetch r h := by
    rw [flushPastRing_ring_eq] at h ⊢
    split at h
    · rw [if_pos ‹_›]
      exact ⟨by decide, by decide, by decide⟩
    · exact absurd h (by decide)
  free := by decide
  deferred := by decide
  active := by decide
  settled := by decide
  reserved k h := absurd h (by revert k; decide)
  waiters := by decide
  fifo _ h := absurd h List.not_mem_nil
  flushed _ h := absurd h List.not_mem_nil
  burst _ _ h := by cases h
  flight _ h := by cases h
  admission _ h := by cases h
  oneFetch := .inl rfl
  flush f h _ := by
    cases h
    decide
  unused := by decide
  absent := by decide
  present := by decide
  holders := by decide

/-- One step of the walk gives position 0 its FLUSHED entry. Position 1 is DONE, but by the index modulo the
size it is already the end, so F stays there; by the index itself it is not, so the flush goes on. -/
theorem flushPastRing_flushWalk_ring :
    (flushPastRing.part.flushWalk.ring 0).state = .halted
      ∧ (flushPastRing.part.flushWalk.ring 0).fetchIndex = 1
      ∧ (flushPastRing.part.flushWalk.ring 0).spanOffset 1
          < (flushPastRing.part.flushWalk.ring 0).spanLimit
      ∧ (flushPastRing.part.flushWalk.ring 0).spanMark 1 = .done := by
  decide

/-- Refutes O8: the law of the queue leaves a flush's end unbounded, and from `flushPastRing`, which meets
it, a step of the walk leaves F of a HALTED ring at a position DONE. -/
theorem not_everyStepKeepsTheCounts : ¬ Obligations.EveryStepKeepsTheCounts := by
  rintro ⟨-, -, hqueue⟩
  have hlaw : QueueLaw flushPastRing.part.flushWalk :=
    hqueue flushPastRing { pending := [], part := flushPastRing.part.flushWalk }
      flushPastRing_queueLaw rfl
  obtain ⟨hhalted, hfetch, hoffset, hdone⟩ := flushPastRing_flushWalk_ring
  obtain ⟨-, -, hmark⟩ := hlaw.fetch 0 (.inr hhalted)
  rw [hfetch] at hmark
  rw [hmark hoffset] at hdone
  cases hdone

end Sys2Proof.Machine
end
